-- ==== Sys2Proof/Word.lean ====
section
/-! DEFINITION. The byte and word types and the numbering of the part's objects (spec/00_scope.md, Table 0-2). -/

namespace Sys2Proof

/-- One byte of a slip, a table or a frame. -/
abbrev Byte := BitVec 8
/-- A 32-bit register or field. -/
abbrev Word := BitVec 32

/-- Slips 0..127. -/
abbrev SlipId := Fin 128
/-- Booking windows 0..23. -/
abbrev WindowId := Fin 24
/-- Printer groups 0..7. -/
abbrev GroupId := Fin 8
/-- Printers 0..15. -/
abbrev PrinterId := Fin 16
/-- Printer line addresses 1..8, held as the address less 1. -/
abbrev AddressIx := Fin 8
/-- Printer lines: 0 is A, 1 is B. -/
abbrev LineId := Fin 2
/-- Ticket classes, and so route entries, 0..63. -/
abbrev ClassId := Fin 64
/-- Stock kinds 0..15. -/
abbrev KindId := Fin 16
/-- Job records 0..63. -/
abbrev JobIx := Fin 64

end Sys2Proof
end

