-- ==== Sys2Proof/Config.lean ====
section
/-! DEFINITION. What an implementation fixes, and the values spec/ leaves open: constants with no body, so that no
statement can rest on a value of theirs. -/

namespace Sys2Proof.Config

/-- IDENT reads this constant (R1, Table 1-1). -/
def ident : Word := 0x24160001#32
/-- The highest XBASE whose area ends inside the 32-bit address space (R2). -/
def xbaseTop : Word := 0xFFFEF000#32
/-- The intake holds at most this many slip numbers (R5). -/
def intakeRoom : Nat := 32
/-- The Spoil Register holds at most this many entries (R152). -/
def registerRoom : Nat := 256
/-- The largest serial (R147). -/
def maxSerial : Nat := 999999
/-- A 32-bit sum saturates here (Table 4-3, Table 9-1). -/
def max32 : Nat := 4294967295
/-- A 16-bit count saturates here (Table 4-3, Table 9-1). -/
def max16 : Nat := 65535
/-- The limit of the reported variance and of the net variance (R160, Table 9-1). -/
def maxVariance : Int := 2147483647

/-- The order in which the sweep of one office tick reaches the four blocks, as indices of the table of R28: that table
fixes none. Applied to the sweep count (log 6). -/
opaque sweepBlocks : Word → List Nat
/-- The order in which the sweep of one office tick examines the windows (R48 gives none; log 6). -/
opaque sweepWindows : Word → List Nat
/-- The order in which the sweep of one office tick examines the printers (R125 and R88 give none; log 6). -/
opaque sweepPrinters : Word → List Nat
/-- Whether the office clock advances before the sweep when one tick makes both (R25 and R26 give no order; log 32). -/
opaque clockFirst : Word → Bool
/-- Whether a LOAD STOCK refused because first serial + count − 1 passes 999,999 names the count or the first serial
(R147 names neither; log 13). Applied to the first serial and the count. -/
opaque loadSpanNamesCount : Nat → Nat → Bool

/-- The check word a loss of the store leaves in place of one that agreed (R168 gives none; log 7). Applied to the number of
the record and the check word lost. -/
opaque lostCheck : Nat → BitVec 16 → BitVec 16

end Sys2Proof.Config
end

