-- ==== Sys2Proof/Syntax.lean ====
section
/-! DEFINITION. The commands: one constructor of `Instr` for each row of spec/opcode_table.json. A slip command carries
the host tag and the raw fields of the request area that the fetch read (Tables 11-8 and 11-9); a frame command the
raw fields of the payload received (Table 11-18). Raw fields hold every value their widths allow; the rules test them. -/

namespace Sys2Proof

/-- The request of an ISSUE slip (Table 11-8); `face` is the 96 face bytes as read. -/
structure IssueRequest where
  window : Byte
  ticketClass : Byte
  sale : BitVec 16
  lastInSale : Bool
  minimumFare : Bool
  service : Byte
  tender : Byte
  quantity : Byte
  baseFare : Word
  discount : BitVec 16
  faceLength : Byte
  face : List Byte
  deriving DecidableEq, Repr

/-- The request of a TEST PRINT slip (Table 11-8). -/
structure TestPrintRequest where
  printer : Byte
  faceLength : Byte
  face : List Byte
  deriving DecidableEq, Repr

/-- The request of a REFUND slip (Table 11-9). -/
structure RefundRequest where
  window : Byte
  tender : Byte
  kind : Byte
  value : Word
  serial : Word
  deriving DecidableEq, Repr

/-- The request of a LOAD STOCK slip (Table 11-9). -/
structure LoadStockRequest where
  printer : Byte
  kind : Byte
  count : BitVec 16
  first : Word
  deriving DecidableEq, Repr

/-- The request of a CASH-UP slip (Table 11-9). -/
structure CashUpRequest where
  window : Byte
  withdrawUnsent : Byte
  declaredWarrants : BitVec 16
  declaredCash : Word
  deriving DecidableEq, Repr

/-- The request of a SET OFFICE slip (Table 11-9). -/
structure OfficeRequest where
  minimumFare : Word
  tolerance : BitVec 16
  roundingStep : Byte
  sweepPeriod : Byte
  interval : Byte
  reprintLimit : Byte
  spoilRunLimit : Byte
  deriving DecidableEq, Repr

/-- The request of a SET WINDOW slip (Table 11-9). -/
structure WindowRequest where
  window : Byte
  enabled : Byte
  homeGroup : Byte
  alternateGroup : Byte
  holdPolicy : Byte
  allowance : Byte
  weight : Byte
  quota : Byte
  float : Word
  deriving DecidableEq, Repr

/-- The request of a SET ROUTE slip (Table 11-9). -/
structure RouteRequest where
  ticketClass : Byte
  valid : Byte
  kind : Byte
  fallback : Byte
  windowMask : Word
  forcing : Byte
  deriving DecidableEq, Repr

/-- One outcome entry of a STATUS reply, as received (section 11.6). -/
structure OutcomeEntry where
  token : Byte
  outcome : Byte
  k : Byte
  cause : Byte
  deriving DecidableEq, Repr

/-- A register write, a fetched slip, a frame from a printer, or an event of the part, a pin or time. -/
inductive Instr where
  -- register writes (chapters 1 and 2)
  | xbaseWrite (value : Word)
  | post (value : Word)
  | attnWrite (value : Word)
  | attnEnWrite (value : Word)
  | run
  | hold
  | restart
  | cold
  | registerWriteIgnored (offset : BitVec 6) (byteEnables : BitVec 4) (value : Word)
  -- power and starts (chapter 10)
  | powerUp (coldStrap : Bool)
  | pciReset
  | pciResetRelease
  | mainPowerLoss
  | vbkLoss
  | startComplete
  -- the Time Base (chapter 2)
  | officeClockAdvance
  | sweep (blocks windows printers : List Nat)
  | allowanceReload
  -- the Exchange Port (chapter 1)
  | fetchRequest
  | engineAccessStart
  | returnResultWritten
  | returnComplete
  | headerWriteComplete
  | tableWriteComplete
  | accessFail
  -- slips: the fetch that read the slip has completed
  | issue (tag : Word) (request : IssueRequest)
  | void (tag : Word) (window : Byte) (sale : BitVec 16)
  | refund (tag : Word) (request : RefundRequest)
  | readTally (tag : Word) (window : Byte)
  | loadStock (tag : Word) (request : LoadStockRequest)
  | unloadStock (tag : Word) (printer : Byte)
  | readSpoils (tag : Word) (index : BitVec 16)
  | rollCall (tag : Word) (line mask : Byte)
  | testPrint (tag : Word) (request : TestPrintRequest)
  | printerServiceEnter (tag : Word) (printer : Byte)
  | printerServiceLeave (tag : Word) (printer : Byte)
  | printerServiceAcknowledge (tag : Word) (printer action : Byte)
  | cashUp (tag : Word) (request : CashUpRequest)
  | endOfDay (tag : Word)
  | setOffice (tag : Word) (request : OfficeRequest)
  | setWindow (tag : Word) (request : WindowRequest)
  | setRoute (tag : Word) (request : RouteRequest)
  | setPrinter (tag : Word) (printer configured group : Byte)
  | setLine (tag : Word) (line rate window limit : Byte)
  | setStockKind (tag : Word) (kind : Byte) (lowMark band : BitVec 16)
  | badKind (tag : Word) (kind : Byte)
  -- grant (chapter 5)
  | arbiterAction (group : GroupId)
  -- the printer lines (chapter 6)
  | lineTurn (line : LineId)
  | replyWindowExpiry (line : LineId)
  | characterGapTimeout (line : LineId)
  | badReply (line : LineId) (bytes : List Byte)
  | frameDiscarded (line : LineId) (bytes : List Byte)
  | status (line : LineId) (address flags waiting : Byte) (entries : List OutcomeEntry)
  | accept (line : LineId) (address token : Byte)
  | refuse (line : LineId) (address token reason : Byte)
  | serial (line : LineId) (address : Byte) (serial : Word) (kind : Byte)
  | retry (line : LineId) (address : Byte)
  | slotExpiry (line : LineId)
  | badAnswer (line : LineId) (bytes : List Byte)
  | commandFrameEnd (line : LineId)
  deriving DecidableEq, Repr

end Sys2Proof
end

