-- ==== Sys2Proof/WellFormed.lean ====
section
/-! DEFINITION. Which terms of `Instr` spell a command of the table: the operands a layout or a numbering bounds. Raw
fields that a rule tests (a window number, a reason code) are not bounded here. -/

namespace Sys2Proof

/-- The orders a sweep is given name each block, window and printer at most once and no other number (R28, R48, R125). -/
def orderOk (bound : Nat) (named : List Nat) : Bool :=
  decide named.Nodup && named.all (· < bound)

/-- Kind codes of Table 11-5. -/
def knownKind (kind : Byte) : Bool := 1 ≤ kind.toNat && kind.toNat ≤ 18

/-- A write to the register window that has no effect at any time: a byte enable deasserted, IDENT, an offset of no
register, or OFFICE with a value that is no command (R1, R3). -/
def ignoredWrite (offset : BitVec 6) (byteEnables : BitVec 4) (value : Word) : Bool :=
  byteEnables != 0xF#4 || offset.toNat / 4 == 0 || 6 ≤ offset.toNat / 4
    || (offset.toNat / 4 == 5 && !(1 ≤ value.toNat && value.toNat ≤ 4))

/-- The operands a layout or a numbering bounds are within it. -/
def Instr.wellFormed : Instr → Bool
  | .issue _ r => r.face.length == 96
  | .testPrint _ r => r.face.length == 96
  | .badKind _ kind => !knownKind kind
  | .printerServiceAcknowledge _ _ action => action != 1#8 && action != 2#8
  | .sweep blocks windows printers => orderOk 4 blocks && orderOk 24 windows && orderOk 16 printers
  | .status _ _ _ _ entries => entries.length ≤ 27
  | .registerWriteIgnored offset byteEnables value => ignoredWrite offset byteEnables value
  | .xbaseWrite .. | .post .. | .attnWrite .. | .attnEnWrite .. | .run | .hold | .restart | .cold
  | .powerUp .. | .pciReset | .pciResetRelease | .mainPowerLoss | .vbkLoss | .startComplete
  | .officeClockAdvance | .allowanceReload | .fetchRequest | .engineAccessStart | .returnResultWritten
  | .returnComplete | .headerWriteComplete | .tableWriteComplete | .accessFail | .void .. | .refund .. | .readTally ..
  | .loadStock .. | .unloadStock .. | .readSpoils .. | .rollCall .. | .printerServiceEnter .. | .printerServiceLeave ..
  | .cashUp .. | .endOfDay .. | .setOffice .. | .setWindow .. | .setRoute .. | .setPrinter .. | .setLine ..
  | .setStockKind .. | .arbiterAction .. | .lineTurn .. | .replyWindowExpiry .. | .characterGapTimeout .. | .badReply ..
  | .frameDiscarded .. | .accept .. | .refuse .. | .serial .. | .retry .. | .slotExpiry .. | .badAnswer ..
  | .commandFrameEnd .. => true

end Sys2Proof
end

