-- ==== Sys2Proof/Decode.lean ====
section
/-! DEFINITION. Byte layouts read and written: multi-byte fields (R176), line frames with their check and their characters
(R94, R95, R179), slips (R178, Tables 11-4, 11-5, 11-8, 11-9), the command a write to the register window spells (R1,
R3), and the host's word decoder, which spells no command because
spec/opcode_table.json gives no row any bits (log 27). -/

namespace Sys2Proof

/-! ### Multi-byte fields (R176) -/

/-- `n` bytes of `v`, least significant first. -/
def le : Nat → Nat → List Byte
  | 0, _ => []
  | n + 1, v => BitVec.ofNat 8 v :: le n (v / 256)

/-- The number that bytes spell, least significant first. -/
def ofLe : List Byte → Nat
  | [] => 0
  | b :: rest => b.toNat + 256 * ofLe rest

/-- `n` bytes of `v`, most significant first (printer lines). -/
def be (n v : Nat) : List Byte := (le n v).reverse

/-- The number that bytes spell, most significant first. -/
def ofBe (bytes : List Byte) : Nat := ofLe bytes.reverse

/-- `n` bytes of a signed field in two's complement. -/
def leInt (n : Nat) (v : Int) : List Byte := le n (v % (256 ^ n : Nat)).toNat

/-- The `n` bytes at an offset; a byte past the end reads 0. -/
def field (bytes : List Byte) (offset n : Nat) : List Byte :=
  (List.range n).map fun i => bytes.getD (offset + i) 0#8

/-- The byte at an offset. -/
def u8 (bytes : List Byte) (offset : Nat) : Byte := bytes.getD offset 0#8
/-- The 16-bit field at an offset. -/
def u16 (bytes : List Byte) (offset : Nat) : BitVec 16 := BitVec.ofNat 16 (ofLe (field bytes offset 2))
/-- The 32-bit field at an offset. -/
def u32 (bytes : List Byte) (offset : Nat) : Word := BitVec.ofNat 32 (ofLe (field bytes offset 4))

/-- `bytes` cut or filled with zeros to `n` bytes (R177). -/
def padTo (n : Nat) (bytes : List Byte) : List Byte := bytes.take n ++ List.replicate (n - bytes.length) 0#8

/-! ### The frame check (R94) -/

/-- One bit of the check: polynomial 0x1021, most significant bit first. -/
def crcShift (crc : BitVec 16) : BitVec 16 :=
  if crc.getLsbD 15 then (crc <<< 1) ^^^ 0x1021#16 else crc <<< 1

/-- One byte of the check. -/
def crcByte (crc : BitVec 16) (b : Byte) : BitVec 16 :=
  let c := crc ^^^ (b.setWidth 16 <<< 8)
  crcShift (crcShift (crcShift (crcShift (crcShift (crcShift (crcShift (crcShift c)))))))

/-- The CRC-16 of R94: initial value 0xFFFF, no final inversion. -/
def crc16 (bytes : List Byte) : BitVec 16 := bytes.foldl crcByte 0xFFFF#16

/-! ### Frames (R94, R95, Tables 11-17 and 11-18) -/

/-- The lead byte of every frame. -/
def leadByte : Byte := 0xA5#8

/-- A whole frame: lead byte, address, kind, length, payload, check high byte first. -/
def frameBytes (address kind : Byte) (payload : List Byte) : List Byte :=
  let body := address :: kind :: BitVec.ofNat 8 payload.length :: payload
  leadByte :: (body ++ be 2 (crc16 body).toNat)

/-- What a Line Controller makes of bytes (R95). -/
inductive Received where
  /-- no lead byte: every byte is ignored -/
  | nothing
  /-- a frame begun and discarded: broken off, over length, or a wrong check -/
  | discarded
  /-- a received frame -/
  | frame (address kind : Byte) (payload : List Byte)
  deriving DecidableEq, Repr

/-- The bytes from the first lead byte on, without it. -/
def afterLead : List Byte → Option (List Byte)
  | [] => none
  | b :: rest => if b = leadByte then some rest else afterLead rest

/-- R95: ignore bytes before the lead byte, read address, kind, length, payload and check, and discard a frame that is
broken off, whose length passes 112, or whose check differs. -/
def receiveBytes (bytes : List Byte) : Received :=
  match afterLead bytes with
  | none => .nothing
  | some (address :: kind :: length :: rest) =>
    let payload := rest.take length.toNat
    let check := (rest.drop length.toNat).take 2
    if length.toNat > 112 then .discarded
    else if payload.length = length.toNat ∧ check = be 2 (crc16 (address :: kind :: length :: payload)).toNat then
      .frame address kind payload
    else .discarded
  | some _ => .discarded

/-! ### Characters (R94) -/

/-- One bit of a character on a line, as the line carries it. -/
inductive CharacterBit where
  | start
  | data (level : Bool)
  | stop
  deriving DecidableEq, Repr

/-- A character: one start bit, 8 data bits least significant first, no parity bit, one stop bit. -/
def characterBits (b : Byte) : List CharacterBit :=
  .start :: ((List.range 8).map fun i => .data (b.getLsbD i)) ++ [.stop]

/-- The bits of a run of bytes, one character after another. -/
def lineBits (bytes : List Byte) : List CharacterBit := bytes.flatMap characterBits

/-- The byte that data bits spell, least significant first; none where a bit is no data bit. -/
def dataByte : List CharacterBit → Option Byte
  | [] => some 0#8
  | .data level :: rest => (dataByte rest).map fun (b : Byte) => b <<< 1 ||| (if level then 1#8 else 0#8)
  | _ :: _ => none

/-- The byte of one character; none where its ten bits are not of the form. -/
def readCharacter (bits : List CharacterBit) : Option Byte :=
  match bits with
  | [.start, a, b, c, d, e, f, g, h, .stop] => dataByte [a, b, c, d, e, f, g, h]
  | _ => none

/-- The payload of a frame a printer sends (Table 11-18). -/
inductive Reply where
  | status (flags waiting : Byte) (entries : List OutcomeEntry)
  | accept (token : Byte)
  | refuse (token reason : Byte)
  | serial (serial : Word) (kind : Byte)
  | retry
  deriving DecidableEq, Repr

/-- Outcome entries of four bytes each: token, outcome, k, cause. -/
def parseEntries : List Byte → List OutcomeEntry
  | t :: o :: k :: c :: rest => { token := t, outcome := o, k := k, cause := c } :: parseEntries rest
  | _ => []

/-- R179: a payload that fits its kind: the length Table 11-18 gives, and for STATUS 3 plus 4 times the entry count. -/
def parseReply (kind : Byte) (payload : List Byte) : Option Reply :=
  if kind = 0x81#8 then
    match payload with
    | flags :: waiting :: count :: rest =>
      if rest.length = 4 * count.toNat then some (.status flags waiting (parseEntries rest)) else none
    | _ => none
  else if kind = 0x82#8 then
    match payload with
    | [token] => some (.accept token)
    | _ => none
  else if kind = 0x83#8 then
    match payload with
    | [token, reason] => some (.refuse token reason)
    | _ => none
  else if kind = 0x84#8 then
    match payload with
    | [a, b, c, d, k] => some (.serial (BitVec.ofNat 32 (ofBe [a, b, c, d])) k)
    | _ => none
  else if kind = 0x85#8 then
    match payload with
    | [] => some .retry
    | _ => none
  else none

/-- The kind byte of a reply (Table 11-18). -/
def replyKind : Reply → Byte
  | .status .. => 0x81#8
  | .accept .. => 0x82#8
  | .refuse .. => 0x83#8
  | .serial .. => 0x84#8
  | .retry => 0x85#8

/-- The payload of a reply (Table 11-18). -/
def replyPayload : Reply → List Byte
  | .status flags waiting entries =>
    flags :: waiting :: BitVec.ofNat 8 entries.length :: entries.flatMap fun e => [e.token, e.outcome, e.k, e.cause]
  | .accept token => [token]
  | .refuse token reason => [token, reason]
  | .serial s k => be 4 s.toNat ++ [k]
  | .retry => []

/-- The bytes of a reply as a printer sends it. -/
def encodeReply (address : Byte) (reply : Reply) : List Byte :=
  frameBytes address (replyKind reply) (replyPayload reply)

/-- The address and reply that bytes received spell; none where no frame is received or its payload does not fit. -/
def decodeReply (bytes : List Byte) : Option (Byte × Reply) :=
  match receiveBytes bytes with
  | .frame address kind payload => (parseReply kind payload).map fun r => (address, r)
  | _ => none

/-! ### Slips (Tables 11-4, 11-5, 11-8, 11-9) -/

/-- A slip's 512 bytes from its kind byte, host tag and request area; the part's own fields 0. -/
def slipBytes (kind : Byte) (tag : Word) (request : List Byte) : List Byte :=
  padTo 512 (kind :: 0#8 :: 0#8 :: 0#8 :: (le 4 tag.toNat ++ le 8 0 ++ padTo 176 request))

/-- Read an ISSUE request area (Table 11-8); reserved bits are ignored (R178). -/
def issueOf (q : List Byte) : IssueRequest :=
  { window := u8 q 0, ticketClass := u8 q 1, sale := u16 q 2, lastInSale := (u8 q 4).getLsbD 0,
    minimumFare := (u8 q 4).getLsbD 1, service := u8 q 5, tender := u8 q 6, quantity := u8 q 7, baseFare := u32 q 8,
    discount := u16 q 12, faceLength := u8 q 14, face := field q 16 96 }

/-- The command a fetched slip spells: its kind byte read whole, its request fields at their offsets (R178). A PRINTER
SERVICE action that is neither ENTER nor LEAVE is read as the ACKNOWLEDGE row with its raw action (log 11). -/
def decodeSlip (b : List Byte) : Instr :=
  let tag := u32 b 4
  let q := b.drop 16
  match (u8 b 0).toNat with
  | 1 => .issue tag (issueOf q)
  | 2 => .void tag (u8 q 0) (u16 q 2)
  | 3 => .refund tag { window := u8 q 0, tender := u8 q 1, kind := u8 q 2, value := u32 q 4, serial := u32 q 8 }
  | 4 => .readTally tag (u8 q 0)
  | 5 => .loadStock tag { printer := u8 q 0, kind := u8 q 1, count := u16 q 2, first := u32 q 4 }
  | 6 => .unloadStock tag (u8 q 0)
  | 7 => .readSpoils tag (u16 q 0)
  | 8 => .rollCall tag (u8 q 0) (u8 q 1)
  | 9 => .testPrint tag { printer := u8 q 0, faceLength := u8 q 1, face := field q 16 96 }
  | 10 =>
    if u8 q 1 = 1#8 then .printerServiceEnter tag (u8 q 0)
    else if u8 q 1 = 2#8 then .printerServiceLeave tag (u8 q 0)
    else .printerServiceAcknowledge tag (u8 q 0) (u8 q 1)
  | 11 => .cashUp tag
      { window := u8 q 0, withdrawUnsent := u8 q 1, declaredWarrants := u16 q 2, declaredCash := u32 q 4 }
  | 12 => .endOfDay tag
  | 13 => .setOffice tag
      { minimumFare := u32 q 0, tolerance := u16 q 4, roundingStep := u8 q 6, sweepPeriod := u8 q 7,
        interval := u8 q 8, reprintLimit := u8 q 9, spoilRunLimit := u8 q 10 }
  | 14 => .setWindow tag
      { window := u8 q 0, enabled := u8 q 1, homeGroup := u8 q 2, alternateGroup := u8 q 3, holdPolicy := u8 q 4,
        allowance := u8 q 5, weight := u8 q 6, quota := u8 q 7, float := u32 q 8 }
  | 15 => .setRoute tag
      { ticketClass := u8 q 0, valid := u8 q 1, kind := u8 q 2, fallback := u8 q 3, windowMask := u32 q 4,
        forcing := u8 q 8 }
  | 16 => .setPrinter tag (u8 q 0) (u8 q 1) (u8 q 2)
  | 17 => .setLine tag (u8 q 0) (u8 q 1) (u8 q 2) (u8 q 3)
  | 18 => .setStockKind tag (u8 q 0) (u16 q 2) (u16 q 4)
  | _ => .badKind tag (u8 b 0)

/-- The request area of an ISSUE (Table 11-8). -/
def issueBytes (r : IssueRequest) : List Byte :=
  [r.window, r.ticketClass] ++ le 2 r.sale.toNat
    ++ [BitVec.ofNat 8 (r.lastInSale.toNat + 2 * r.minimumFare.toNat), r.service, r.tender, r.quantity]
    ++ le 4 r.baseFare.toNat ++ le 2 r.discount.toNat ++ [r.faceLength, 0#8] ++ r.face

/-- The request area of a SET OFFICE (Table 11-9). -/
def officeBytes (r : OfficeRequest) : List Byte :=
  le 4 r.minimumFare.toNat ++ le 2 r.tolerance.toNat
    ++ [r.roundingStep, r.sweepPeriod, r.interval, r.reprintLimit, r.spoilRunLimit]

/-- The request area of a SET WINDOW (Table 11-9). -/
def windowBytes (r : WindowRequest) : List Byte :=
  [r.window, r.enabled, r.homeGroup, r.alternateGroup, r.holdPolicy, r.allowance, r.weight, r.quota]
    ++ le 4 r.float.toNat

/-- The request area of a SET ROUTE (Table 11-9). -/
def routeBytes (r : RouteRequest) : List Byte :=
  [r.ticketClass, r.valid, r.kind, r.fallback] ++ le 4 r.windowMask.toNat ++ [r.forcing]

/-- The 512 bytes of the slip that spells a slip command, written from the layouts; none for a command that is no slip. -/
def encodeSlip : Instr → Option (List Byte)
  | .issue tag r => some (slipBytes 1#8 tag (issueBytes r))
  | .void tag w sale => some (slipBytes 2#8 tag ([w, 0#8] ++ le 2 sale.toNat))
  | .refund tag r => some (slipBytes 3#8 tag
      ([r.window, r.tender, r.kind, 0#8] ++ le 4 r.value.toNat ++ le 4 r.serial.toNat))
  | .readTally tag w => some (slipBytes 4#8 tag [w])
  | .loadStock tag r => some (slipBytes 5#8 tag ([r.printer, r.kind] ++ le 2 r.count.toNat ++ le 4 r.first.toNat))
  | .unloadStock tag p => some (slipBytes 6#8 tag [p])
  | .readSpoils tag i => some (slipBytes 7#8 tag (le 2 i.toNat))
  | .rollCall tag l m => some (slipBytes 8#8 tag [l, m])
  | .testPrint tag r => some (slipBytes 9#8 tag ([r.printer, r.faceLength] ++ List.replicate 14 0#8 ++ r.face))
  | .printerServiceEnter tag p => some (slipBytes 10#8 tag [p, 1#8])
  | .printerServiceLeave tag p => some (slipBytes 10#8 tag [p, 2#8])
  | .printerServiceAcknowledge tag p a => some (slipBytes 10#8 tag [p, a])
  | .cashUp tag r => some (slipBytes 11#8 tag
      ([r.window, r.withdrawUnsent] ++ le 2 r.declaredWarrants.toNat ++ le 4 r.declaredCash.toNat))
  | .endOfDay tag => some (slipBytes 12#8 tag [])
  | .setOffice tag r => some (slipBytes 13#8 tag (officeBytes r))
  | .setWindow tag r => some (slipBytes 14#8 tag (windowBytes r))
  | .setRoute tag r => some (slipBytes 15#8 tag (routeBytes r))
  | .setPrinter tag p c g => some (slipBytes 16#8 tag [p, c, g])
  | .setLine tag l rate w lim => some (slipBytes 17#8 tag [l, rate, w, lim])
  | .setStockKind tag k low band => some (slipBytes 18#8 tag ([k, 0#8] ++ le 2 low.toNat ++ le 2 band.toNat))
  | .badKind tag kind => some (slipBytes kind tag [])
  | .xbaseWrite .. | .post .. | .attnWrite .. | .attnEnWrite .. | .run | .hold | .restart | .cold
  | .registerWriteIgnored .. | .powerUp .. | .pciReset | .pciResetRelease | .mainPowerLoss | .vbkLoss | .startComplete
  | .officeClockAdvance | .sweep .. | .allowanceReload | .fetchRequest | .engineAccessStart | .returnResultWritten
  | .returnComplete | .headerWriteComplete | .tableWriteComplete | .accessFail | .arbiterAction .. | .lineTurn ..
  | .replyWindowExpiry .. | .characterGapTimeout .. | .badReply .. | .frameDiscarded .. | .status .. | .accept ..
  | .refuse .. | .serial .. | .retry .. | .slotExpiry .. | .badAnswer .. | .commandFrameEnd .. => none

/-! ### Writes to the register window (R1, R3) -/

/-- The command a write of one word spells, by its word offset: the whole value of OFFICE is the command's code. A write
that names no command is REGISTER_WRITE_IGNORED. -/
def windowWrite (offset : BitVec 6) (byteEnables : BitVec 4) (value : Word) : Instr :=
  if ignoredWrite offset byteEnables value then .registerWriteIgnored offset byteEnables value
  else match offset.toNat / 4, value.toNat with
    | 1, _ => .xbaseWrite value
    | 2, _ => .post value
    | 3, _ => .attnWrite value
    | 4, _ => .attnEnWrite value
    | 5, 1 => .run
    | 5, 2 => .hold
    | 5, 3 => .restart
    | 5, 4 => .cold
    | _, _ => .registerWriteIgnored offset byteEnables value

/-- The commands of a burst of writes from an offset, each word a write of its own at its own offset, as far as the window
reaches. -/
def burstWrites : Nat → List (BitVec 4 × Word) → List Instr
  | _, [] => []
  | offset, (byteEnables, value) :: rest =>
    if offset < 64 then windowWrite (BitVec.ofNat 6 offset) byteEnables value :: burstWrites (offset + 4) rest else []

/-! ### The host's word decoder -/

/-- spec/opcode_table.json gives no row any bits, so no word spells a command (log 27). -/
def decodeTableWord (_nbits _w : Nat) : Option Instr := none

end Sys2Proof
end

