-- ==== Sys2Proof/Machine/State.lean ====
section
/-! DEFINITION. Everything spec/ gives the part, as plain data, and `State.reset`: the part after a completed cold start
(R1, R171, R172, R175; log 1). -/

namespace Sys2Proof.Machine

/-! ### Power and starts (chapter 10) -/

/-- The records of Table 10-1, each with its own check word (R167); a window's two tally slots are `current` and
`closing`. -/
inductive RetainedRecord where
  | window (w : WindowId)
  | route (c : ClassId)
  | printer (p : PrinterId)
  | line (l : LineId)
  | settings
  | magazine (p : PrinterId)
  | stockKind (k : KindId)
  | register
  | current (w : WindowId)
  | closing (w : WindowId)
  | dayTotals
  deriving DecidableEq, Repr

/-- Every record of the Retained Store, 189 in all. -/
def everyRecord : List RetainedRecord :=
  (List.finRange 24).map .window ++ (List.finRange 64).map .route ++ (List.finRange 16).map .printer
    ++ (List.finRange 2).map .line ++ [.settings] ++ (List.finRange 16).map .magazine
    ++ (List.finRange 16).map .stockKind ++ [.register] ++ (List.finRange 24).map .current
    ++ (List.finRange 24).map .closing ++ [.dayTotals]

/-- A start in progress (R169, R170). -/
structure StartInProgress where
  /-- cold or warm -/
  cold : Bool
  /-- RLOST will be set (Table 10-2) -/
  lost : Bool
  /-- seconds counted since a cold start began, which become the office clock (R170; log 8) -/
  seconds : Word
  deriving DecidableEq, Repr

/-! ### Office and Time Base (chapter 2) -/

/-- The four office states (R19). -/
inductive OfficeState where
  | standby | running | hold | exchangeFault
  deriving DecidableEq, Repr

/-- The volatile part of the Time Base. -/
structure TimeBase where
  /-- millisecond divider, 0..999 (R25) -/
  divider : Nat
  /-- sweep counter (R26) -/
  sweepCounter : BitVec 16
  /-- sweep count (R28) -/
  sweepCount : Word
  /-- allowance divider, 0..15 (R29) -/
  allowanceDivider : Nat
  /-- the model's own: the divider has reached N and the reload is still to be taken (R29, R82; log 20) -/
  reloadDue : Bool
  deriving DecidableEq, Repr

/-- The retained office settings record (Table 2-4, R25, R167). -/
structure OfficeSettings where
  roundingStep : Nat
  minimumFare : Nat
  tolerance : Nat
  sweepPeriod : Nat
  interval : Nat
  reprintLimit : Nat
  spoilRunLimit : Nat
  clock : Word
  startCount : Word
  deriving DecidableEq, Repr

/-! ### The Exchange Port (chapter 1) -/

/-- Why a post was refused (R5, Table 11-1). -/
inductive PostReason where
  | none | range | double | full
  deriving DecidableEq, Repr

/-- The Slip Reader's states (section 1.4). -/
inductive ReaderState where
  | idle | fetching | waitingRecord
  deriving DecidableEq, Repr

/-- A write mark: clear, set, or set with its attention cause (R12). -/
inductive WriteMark where
  | clear | plain | withCause
  deriving DecidableEq, Repr

/-- The result codes of Table 11-6. -/
inductive ResultCode where
  | done | printed | spoiled | inDoubt | withdrawn | noPrinter | routeRefused | windowClosed | windowFull | badField
  | badKind | busy | notAllowed | statement
  deriving DecidableEq, Repr

/-- A return entry (R9): the result itself, with its 320-byte result area. -/
structure ReturnEntry where
  slip : SlipId
  tag : Word
  code : ResultCode
  detail : Word
  clock : Word
  area : List Byte
  deriving DecidableEq, Repr

/-- The access in progress with what it writes (R4, R10, R12). -/
inductive Access where
  | fetch (slip : SlipId)
  /-- a return, writing the result fields (step 1 of R10) -/
  | returnFields (entry : ReturnEntry)
  /-- a return, writing the Return Map byte (step 2 of R10) -/
  | returnMap (entry : ReturnEntry)
  | header (content : List Byte)
  | printerEntry (printer : PrinterId) (content : List Byte) (cause : Bool)
  | stockEntry (kind : KindId) (content : List Byte) (cause : Bool)
  deriving DecidableEq, Repr

/-- The failed access recorded for retry (R15). -/
inductive FailedAccess where
  | fetch (slip : SlipId)
  | returning
  | header
  | printerEntry (printer : PrinterId)
  | stockEntry (kind : KindId)
  deriving DecidableEq, Repr

/-- The registers and lists of the Exchange Port and the Slip Reader. -/
structure ExchangePort where
  xbase : Word
  attn : BitVec 7
  attnEn : BitVec 7
  held : BitVec 128
  intake : List SlipId
  reader : ReaderState
  returns : List ReturnEntry
  engine : Option Access
  failed : Option FailedAccess
  headerMark : Bool
  printerMarks : Vector WriteMark 16
  stockMarks : Vector WriteMark 16
  slipsTaken : Word
  slipsReturned : Word
  postsRefused : Word
  lastRefused : Word
  lastReason : PostReason
  deriving DecidableEq, Repr

/-! ### Windows and jobs (chapter 3) -/

/-- Hold policies (Table 3-1). -/
inductive HoldPolicy where
  | each | onDemand | saleEnd
  deriving DecidableEq, Repr

/-- A window record (Table 3-1). -/
structure WindowRecord where
  enabled : Bool
  homeGroup : GroupId
  alternateGroup : Option GroupId
  holdPolicy : HoldPolicy
  allowance : Nat
  weight : Nat
  quota : Nat
  float : Nat
  deriving DecidableEq, Repr

/-- Tender kinds. -/
inductive Tender where
  | cash | card | warrant | voucher
  deriving DecidableEq, Repr

/-- Service classes. -/
inductive ServiceClass where
  | standard | express
  deriving DecidableEq, Repr

/-- The states of a job in the Job Table (section 3.4). -/
inductive JobState where
  | queued | granted | sending | sent
  deriving DecidableEq, Repr

/-- A job's target (R34, R50). -/
inductive Target where
  | home | alternate
  deriving DecidableEq, Repr

/-- The fields of a job record in use (Table 3-2); the token, the test flag and the index are computed (log 14). -/
structure Job where
  slip : SlipId
  tag : Word
  /-- none for a test print (R40) -/
  window : Option WindowId
  sale : BitVec 16
  lastInSale : Bool
  ticketClass : ClassId
  kind : KindId
  service : ServiceClass
  /-- none for a test print -/
  tender : Option Tender
  quantity : Nat
  fare : Nat
  amount : Nat
  clamped : Bool
  face : List Byte
  shift : Nat
  state : JobState
  target : Target
  aged : Bool
  printer : Option PrinterId
  serial : Option Nat
  reprints : Nat
  outcomeWait : Bool
  deriving DecidableEq, Repr

/-- A job record: its generation, kept while it is free, and its job while it is in use (R37). -/
structure JobRecord where
  generation : Fin 4
  job : Option Job
  deriving DecidableEq, Repr

/-! ### Routes and arbiters (chapter 5) -/

/-- Service forcing (Table 5-1). -/
inductive Forcing where
  | byOrder | alwaysStandard | alwaysExpress
  deriving DecidableEq, Repr

/-- A route entry (Table 5-1). -/
structure RouteEntry where
  valid : Bool
  kind : KindId
  fallback : Bool
  mask : BitVec 24
  forcing : Forcing
  deriving DecidableEq, Repr

/-- The ring state of one Group Arbiter (Table 5-2). -/
structure Arbiter where
  lastExpress : WindowId
  token : WindowId
  burst : Nat
  deriving DecidableEq, Repr

/-- The kind of a hold; a SALE_END hold names its sale (R83). -/
inductive HoldKind where
  | onDemand
  | saleEnd (sale : BitVec 16)
  deriving DecidableEq, Repr

/-- A hold: holder, kind and hold-idle flag (R83). -/
structure Hold where
  window : WindowId
  kind : HoldKind
  idle : Bool
  deriving DecidableEq, Repr

/-! ### Printers (chapter 7) -/

/-- Printer states (Table 7-1). -/
inductive PrinterState where
  | unconfigured | offline | recovering | ready | empty | faulted
  deriving DecidableEq, Repr

/-- Fault causes (Table 7-3). -/
inductive FaultCause where
  | jam | coverOpen | overheat | stockMismatch | lineSilent | noOutcome | spoilRun | restartInDoubt
  deriving DecidableEq, Repr

/-- Fault record states (Table 7-4). -/
inductive FaultState where
  | none | opened | acknowledged
  deriving DecidableEq, Repr

/-- A fault record (Table 7-4). -/
structure FaultRecord where
  state : FaultState
  first : Option FaultCause
  latest : Option FaultCause
  flags : BitVec 5
  clock : Word
  further : Nat
  token : Option Byte
  serial : Option Nat
  deriving DecidableEq, Repr

/-- A printer record with its configuration (Tables 6-2 and 7-1). -/
structure Printer where
  configured : Bool
  group : GroupId
  state : PrinterState
  fault : FaultRecord
  outstanding : List JobIx
  hold : Option Hold
  spoilRun : Nat
  lastFlags : BitVec 5
  /-- the not-ready mark with its token (R122) -/
  notReady : Option Byte
  deriving DecidableEq, Repr

/-! ### Printer lines (chapter 6) -/

/-- Bit rates (Table 6-1). -/
inductive BitRate where
  | r115200 | r38400
  deriving DecidableEq, Repr

/-- A line configuration (Table 6-1). -/
structure LineConfig where
  rate : BitRate
  window : Nat
  retryLimit : Nat
  deriving DecidableEq, Repr

/-- A line record (Table 6-4); an ack token of none is 0xFF. -/
structure LineRecord where
  failures : Nat
  ackToken : Byte
  reported : List Byte
  repeatJob : Option Byte
  clearRequest : Bool
  strays : Nat
  deriving DecidableEq, Repr

/-- The command frame of an exchange (R100). -/
inductive CommandKind where
  | poll
  | print (token : Byte)
  | clear
  deriving DecidableEq, Repr

/-- An exchange (section 6.3), with the configuration it began under (R92). -/
structure Exchange where
  printer : PrinterId
  command : CommandKind
  window : Nat
  rate : BitRate
  /-- the printer was made UNCONFIGURED during the exchange, so its end has no effect (R93) -/
  void : Bool
  deriving DecidableEq, Repr

/-- What a line is doing; the slots of a round are a mask of addresses, bit a − 1 for address a. -/
inductive Activity where
  | free
  | sending (exchange : Exchange)
  | awaiting (exchange : Exchange)
  | recalling (slots : BitVec 8)
  | slot (address : AddressIx) (later : BitVec 8)
  deriving DecidableEq, Repr

/-- Roll-call states (R109). -/
inductive RollPhase where
  | none | waiting | round | between
  deriving DecidableEq, Repr

/-- A line's roll call (R109): sets of addresses as masks, bit a − 1 for address a. -/
structure RollCall where
  phase : RollPhase
  number : Nat
  waitingSet : BitVec 8
  runningSet : BitVec 8
  pendingSet : BitVec 8
  /-- the addresses of the running set whose result is known -/
  known : BitVec 8
  deriving DecidableEq, Repr

/-- A roll-call result (R112, R113). -/
inductive RollResult where
  | verified
  | rolledBack (count : Nat)
  | mismatch (serial : Nat)
  | unanswered
  deriving DecidableEq, Repr

/-- A held ROLL CALL slip with the results kept for it (R114). -/
structure RollSlip where
  slip : SlipId
  tag : Word
  mask : BitVec 8
  results : Vector (Option RollResult) 8
  deriving DecidableEq, Repr

/-- The volatile state of a Line Controller beside its line records. -/
structure Line where
  /-- the turn pointer: the address served last (R99) -/
  pointer : AddressIx
  activity : Activity
  frameBuffer : List Byte
  /-- the reply timer: stopped, or running to a window of so many milliseconds (R97; log 29) -/
  replyTimer : Option Nat
  roll : RollCall
  rollSlip : Option RollSlip
  deriving DecidableEq, Repr

/-! ### Stock (chapter 8) -/

/-- A transmitted note (R134). -/
structure Note where
  serial : Nat
  token : Byte
  window : Option WindowId
  shift : Nat
  tender : Option Tender
  amount : Nat
  deriving DecidableEq, Repr

/-- A magazine record (Table 8-1); the transmitted count t is the number of notes (log 14). -/
structure Magazine where
  loaded : Bool
  kind : KindId
  first : Nat
  last : Nat
  next : Nat
  issued : Nat
  spoiled : Nat
  inDoubt : Nat
  notes : List Note
  /-- V (R142) -/
  unverified : Option Nat
  frozen : Bool
  deriving DecidableEq, Repr

/-- A stock kind record (Table 8-3). -/
structure StockKind where
  lowMark : Nat
  band : Nat
  total : Nat
  loaded : Nat
  low : Bool
  exhausted : Bool
  deriving DecidableEq, Repr

/-- Causes of a Spoil Register entry (R152). -/
inductive SpoilCause where
  | jam | misfeed | printFault | test | inDoubt
  deriving DecidableEq, Repr

/-- Dispositions of a Spoil Register entry (R152). -/
inductive Disposition where
  | spoiled | inDoubt | unused
  deriving DecidableEq, Repr

/-- A Spoil Register entry (R152). -/
structure SpoilEntry where
  serial : Nat
  kind : KindId
  printer : PrinterId
  window : Option WindowId
  shift : Nat
  cause : SpoilCause
  disposition : Disposition
  clock : Word
  deriving DecidableEq, Repr

/-- The Spoil Register, oldest entry first (R152). -/
structure SpoilRegister where
  entries : List SpoilEntry
  lost : Nat
  overflow : Bool
  deriving DecidableEq, Repr

/-! ### Tallies and cash-up (chapters 4 and 9) -/

/-- The seven columns of one tender (Table 4-3). -/
structure TenderColumns where
  sales : Nat
  tickets : Nat
  passengers : Nat
  refunds : Nat
  refundCount : Nat
  inDoubt : Nat
  inDoubtCount : Nat
  deriving DecidableEq, Repr

/-- A tally record (Table 4-3). -/
structure Tally where
  shift : Nat
  float : Nat
  cash : TenderColumns
  card : TenderColumns
  warrant : TenderColumns
  voucher : TenderColumns
  spoils : Nat
  firstIssue : Option Word
  lastIssue : Option Word
  saturated : Bool
  openJobs : Nat
  deriving DecidableEq, Repr

/-- A pending cash-up (R155). -/
structure PendingCashUp where
  slip : SlipId
  tag : Word
  declaredCash : Nat
  declaredWarrants : Nat
  deriving DecidableEq, Repr

/-- One tender's values in the Day Totals (Table 9-1). -/
structure DayTender where
  sales : Nat
  refunds : Nat
  inDoubt : Nat
  deriving DecidableEq, Repr

/-- The Day Totals (Table 9-1). -/
structure DayTotals where
  cash : DayTender
  card : DayTender
  warrant : DayTender
  voucher : DayTender
  tickets : Nat
  statements : Nat
  balancedCount : Nat
  overCount : Nat
  shortCount : Nat
  saturatedCount : Nat
  netVariance : Int
  jamSpoils : Nat
  misfeedSpoils : Nat
  printFaultSpoils : Nat
  testSpoils : Nat
  inDoubtSpoils : Nat
  day : Nat
  saturated : Bool
  deriving DecidableEq, Repr

/-! ### The whole part -/

/-- The part: INVENTORY.md lists each field with its rule and reset value. -/
structure State where
  powered : Bool
  pciReset : Bool
  start : Option StartInProgress
  /-- the check words of the Retained Store, in the order of `everyRecord` (R167; log 7) -/
  checkWords : Vector (BitVec 16) 189
  office : OfficeState
  lamp : Bool
  time : TimeBase
  settings : OfficeSettings
  port : ExchangePort
  windows : Vector WindowRecord 24
  queues : Vector (List JobIx) 24
  jobs : Vector JobRecord 64
  freeStack : List JobIx
  routes : Vector RouteEntry 64
  arbiters : Vector Arbiter 8
  express : Vector Nat 24
  printers : Vector Printer 16
  lineConfigs : Vector LineConfig 2
  lines : Vector Line 2
  lineRecords : Vector LineRecord 16
  magazines : Vector Magazine 16
  kinds : Vector StockKind 16
  register : SpoilRegister
  current : Vector Tally 24
  closing : Vector (Option Tally) 24
  cashUps : Vector (Option PendingCashUp) 24
  dayTotals : DayTotals
  pending : List Instr
  deriving DecidableEq, Repr

/-! ### The contents of a retained record (R167, Table 10-1) -/

/-- What a retained record holds. -/
inductive RecordContent where
  | window (r : WindowRecord)
  | route (r : RouteEntry)
  /-- configuration, state and fault record -/
  | printer (configured : Bool) (group : GroupId) (state : PrinterState) (fault : FaultRecord)
  | line (r : LineConfig)
  | settings (r : OfficeSettings)
  | magazine (r : Magazine)
  | stockKind (r : StockKind)
  | register (r : SpoilRegister)
  /-- a tally slot, empty or filled -/
  | tally (r : Option Tally)
  | dayTotals (r : DayTotals)
  deriving DecidableEq, Repr

end Sys2Proof.Machine

namespace Sys2Proof.Config

/-- The bytes over which the check word of a record's contents is computed: spec/ gives no layout of the records in the
store (log 7). -/
opaque storeImage : Machine.RecordContent → List Byte

end Sys2Proof.Config

namespace Sys2Proof.Machine

/-- The contents of a record as they stand. -/
def contentOf (s : State) : RetainedRecord → RecordContent
  | .window w => .window s.windows[w]
  | .route c => .route s.routes[c]
  | .printer p => .printer s.printers[p].configured s.printers[p].group s.printers[p].state s.printers[p].fault
  | .line l => .line s.lineConfigs[l]
  | .settings => .settings s.settings
  | .magazine p => .magazine s.magazines[p]
  | .stockKind k => .stockKind s.kinds[k]
  | .register => .register s.register
  | .current w => .tally (some s.current[w])
  | .closing w => .tally s.closing[w]
  | .dayTotals => .dayTotals s.dayTotals

/-- The check word that agrees with a record as it stands: the CRC-16 of the printer lines over its contents (R167). -/
def checkOf (s : State) (r : RetainedRecord) : BitVec 16 := crc16 (Config.storeImage (contentOf s r))

/-- There are as many records as check words. -/
theorem everyRecord_length : everyRecord.length = 189 := by simp [everyRecord]

/-- The record of a check word. -/
def recordAt (i : Fin 189) : RetainedRecord := everyRecord.get (i.cast everyRecord_length.symm)

/-- The check words that agree with every record as it stands. -/
@[irreducible] def rightWords (s : State) : Vector (BitVec 16) 189 := Vector.ofFn fun i => checkOf s (recordAt i)

/-- Every check word is rewritten with its record as it stands. -/
def sealStore (s : State) : State := { s with checkWords := rightWords s }

/-- No command faults the machine: an exchange fault (R15) and a printer fault (R126) are effects on State. -/
inductive Fault where
  deriving DecidableEq, Repr

/-- Why the machine has no meaning for a command. -/
inductive Refusal where
  /-- raised by an arm of `exec` whose command has no meaning yet; safe, since nothing is claimed of that command.
  No arm raises it. -/
  | notModelled (mnemonic : String)
  deriving DecidableEq, Repr

/-! ### The default of each record -/

/-- Table 3-1's cold-start column. -/
def WindowRecord.default : WindowRecord :=
  { enabled := false, homeGroup := 0, alternateGroup := none, holdPolicy := .each, allowance := 2, weight := 2,
    quota := 8, float := 0 }

/-- Table 5-1's cold-start column. -/
def RouteEntry.default : RouteEntry :=
  { valid := false, kind := 0, fallback := false, mask := 0#24, forcing := .byOrder }

/-- Table 5-2's start column. -/
def Arbiter.start : Arbiter := { lastExpress := 23, token := 0, burst := 0 }

/-- Table 2-4's cold-start column; `clock` and `startCount` by R25 and R167. -/
def OfficeSettings.default : OfficeSettings :=
  { roundingStep := 1, minimumFare := 0, tolerance := 50, sweepPeriod := 4, interval := 8, reprintLimit := 1,
    spoilRunLimit := 3, clock := 0#32, startCount := 0#32 }

/-- Table 7-4's column for state NONE. -/
def FaultRecord.clear : FaultRecord :=
  { state := .none, first := none, latest := none, flags := 0#5, clock := 0#32, further := 0, token := none,
    serial := none }

/-- Tables 6-2 and 7-1 after a cold start. -/
def Printer.default : Printer :=
  { configured := false, group := 0, state := .unconfigured, fault := .clear, outstanding := [], hold := none,
    spoilRun := 0, lastFlags := 0#5, notReady := none }

/-- Table 6-1's cold-start column. -/
def LineConfig.default : LineConfig := { rate := .r115200, window := 20, retryLimit := 3 }

/-- Table 6-4's start column. -/
def LineRecord.start : LineRecord :=
  { failures := 0, ackToken := 0xFF#8, reported := [], repeatJob := none, clearRequest := false, strays := 0 }

/-- The roll-call state NONE with every set empty (R109). -/
def RollCall.none : RollCall :=
  { phase := .none, number := 0, waitingSet := 0#8, runningSet := 0#8, pendingSet := 0#8, known := 0#8 }

/-- A Line Controller after a start (R98): pointer at address 8, timer stopped, frame buffer empty. -/
def Line.start : Line :=
  { pointer := 7, activity := .free, frameBuffer := [], replyTimer := none, roll := .none, rollSlip := none }

/-- Table 8-1's cold-start column. -/
def Magazine.unloaded : Magazine :=
  { loaded := false, kind := 0, first := 0, last := 0, next := 0, issued := 0, spoiled := 0, inDoubt := 0, notes := [],
    unverified := none, frozen := false }

/-- Table 8-3's cold-start column. -/
def StockKind.default : StockKind :=
  { lowMark := 50, band := 20, total := 0, loaded := 0, low := true, exhausted := true }

/-- The empty Spoil Register (R152). -/
def SpoilRegister.empty : SpoilRegister := { entries := [], lost := 0, overflow := false }

/-- Columns all 0. -/
def TenderColumns.zero : TenderColumns :=
  { sales := 0, tickets := 0, passengers := 0, refunds := 0, refundCount := 0, inDoubt := 0, inDoubtCount := 0 }

/-- A tally just opened (Table 4-3's column "After shift open"). -/
def Tally.opened (shift float : Nat) : Tally :=
  { shift := shift, float := float, cash := .zero, card := .zero, warrant := .zero, voucher := .zero, spoils := 0,
    firstIssue := none, lastIssue := none, saturated := false, openJobs := 0 }

/-- Values all 0. -/
def DayTender.zero : DayTender := { sales := 0, refunds := 0, inDoubt := 0 }

/-- Table 9-1's cold-start column, with the day number given. -/
def DayTotals.cleared (day : Nat) : DayTotals :=
  { cash := .zero, card := .zero, warrant := .zero, voucher := .zero, tickets := 0, statements := 0, balancedCount := 0,
    overCount := 0, shortCount := 0, saturatedCount := 0, netVariance := 0, jamSpoils := 0, misfeedSpoils := 0,
    printFaultSpoils := 0, testSpoils := 0, inDoubtSpoils := 0, day := day, saturated := false }

/-- The Exchange Port after a start (R1, R18); ATTN is given, since it depends on the start. -/
def ExchangePort.start (attn : BitVec 7) : ExchangePort :=
  { xbase := 0#32, attn := attn, attnEn := 0#7, held := 0#128, intake := [], reader := .idle, returns := [],
    engine := none, failed := none, headerMark := false, printerMarks := Vector.replicate 16 .clear,
    stockMarks := Vector.replicate 16 .clear, slipsTaken := 0#32, slipsReturned := 0#32, postsRefused := 0#32,
    lastRefused := 0#32, lastReason := .none }

/-- The Free Job Stack after a start: 0 on top through 63 (R41). -/
def freeStackStart : List JobIx := List.finRange 64

/-- The part after a completed cold start of a valid store (R1, R171, R172, R175; log 1), every check word agreeing with
its record. -/
def State.reset : State := sealStore
  { powered := true
    pciReset := false
    start := none
    checkWords := Vector.replicate 189 0#16
    office := .standby
    lamp := false
    time := { divider := 0, sweepCounter := 0#16, sweepCount := 0#32, allowanceDivider := 0, reloadDue := false }
    settings := { OfficeSettings.default with startCount := 1#32 }
    port := ExchangePort.start 0b1000000#7
    windows := Vector.replicate 24 .default
    queues := Vector.replicate 24 []
    jobs := Vector.replicate 64 { generation := 0, job := none }
    freeStack := freeStackStart
    routes := Vector.replicate 64 .default
    arbiters := Vector.replicate 8 .start
    express := Vector.replicate 24 2
    printers := Vector.replicate 16 .default
    lineConfigs := Vector.replicate 2 .default
    lines := Vector.replicate 2 .start
    lineRecords := Vector.replicate 16 .start
    magazines := Vector.replicate 16 .unloaded
    kinds := Vector.replicate 16 .default
    register := .empty
    current := Vector.replicate 24 (.opened 1 0)
    closing := Vector.replicate 24 none
    cashUps := Vector.replicate 24 none
    dayTotals := .cleared 1
    pending := [] }

end Sys2Proof.Machine
end

