-- ==== Sys2Proof/Machine/Flags.lean ====
section
/-! DEFINITION. Flag computations: attention causes and INTA# (R14), write marks (R12), condition flags (Table 11-2),
the stock flags LOW and EXHAUSTED (R150), saturation (R62) and variance classes (R161). -/

namespace Sys2Proof.Machine

/-! ### Attention causes (Table 1-3) -/

/-- RET, bit 0. -/
def causeRet : BitVec 7 := 0b0000001#7
/-- PFLT, bit 1. -/
def causePflt : BitVec 7 := 0b0000010#7
/-- STK, bit 2. -/
def causeStk : BitVec 7 := 0b0000100#7
/-- PERR, bit 3. -/
def causePerr : BitVec 7 := 0b0001000#7
/-- XERR, bit 4. -/
def causeXerr : BitVec 7 := 0b0010000#7
/-- RLOST, bit 5. -/
def causeRlost : BitVec 7 := 0b0100000#7
/-- START, bit 6. -/
def causeStart : BitVec 7 := 0b1000000#7

/-- INTA# is asserted while a cause is both pending and enabled (R14). -/
def inta (s : State) : Bool := (s.port.attn &&& s.port.attnEn) != 0#7

/-! ### Write marks (R12, R131) -/

/-- Setting a mark: a mark that carries a cause keeps it. -/
def markSet (old : WriteMark) (cause : Bool) : WriteMark :=
  match old, cause with
  | .withCause, _ => .withCause
  | _, true => .withCause
  | _, false => .plain

/-! ### Condition flags (Table 11-2, section 11.6) -/

/-- The READY flag, bit 0. -/
def flagReady (flags : BitVec 5) : Bool := flags.getLsbD 0
/-- The JAM flag, bit 1. -/
def flagJam (flags : BitVec 5) : Bool := flags.getLsbD 1
/-- The COVER_OPEN flag, bit 2. -/
def flagCoverOpen (flags : BitVec 5) : Bool := flags.getLsbD 2
/-- The OVERHEAT flag, bit 3. -/
def flagOverheat (flags : BitVec 5) : Bool := flags.getLsbD 3
/-- The STOCK_OUT flag, bit 4. -/
def flagStockOut (flags : BitVec 5) : Bool := flags.getLsbD 4
/-- JAM, COVER_OPEN and OVERHEAT are the error flags (section 7.3). -/
def anyErrorFlag (flags : BitVec 5) : Bool := flagJam flags || flagCoverOpen flags || flagOverheat flags

/-! ### Stock flags (R150) -/

/-- LOW: set at or below the low mark, cleared at or above low mark plus band, otherwise kept. -/
def judgeLow (k : StockKind) : Bool :=
  if k.total ≤ k.lowMark then true else if k.lowMark + k.band ≤ k.total then false else k.low

/-- EXHAUSTED: set exactly when the total is 0. -/
def judgeExhausted (k : StockKind) : Bool := k.total == 0

/-! ### Saturation (R62, R164) -/

/-- A sum that stops at its largest value. -/
def satAdd (limit a b : Nat) : Nat := min limit (a + b)

/-- Whether adding carries a field above its largest value. -/
def saturates (limit a b : Nat) : Bool := limit < a + b

/-! ### Statement classes (R161) -/

/-- The class of a statement. -/
inductive StatementClass where
  | balanced | over | short | saturated
  deriving DecidableEq, Repr

/-- R161: SATURATED if the tally's flag is set, otherwise by the exact variance and the tolerance. -/
def varianceClass (saturated : Bool) (variance : Int) (tolerance : Nat) : StatementClass :=
  if saturated then .saturated
  else if -(tolerance : Int) ≤ variance ∧ variance ≤ tolerance then .balanced
  else if variance > tolerance then .over
  else .short

/-- A value clamped to −2,147,483,647..2,147,483,647 (R160, R164). -/
def clampVariance (v : Int) : Int := max (-Config.maxVariance) (min Config.maxVariance v)

end Sys2Proof.Machine
end

