-- ==== Sys2Proof/Machine/Ops.lean ====
section
/-! DEFINITION. Named operations over State: tables, one accessor and one update for each home of data, write marks,
attention, the register window's reads, the Return Hold list, job records, window queues and outstanding lists. -/

namespace Sys2Proof.Machine

/-! ### Tables -/

/-- A table with one entry replaced. -/
def put {α : Type} {n : Nat} (v : Vector α n) (i : Fin n) (x : α) : Vector α n := v.set i.val x i.isLt

/-- A table with one entry changed by a function. -/
def upd {α : Type} {n : Nat} (v : Vector α n) (i : Fin n) (f : α → α) : Vector α n := put v i (f v[i])

/-- Every entry of a table changed by the same function. -/
def mapAll {α : Type} {n : Nat} (v : Vector α n) (f : α → α) : Vector α n :=
  (List.finRange n).foldl (fun t i => upd t i f) v

/-- All numbers of a kind of object, ascending. -/
def every (n : Nat) : List (Fin n) := List.finRange n

/-- An event's work done for each element of a list in turn. -/
def forEach {α : Type} (l : List α) (f : α → State → State) (s : State) : State := l.foldl (fun t a => f a t) s

/-- The first element a test admits. -/
def firstWhere {α : Type} (l : List α) (test : α → Bool) : Option α := l.find? test

/-- An order of all the numbers below `n`: those named, in the order named, then the rest ascending (log 6). -/
def completeOrder (n : Nat) (named : List Nat) : List (Fin n) :=
  let asked := (named.filterMap fun i => if h : i < n then some (⟨i, h⟩ : Fin n) else none).eraseDups
  asked ++ (every n).filter fun i => !asked.contains i

/-! ### The Retained Store's check words (R58, R167) -/

/-- The store is valid when every record's check word agrees (R167). -/
def storeValid (s : State) : Bool := (every 189).all fun i => s.checkWords[i] == checkOf s (recordAt i)

/-- The check words after an event: that of each record the event has changed agrees with it, the others stand (R167). -/
@[irreducible] def wordsAfter (old new : State) : Vector (BitVec 16) 189 :=
  Vector.ofFn fun i =>
    if contentOf new (recordAt i) = contentOf old (recordAt i) then new.checkWords[i] else checkOf new (recordAt i)

/-- The check word of each record an event has changed is rewritten in that event (R167). -/
def rewriteChecks (old new : State) : State := { new with checkWords := wordsAfter old new }

/-- Check words of which none agrees with its record. -/
@[irreducible] def lostWords (s : State) : Vector (BitVec 16) 189 :=
  Vector.ofFn fun i =>
    let right := checkOf s (recordAt i)
    let lost := Config.lostCheck i.val s.checkWords[i]
    if lost = right then ~~~right else lost

/-- The store loses its contents (R168): no check word agrees with its record. -/
def loseStore (s : State) : State := { s with checkWords := lostWords s }

/-! ### Gates -/

/-- The part is powered, out of PCI reset, and no start is in progress: events and commands are taken (R169, R170). -/
def live (s : State) : Bool := s.powered && !s.pciReset && s.start.isNone

/-- Main power is present and PCI reset released: the office tick runs, through every start (R25, R169). -/
def ticking (s : State) : Bool := s.powered && !s.pciReset

/-- The answer of every command: a next state. -/
def goOn (s : State) : Host.Outcome State Fault Refusal := .next s

/-- A command taken only while the part is live; otherwise ignored (R170; log 2). The event rewrites the check words of the
records it changes (R167). -/
def whenLive (s : State) (f : State → State) : Host.Outcome State Fault Refusal :=
  goOn (if live s then rewriteChecks s (f s) else s)

/-- Fetches are requested and accesses started in RUNNING and HOLD (R19). -/
def serving (s : State) : Bool := s.office == .running || s.office == .hold

/-- Grants, sweeps and reloads occur in RUNNING and EXCHANGE_FAULT (R19). -/
def granting (s : State) : Bool := s.office == .running || s.office == .exchangeFault

/-! ### One update for each home of data -/

def modPort (f : ExchangePort → ExchangePort) (s : State) : State := { s with port := f s.port }
def modTime (f : TimeBase → TimeBase) (s : State) : State := { s with time := f s.time }
def modSettings (f : OfficeSettings → OfficeSettings) (s : State) : State := { s with settings := f s.settings }
def modWindow (w : WindowId) (f : WindowRecord → WindowRecord) (s : State) : State :=
  { s with windows := upd s.windows w f }
def modRoute (c : ClassId) (f : RouteEntry → RouteEntry) (s : State) : State := { s with routes := upd s.routes c f }
def modArbiter (g : GroupId) (f : Arbiter → Arbiter) (s : State) : State := { s with arbiters := upd s.arbiters g f }
def modExpress (w : WindowId) (f : Nat → Nat) (s : State) : State := { s with express := upd s.express w f }
def modPrinter (p : PrinterId) (f : Printer → Printer) (s : State) : State := { s with printers := upd s.printers p f }
def modLineConfig (l : LineId) (f : LineConfig → LineConfig) (s : State) : State :=
  { s with lineConfigs := upd s.lineConfigs l f }
def modLine (l : LineId) (f : Line → Line) (s : State) : State := { s with lines := upd s.lines l f }
def modLineRecord (p : PrinterId) (f : LineRecord → LineRecord) (s : State) : State :=
  { s with lineRecords := upd s.lineRecords p f }
def modKind (k : KindId) (f : StockKind → StockKind) (s : State) : State := { s with kinds := upd s.kinds k f }
def modCurrent (w : WindowId) (f : Tally → Tally) (s : State) : State := { s with current := upd s.current w f }
def modDayTotals (f : DayTotals → DayTotals) (s : State) : State := { s with dayTotals := f s.dayTotals }

/-- A change to the job of a record in use; a free record stays free. -/
def modJob (i : JobIx) (f : Job → Job) (s : State) : State :=
  { s with jobs := upd s.jobs i fun r => { r with job := r.job.map f } }

/-- The job of a record in use. -/
def jobAt (s : State) (i : JobIx) : Option Job := s.jobs[i].job

/-- A test of the job of a record in use; false of a free record. -/
def jobIs (s : State) (i : JobIx) (test : Job → Bool) : Bool := (jobAt s i).any test

/-! ### Lines and addresses (Table 0-2) -/

/-- Printers 0 to 7 are on line A, 8 to 15 on line B. -/
def lineOfPrinter (p : PrinterId) : LineId := if p.val < 8 then 0 else 1

/-- The address of a printer on its line, held as the address less 1. -/
def addressIx (p : PrinterId) : AddressIx := ⟨p.val % 8, Nat.mod_lt _ (by decide)⟩

/-- The printer at an address of a line. -/
def printerAt (l : LineId) (a : AddressIx) : PrinterId := ⟨l.val * 8 + a.val, by omega⟩

/-- The address byte of a frame, 1..8. -/
def addressByte (a : AddressIx) : Byte := BitVec.ofNat 8 (a.val + 1)

/-- The mask bit of an address: bit a − 1 for address a. -/
def addressBit (a : AddressIx) : BitVec 8 := 1#8 <<< a.val

/-- An address is in a set. -/
def inMask (m : BitVec 8) (a : AddressIx) : Bool := m.getLsbD a.val

/-! ### Attention and marks -/

/-- A cause is set in ATTN; one already pending stays pending (R14). -/
def setCause (cause : BitVec 7) : State → State := modPort fun x => { x with attn := x.attn ||| cause }

/-- A Printer Status Table entry's mark is set, with PFLT or without (R12, R131). -/
def markPrinter (p : PrinterId) (cause : Bool) : State → State :=
  modPort fun x => { x with printerMarks := upd x.printerMarks p fun m => markSet m cause }

/-- A Stock Kind Table entry's mark is set, with STK or without (R12, R149, R150). -/
def markStock (k : KindId) (cause : Bool) : State → State :=
  modPort fun x => { x with stockMarks := upd x.stockMarks k fun m => markSet m cause }

/-- The header mark is set (R12). -/
def markHeader : State → State := modPort fun x => { x with headerMark := true }

/-- The header mark and all 32 table entry marks are set, none given a cause (R21; log 21). -/
def markEverything : State → State :=
  modPort fun x => { x with headerMark := true, printerMarks := mapAll x.printerMarks fun m => markSet m false,
                            stockMarks := mapAll x.stockMarks fun m => markSet m false }

/-! ### The register window's reads (R1, R3, R6, Table 1-1) -/

/-- The office state code (R3). -/
def officeCode : OfficeState → Nat
  | .standby => 0
  | .running => 1
  | .hold => 2
  | .exchangeFault => 3

/-- The held-slip bit of a slip (R5). -/
def isHeld (s : State) (n : SlipId) : Bool := s.port.held.getLsbD n.val

/-- The free intake room (R6). -/
def intakeFree (s : State) : Nat := Config.intakeRoom - s.port.intake.length

/-- The value of the word at a byte offset (R1, Table 1-1): the volatile state already holds its start values while a start
is in progress, and ATTN reads 0 until the start completes (R170). -/
def registerValue (s : State) (offset : BitVec 6) : Word :=
  match offset.toNat / 4 with
  | 0 => Config.ident
  | 1 => s.port.xbase
  | 2 => BitVec.ofNat 32 (intakeFree s)
  | 3 => s.port.attn.setWidth 32
  | 4 => s.port.attnEn.setWidth 32
  | 5 => BitVec.ofNat 32 (officeCode s.office)
  | _ => 0#32

/-- What a read returns (R1): the whole word, whatever byte enables it carries; while PCI reset is asserted or main power is
absent the window does not answer (R169). -/
def readRegister (s : State) (offset : BitVec 6) (_byteEnables : BitVec 4) : Option Word :=
  if ticking s then some (registerValue s offset) else none

/-- What a burst of reads from an offset returns, each word a read of its own at its own offset, as far as the window
reaches (R1). -/
def burstReads (s : State) (offset : Nat) (byteEnables : List (BitVec 4)) : List (Option Word) :=
  (byteEnables.zipIdx.filter fun x => offset + 4 * x.2 < 64).map fun x =>
    readRegister s (BitVec.ofNat 6 (offset + 4 * x.2)) x.1

/-! ### The allowance reload (R29, R82) -/

/-- The allowance reload, where a sweep has left one due; none occurs in STANDBY or HOLD (R19, R29; log 20). -/
def allowanceReload (s : State) : State :=
  if s.time.reloadDue && granting s then
    modTime (fun t => { t with reloadDue := false }) { s with express := s.windows.map WindowRecord.allowance }
  else s

/-! ### The Return Hold list (R9) -/

/-- The result area: its bytes, then zeros to 320 (R9, R177). -/
def resultArea (bytes : List Byte) : List Byte :=
  bytes.take 320 ++ List.replicate (320 - bytes.length) 0#8

/-- A return entry joins the tail of the Return Hold list, its return clock the office clock of this moment (R9). -/
def addReturn (slip : SlipId) (tag : Word) (code : ResultCode) (detail : Word) (area : List Byte) (s : State) : State :=
  modPort (fun x => { x with returns := x.returns ++
    [{ slip := slip, tag := tag, code := code, detail := detail, clock := s.settings.clock, area := resultArea area }] }) s

/-- The CLAMPED flag, bit 31 of the result detail (Table 11-7). -/
def clampedBit (clamped : Bool) : Word := if clamped then 0x80000000#32 else 0#32

/-- A result detail of bits 0 to 30 (Table 11-7). -/
def detailOf (n : Nat) : Word := BitVec.ofNat 32 n

/-! ### Jobs and tokens (R37, R39) -/

/-- The token of a record's present use: generation × 64 + index (R37). -/
def tokenOf (s : State) (i : JobIx) : Byte := BitVec.ofNat 8 (s.jobs[i].generation.val * 64 + i.val)

/-- R39: a token names the record of its index when that record is in use and holds its generation. -/
def jobOfToken (s : State) (t : Byte) : Option JobIx :=
  let i : JobIx := ⟨t.toNat % 64, Nat.mod_lt _ (by decide)⟩
  if (jobAt s i).isSome ∧ s.jobs[i].generation.val = t.toNat / 64 then some i else none

/-- The number of a window's jobs in the Job Table, in any state and of any shift (R35). -/
def jobCount (s : State) (w : WindowId) : Nat :=
  ((every 64).filter fun i => jobIs s i fun j => j.window == some w).length

/-- A job is in flight in SENDING or SENT. -/
def inFlight (s : State) (i : JobIx) : Bool := jobIs s i fun j => j.state == .sending || j.state == .sent

/-- A job is GRANTED and not yet transmitted. -/
def isGranted (s : State) (i : JobIx) : Bool := jobIs s i fun j => j.state == .granted

/-! ### Window queues (R45 to R47) -/

/-- A window's queue is replaced; a job that becomes head by it has its aged flag cleared (R47). -/
def setQueue (w : WindowId) (q : List JobIx) (s : State) : State :=
  let t : State := { s with queues := put s.queues w q }
  match q.head? with
  | some h => if s.queues[w].head? = some h then t else modJob h (fun j => { j with aged := false }) t
  | none => t

/-- A job joins the tail of a window's queue (R38). -/
def joinTail (w : WindowId) (i : JobIx) (s : State) : State := setQueue w (s.queues[w] ++ [i]) s

/-- A job leaves a window's queue from whatever position it holds (R45). -/
def leaveQueue (w : WindowId) (i : JobIx) (s : State) : State := setQueue w (s.queues[w].filter (· != i)) s

/-- R46 and R123: a job that comes back joins the front, behind only those jobs of the same printer event that were
granted before it. `order` is the printer's outstanding list as the event found it. -/
def joinFront (order : List JobIx) (w : WindowId) (i : JobIx) (s : State) : State :=
  let earlier := order.takeWhile (· != i)
  let q := s.queues[w]
  setQueue w (q.takeWhile earlier.contains ++ i :: q.dropWhile earlier.contains) s

/-! ### Outstanding lists (R42, R102, R131) -/

/-- A job leaves a printer's outstanding list: the repeat job is cleared if it is this one, and the entry is marked. -/
def leavePrinter (p : PrinterId) (i : JobIx) (s : State) : State :=
  markPrinter p false
    (modLineRecord p (fun r => if r.repeatJob = some (tokenOf s i) then { r with repeatJob := none } else r)
      (modPrinter p (fun x => { x with outstanding := x.outstanding.filter (· != i) }) s))

/-- A job joins the tail of a printer's outstanding list as GRANTED, and the entry is marked (R81, R132). -/
def joinPrinter (p : PrinterId) (i : JobIx) (s : State) : State :=
  markPrinter p false
    (modJob i (fun j => { j with state := .granted, printer := some p })
      (modPrinter p (fun x => { x with outstanding := x.outstanding ++ [i] }) s))

/-- A job leaves whichever list holds it (R42, R43 step 2). -/
def leaveLists (i : JobIx) (j : Job) (s : State) : State :=
  match j.printer, j.window with
  | some p, _ => leavePrinter p i s
  | none, some w => leaveQueue w i s
  | none, none => s

/-! ### Holds (R83, R85) -/

/-- The window holds the printer. -/
def holds (s : State) (w : WindowId) (p : PrinterId) : Bool := s.printers[p].hold.any fun h => h.window == w

/-- The printer a window holds (R83: at most one). -/
def heldPrinter (s : State) (w : WindowId) : Option PrinterId := (every 16).find? (holds s w)

/-- A hold release (R85): holder, kind, held sale and hold-idle flag are cleared, and the entry is marked. -/
def releaseHold (p : PrinterId) (s : State) : State :=
  if s.printers[p].hold.isSome then markPrinter p false (modPrinter p (fun x => { x with hold := none }) s) else s

/-- R87: a SALE_END hold of the job's window for the job's sale is released by the end of the last-in-sale job. -/
def releaseSaleEnd (j : Job) (s : State) : State :=
  match j.window with
  | some w =>
    if j.lastInSale then
      forEach ((every 16).filter fun p =>
        s.printers[p].hold.any fun h => h.window == w && h.kind == .saleEnd j.sale) releaseHold s
    else s
  | none => s

/-! ### The Free Job Stack (R37, R41, R43) -/

/-- Step 4 of R43: the record is freed and its index pushed; a Slip Reader waiting for a record requests a new fetch
(R8). -/
def freeRecord (i : JobIx) (s : State) : State :=
  let t : State := { s with
    jobs := upd s.jobs i fun r => { r with job := none }
    freeStack := i :: s.freeStack }
  modPort (fun x => if x.reader = .waitingRecord then { x with reader := .fetching } else x) t

/-- The generation of a record's next use: one more modulo 4, and for record 63 a result of 3 goes on to 0 (R37). -/
def nextGeneration (i : JobIx) (g : Fin 4) : Fin 4 :=
  let n : Fin 4 := g + 1
  if i.val = 63 ∧ n = 3 then 0 else n

/-- A record is taken for a job: popped from the stack with its generation advanced (R37). -/
def takeRecord (i : JobIx) (rest : List JobIx) (j : Job) (s : State) : State :=
  { s with
    freeStack := rest
    jobs := upd s.jobs i fun r => { generation := nextGeneration i r.generation, job := some j } }

end Sys2Proof.Machine
end

