-- ==== Sys2Proof/Machine/Layouts.lean ====
section
/-! DEFINITION. What the part writes, byte for byte: codings (R176), the Exchange header and tables (Tables 11-1 to
11-3), the result areas (Tables 11-10 to 11-16), and the writes of an access (R4, R10, Table 1-2). -/

namespace Sys2Proof.Machine

/-! ### Codings -/

/-- A byte holding a number. -/
def byte (n : Nat) : Byte := BitVec.ofNat 8 n
/-- A yes/no byte (R176). -/
def flagByte (b : Bool) : Byte := if b then 1#8 else 0#8
/-- A number in one byte, or 0xFF for none (R176). -/
def byteOr {n : Nat} (x : Option (Fin n)) : Byte :=
  match x with
  | some v => byte v.val
  | none => 0xFF#8
/-- A token, or 0xFF for none (R176). -/
def tokenByte (t : Option Byte) : Byte := t.getD 0xFF#8
/-- A serial, V or clock that may be none: 0 for none (R176). -/
def orZero (x : Option Nat) : Nat := x.getD 0

/-- Result codes (Table 11-6). -/
def resultByte : ResultCode → Byte
  | .done => 0#8
  | .printed => 1#8
  | .spoiled => 2#8
  | .inDoubt => 3#8
  | .withdrawn => 4#8
  | .noPrinter => 5#8
  | .routeRefused => 6#8
  | .windowClosed => 7#8
  | .windowFull => 8#8
  | .badField => 9#8
  | .badKind => 10#8
  | .busy => 11#8
  | .notAllowed => 12#8
  | .statement => 13#8

/-- Reasons of the last refused post (Table 11-1). -/
def reasonByte : PostReason → Byte
  | .none => 0#8
  | .range => 1#8
  | .double => 2#8
  | .full => 3#8

/-- Printer states (section 11.2). -/
def stateCode : PrinterState → Nat
  | .unconfigured => 0
  | .offline => 1
  | .recovering => 2
  | .ready => 3
  | .empty => 4
  | .faulted => 5

/-- Fault causes (section 11.2). -/
def causeByte : Option FaultCause → Byte
  | none => 0#8
  | some .jam => 1#8
  | some .coverOpen => 2#8
  | some .overheat => 3#8
  | some .stockMismatch => 4#8
  | some .lineSilent => 5#8
  | some .noOutcome => 6#8
  | some .spoilRun => 7#8
  | some .restartInDoubt => 8#8

/-- Fault record states (Table 11-2). -/
def faultStateByte : FaultState → Byte
  | .none => 0#8
  | .opened => 1#8
  | .acknowledged => 2#8

/-- Tenders (Table 11-8). -/
def tenderByte : Tender → Byte
  | .cash => 0#8
  | .card => 1#8
  | .warrant => 2#8
  | .voucher => 3#8

/-- Spoil causes of an entry (Table 11-12) and of a SPOILED detail (Table 11-7). -/
def spoilCauseCode : SpoilCause → Nat
  | .jam => 0
  | .misfeed => 1
  | .printFault => 2
  | .test => 3
  | .inDoubt => 4

/-- Dispositions (Table 11-12). -/
def dispositionByte : Disposition → Byte
  | .spoiled => 0#8
  | .inDoubt => 1#8
  | .unused => 2#8

/-- Hold policies (Table 11-9). -/
def policyByte : HoldPolicy → Byte
  | .each => 0#8
  | .onDemand => 1#8
  | .saleEnd => 2#8

/-- Service forcing (Table 11-9). -/
def forcingByte : Forcing → Byte
  | .byOrder => 0#8
  | .alwaysStandard => 1#8
  | .alwaysExpress => 2#8

/-- Bit rates (Table 11-9). -/
def rateByte : BitRate → Byte
  | .r115200 => 0#8
  | .r38400 => 1#8

/-- Statement classes (Table 11-13). -/
def classByte : StatementClass → Byte
  | .balanced => 0#8
  | .over => 1#8
  | .short => 2#8
  | .saturated => 3#8

/-! ### The header and the tables (Tables 11-1 to 11-3) -/

/-- The Exchange header, 256 bytes (R13, Table 11-1). -/
def headerBytes (s : State) : List Byte :=
  padTo 256 ([byte (officeCode s.office), 0#8, 0#8, 0#8] ++ le 2 s.dayTotals.day ++ [0#8, 0#8]
    ++ le 4 s.settings.clock.toNat ++ le 4 s.settings.startCount.toNat ++ le 4 s.port.slipsTaken.toNat
    ++ le 4 s.port.slipsReturned.toNat ++ le 4 s.port.postsRefused.toNat ++ le 4 s.port.lastRefused.toNat
    ++ [reasonByte s.port.lastReason, byte s.freeStack.length, 0#8, 0#8] ++ le 4 s.time.sweepCount.toNat)

/-- A printer's Printer Status Table entry, 32 bytes (R131, R144, Table 11-2). -/
def printerEntryBytes (s : State) (p : PrinterId) : List Byte :=
  let x := s.printers[p]
  let m := s.magazines[p]
  let f := x.fault
  let held : Option WindowId := x.hold.map Hold.window
  [byte (stateCode x.state + 16 * x.outstanding.length), byteOr held, byte s.lineRecords[p].strays,
    if m.loaded then byte (m.kind.val + 16 + (if m.frozen then 32 else 0) + (if m.unverified.isSome then 64 else 0))
    else 0#8,
    faultStateByte f.state, causeByte f.first, causeByte f.latest, f.flags.setWidth 8, byte f.further,
    tokenByte f.token]
    ++ le 2 (if m.loaded then m.inDoubt else 0) ++ le 4 f.clock.toNat ++ le 4 (orZero f.serial)
    ++ le 4 (if m.loaded then m.next else 0) ++ le 4 (if m.loaded then m.last else 0)
    ++ le 4 (if m.loaded then orZero m.unverified else 0)

/-- A kind's Stock Kind Table entry, 16 bytes (R150, Table 11-3). -/
def stockEntryBytes (s : State) (k : KindId) : List Byte :=
  let x := s.kinds[k]
  le 2 x.lowMark ++ le 2 x.band ++ le 2 x.total
    ++ [byte x.loaded, byte ((if x.low then 1 else 0) + (if x.exhausted then 2 else 0))] ++ List.replicate 8 0#8

/-! ### Result areas -/

/-- The job result (Table 11-10). -/
def jobResultBytes (token : Byte) (j : Job) : List Byte :=
  [token, byteOr j.printer, byte j.reprints, 0#8] ++ le 4 (orZero j.serial) ++ le 4 j.fare ++ le 4 j.amount

/-- A tender block, 20 bytes (Table 11-11). -/
def tenderBlock (c : TenderColumns) : List Byte :=
  le 4 c.sales ++ le 4 c.refunds ++ le 4 c.inDoubt ++ le 2 c.tickets ++ le 2 c.passengers ++ le 2 c.refundCount
    ++ le 2 c.inDoubtCount

/-- A clock that may be none: 0 with its present bit clear (R176). -/
def clockBytes (c : Option Word) : List Byte := le 4 (c.getD 0#32).toNat

/-- The tally image, 98 bytes (Table 11-11), with the open-job count given. -/
def tallyBytes (t : Tally) (openJobs : Nat) : List Byte :=
  le 2 t.shift
    ++ [byte ((if t.saturated then 1 else 0) + (if t.firstIssue.isSome then 2 else 0)
          + (if t.lastIssue.isSome then 4 else 0)), byte openJobs]
    ++ le 4 t.float ++ clockBytes t.firstIssue ++ clockBytes t.lastIssue ++ le 2 t.spoils
    ++ tenderBlock t.cash ++ tenderBlock t.card ++ tenderBlock t.warrant ++ tenderBlock t.voucher

/-- A spoil entry, 16 bytes (Table 11-12). -/
def spoilEntryBytes (e : SpoilEntry) : List Byte :=
  le 4 e.serial ++ le 2 e.shift
    ++ [byte e.kind.val, byte e.printer.val, byteOr e.window, byte (spoilCauseCode e.cause),
        dispositionByte e.disposition, 0#8] ++ le 4 e.clock.toNat

/-- Magazine figures, 28 bytes (Table 11-15). -/
def magazineBytes (m : Magazine) : List Byte :=
  [flagByte m.loaded, byte m.kind.val, flagByte m.frozen, flagByte m.unverified.isSome] ++ le 4 m.first ++ le 4 m.last
    ++ le 4 m.next ++ le 4 (orZero m.unverified) ++ le 2 m.issued ++ le 2 m.spoiled ++ le 2 m.inDoubt
    ++ [byte m.notes.length, 0#8]

/-- The unused range of a closed magazine: its first serial and its count, 0 for an empty range (R148, Table 11-16).
An empty range has no first serial, coded 0. -/
def unusedBytes (m : Magazine) : List Byte × List Byte :=
  if m.next ≤ m.last then (le 4 m.next, le 2 (m.last + 1 - m.next)) else (le 4 0, le 2 0)

/-- The UNLOAD STOCK result area (Table 11-16). -/
def unloadBytes (m : Magazine) : List Byte := magazineBytes m ++ (unusedBytes m).1 ++ (unusedBytes m).2

/-- The LOAD STOCK result area (Table 11-16): the new figures and, where a magazine was closed, its figures. -/
def loadBytes (new old : Magazine) : List Byte :=
  magazineBytes new
    ++ (if old.loaded then [1#8, 0#8, 0#8, 0#8] ++ unloadBytes old else [])

/-- The Day Totals image with the discharge's two counts (Table 11-14). -/
def dayBytes (d : DayTotals) (removed kept : Nat) : List Byte :=
  let t (x : DayTender) : List Byte := le 4 x.sales ++ le 4 x.refunds ++ le 4 x.inDoubt
  le 2 d.day ++ [flagByte d.saturated, 0#8] ++ le 4 d.tickets ++ leInt 4 d.netVariance ++ le 2 d.statements
    ++ le 2 d.balancedCount ++ le 2 d.overCount ++ le 2 d.shortCount ++ le 2 d.saturatedCount ++ le 2 d.jamSpoils
    ++ le 2 d.misfeedSpoils ++ le 2 d.printFaultSpoils ++ le 2 d.testSpoils ++ le 2 d.inDoubtSpoils
    ++ t d.cash ++ t d.card ++ t d.warrant ++ t d.voucher ++ le 2 removed ++ le 2 kept

/-- The READ SPOILS result area (R153, Table 11-16). -/
def readSpoilsBytes (r : SpoilRegister) (index : Nat) : List Byte :=
  let page := (r.entries.drop index).take 16
  [byte page.length, flagByte r.overflow] ++ le 2 r.entries.length ++ le 2 r.lost ++ List.replicate 10 0#8
    ++ page.flatMap spoilEntryBytes

/-- One record of the ROLL CALL result area (Table 11-16). -/
def rollRecord (r : Option RollResult) : List Byte :=
  let code (c : Byte) (v : Nat) : List Byte := [c, 0#8, 0#8, 0#8] ++ le 4 v
  match r with
  | none => code 0#8 0
  | some .verified => code 1#8 0
  | some (.rolledBack n) => code 2#8 n
  | some (.mismatch n) => code 3#8 n
  | some .unanswered => code 4#8 0

/-- The SET OFFICE result area: the settings in force and the office clock (R30, Table 11-16). -/
def settingsBytes (o : OfficeSettings) : List Byte :=
  le 4 o.minimumFare ++ le 2 o.tolerance
    ++ [byte o.roundingStep, byte o.sweepPeriod, byte o.interval, byte o.reprintLimit, byte o.spoilRunLimit, 0#8]
    ++ le 4 o.clock.toNat

/-- The SET WINDOW result area: the record in force in the request layout (R33, Table 11-16). -/
def windowRecordBytes (w : WindowId) (r : WindowRecord) : List Byte :=
  [byte w.val, flagByte r.enabled, byte r.homeGroup.val, byteOr r.alternateGroup, policyByte r.holdPolicy,
    byte r.allowance, byte r.weight, byte r.quota] ++ le 4 r.float

/-- The SET ROUTE result area (R70, Table 11-16). -/
def routeEntryBytes (c : ClassId) (r : RouteEntry) : List Byte :=
  [byte c.val, flagByte r.valid, byte r.kind.val, flagByte r.fallback] ++ le 4 r.mask.toNat ++ [forcingByte r.forcing]

/-- The SET LINE result area (R91, Table 11-16). -/
def lineConfigBytes (l : LineId) (c : LineConfig) : List Byte :=
  [byte l.val, rateByte c.rate, byte c.window, byte c.retryLimit]

/-- The SET PRINTER result area (R93, Table 11-16). -/
def printerConfigBytes (p : PrinterId) (x : Printer) : List Byte :=
  [byte p.val, flagByte x.configured, byte x.group.val]

/-! ### The writes of an access (R4, R10, Table 1-2) -/

/-- The bytes an access writes, as offsets from XBASE and runs of bytes: the kind byte and the request area of a slip
are never among them. -/
def accessWrites : Access → List (Nat × List Byte)
  | .fetch _ => []
  | .returnFields e =>
    let at_ := 0x1000 + e.slip.val * 0x200
    [(at_ + 1, [resultByte e.code, 0#8, 0#8]), (at_ + 4, le 4 e.tag.toNat), (at_ + 8, le 4 e.detail.toNat),
      (at_ + 12, le 4 e.clock.toNat), (at_ + 0xC0, e.area)]
  | .returnMap e => [(0x100 + e.slip.val, [1#8])]
  | .header content => [(0, content)]
  | .printerEntry p content _ => [(0x200 + p.val * 32, content)]
  | .stockEntry k content _ => [(0x400 + k.val * 16, content)]

end Sys2Proof.Machine
end

