-- ==== Sys2Proof/Machine/Operands.lean ====
section
/-! DEFINITION. Operand forms: raw fields turned into numbers and kinds, and for each slip the ordered field tests of its
rule, answering the request-area offset of the first field in error (Table 11-7, BAD_FIELD). -/

namespace Sys2Proof.Machine

/-- A number below `n`. -/
def below (n v : Nat) : Option (Fin n) := if h : v < n then some ⟨v, h⟩ else none

/-- Window 0..23. -/
def windowOf (b : Byte) : Option WindowId := below 24 b.toNat
/-- Printer 0..15. -/
def printerOf (b : Byte) : Option PrinterId := below 16 b.toNat
/-- Ticket class 0..63. -/
def classOf (b : Byte) : Option ClassId := below 64 b.toNat
/-- Stock kind 0..15. -/
def kindOf (b : Byte) : Option KindId := below 16 b.toNat
/-- Printer group 0..7. -/
def groupOf (b : Byte) : Option GroupId := below 8 b.toNat
/-- Line 0 A, 1 B. -/
def lineOf (b : Byte) : Option LineId := below 2 b.toNat

/-- A yes/no byte: 0 or 1, any other value out of range (R176, R178). -/
def yesNo (b : Byte) : Option Bool :=
  if b = 0#8 then some false else if b = 1#8 then some true else none

/-- Tender 0 CASH, 1 CARD, 2 WARRANT, 3 VOUCHER (Table 11-8). -/
def tenderOf (b : Byte) : Option Tender :=
  if b = 0#8 then some .cash else if b = 1#8 then some .card else if b = 2#8 then some .warrant
  else if b = 3#8 then some .voucher else none

/-- Service class 0 STANDARD, 1 EXPRESS (Table 11-8). -/
def serviceOf (b : Byte) : Option ServiceClass :=
  if b = 0#8 then some .standard else if b = 1#8 then some .express else none

/-- Hold policy 0 EACH, 1 ON_DEMAND, 2 SALE_END (Table 11-9). -/
def policyOf (b : Byte) : Option HoldPolicy :=
  if b = 0#8 then some .each else if b = 1#8 then some .onDemand else if b = 2#8 then some .saleEnd else none

/-- Service forcing 0 BY_ORDER, 1 ALWAYS_STANDARD, 2 ALWAYS_EXPRESS (Table 11-9). -/
def forcingOf (b : Byte) : Option Forcing :=
  if b = 0#8 then some .byOrder else if b = 1#8 then some .alwaysStandard
  else if b = 2#8 then some .alwaysExpress else none

/-- Bit rate 0 115,200, 1 38,400 (Table 11-9). -/
def rateOf (b : Byte) : Option BitRate :=
  if b = 0#8 then some .r115200 else if b = 1#8 then some .r38400 else none

/-- Alternate group 0..7, or 0xFF for none (Table 3-1, R176). -/
def alternateOf (b : Byte) : Option (Option GroupId) :=
  if b = 0xFF#8 then some none else (groupOf b).map some

/-- Spoil causes of an outcome entry: 1 JAM, 2 MISFEED, 3 PRINT_FAULT (section 11.6). -/
def spoilCauseOf (b : Byte) : Option SpoilCause :=
  if b = 1#8 then some .jam else if b = 2#8 then some .misfeed else if b = 3#8 then some .printFault else none

/-! ### Ordered field tests -/

/-- The offset of the first test that fails. -/
def firstBad : List (Bool × Nat) → Option Nat
  | [] => none
  | (ok, offset) :: rest => if ok then firstBad rest else some offset

/-- Test 1 of R35. -/
def issueBad (r : IssueRequest) : Option Nat :=
  firstBad [((windowOf r.window).isSome, 0), ((classOf r.ticketClass).isSome, 1), ((serviceOf r.service).isSome, 5),
    ((tenderOf r.tender).isSome, 6), (1 ≤ r.quantity.toNat && r.quantity.toNat ≤ 9, 7),
    (r.baseFare.toNat ≤ 999999, 8), (r.faceLength.toNat ≤ 96, 14)]

/-- Test 1 of R132. -/
def testPrintBad (r : TestPrintRequest) : Option Nat :=
  firstBad [((printerOf r.printer).isSome, 0), (r.faceLength.toNat ≤ 96, 1)]

/-- The tests of R67. -/
def refundBad (r : RefundRequest) : Option Nat :=
  firstBad [((windowOf r.window).isSome, 0), ((tenderOf r.tender).isSome, 1),
    (1 ≤ r.value.toNat && r.value.toNat ≤ 8999991, 4)]

/-- Test 1 of R147. Where only the end of the range is in error the spec does not say which of the two fields is named
(log 13). -/
def loadStockBad (r : LoadStockRequest) : Option Nat :=
  firstBad [((printerOf r.printer).isSome, 0), ((kindOf r.kind).isSome, 1), (r.first.toNat != 0, 4),
    (1 ≤ r.count.toNat && r.count.toNat ≤ 2000, 2),
    (r.first.toNat + r.count.toNat - 1 ≤ Config.maxSerial,
      if Config.loadSpanNamesCount r.first.toNat r.count.toNat then 2 else 4)]

/-- The field tests of R156. -/
def cashUpBad (r : CashUpRequest) : Option Nat :=
  firstBad [((windowOf r.window).isSome, 0), ((yesNo r.withdrawUnsent).isSome, 1)]

/-- The field tests of R30, in the order of Table 2-4. -/
def officeBad (r : OfficeRequest) : Option Nat :=
  firstBad [(r.roundingStep == 1#8 || r.roundingStep == 5#8 || r.roundingStep == 10#8, 6),
    (r.minimumFare.toNat ≤ 99999, 0), (r.tolerance.toNat ≤ 9999, 4), (r.sweepPeriod.toNat ≤ 255, 7),
    (1 ≤ r.interval.toNat && r.interval.toNat ≤ 16, 8), (r.reprintLimit.toNat ≤ 3, 9),
    (2 ≤ r.spoilRunLimit.toNat && r.spoilRunLimit.toNat ≤ 9, 10)]

/-- The tests of R33: the window number, each field in the order of Table 3-1, and the alternate group against the home
group. -/
def windowBad (r : WindowRequest) : Option Nat :=
  firstBad [((windowOf r.window).isSome, 0), ((yesNo r.enabled).isSome, 1), ((groupOf r.homeGroup).isSome, 2),
    ((alternateOf r.alternateGroup).isSome, 3), ((policyOf r.holdPolicy).isSome, 4), (r.allowance.toNat ≤ 15, 5),
    (1 ≤ r.weight.toNat && r.weight.toNat ≤ 8, 6), (1 ≤ r.quota.toNat && r.quota.toNat ≤ 16, 7),
    (r.float.toNat ≤ 99999, 8), (r.alternateGroup != r.homeGroup, 3)]

/-- The tests of R70. -/
def routeBad (r : RouteRequest) : Option Nat :=
  firstBad [((classOf r.ticketClass).isSome, 0), ((yesNo r.valid).isSome, 1), ((kindOf r.kind).isSome, 2),
    ((yesNo r.fallback).isSome, 3), (r.windowMask.toNat < 2 ^ 24, 4), ((forcingOf r.forcing).isSome, 8)]

/-- Test 1 of R93. -/
def setPrinterBad (printer configured group : Byte) : Option Nat :=
  firstBad [((printerOf printer).isSome, 0), ((yesNo configured).isSome, 1), ((groupOf group).isSome, 2)]

/-- Test 1 of R91. -/
def setLineBad (line rate window limit : Byte) : Option Nat :=
  firstBad [((lineOf line).isSome, 0), ((rateOf rate).isSome, 1), (2 ≤ window.toNat, 2),
    (1 ≤ limit.toNat && limit.toNat ≤ 7, 3)]

/-- The tests of R151. -/
def setStockKindBad (kind : Byte) (lowMark band : BitVec 16) : Option Nat :=
  firstBad [((kindOf kind).isSome, 0), (lowMark.toNat ≤ 9999, 2), (1 ≤ band.toNat && band.toNat ≤ 9999, 4)]

/-- Test 1 of R114. -/
def rollCallBad (line mask : Byte) : Option Nat := firstBad [((lineOf line).isSome, 0), (mask != 0#8, 1)]

/-! ### Replies (R97, R111, R179) -/

/-- An outcome entry in range: a token 0..254, a known outcome, and for SPOILED a k of 1..4 and a known cause. -/
def entryInRange (e : OutcomeEntry) : Bool :=
  e.token != 0xFF#8 &&
    (e.outcome == 1#8 || e.outcome == 3#8 ||
      (e.outcome == 2#8 && 1 ≤ e.k.toNat && e.k.toNat ≤ 4 && (spoilCauseOf e.cause).isSome))

/-- Every field of the payload lies within its range (R97, R179; log 15). -/
def replyInRange : Reply → Bool
  | .status _ waiting entries => waiting.toNat ≤ 2 && entries.length ≤ 2 && entries.all entryInRange
  | .accept token => token != 0xFF#8
  | .refuse token reason => token != 0xFF#8 && 1 ≤ reason.toNat && reason.toNat ≤ 4
  | .serial _ kind => kind.toNat ≤ 15
  | .retry => true

/-- A reply is one the command expects (Table 6-3), and an ACCEPT or REFUSE names the token just sent (R97). -/
def replyExpected : CommandKind → Reply → Bool
  | .poll, .status .. => true
  | .clear, .status .. => true
  | .print token, .accept t => t == token
  | .print token, .refuse t _ => t == token
  | _, _ => false

/-- A good answer in a roll-call slot is a SERIAL or a RETRY (R111). -/
def answerExpected : Reply → Bool
  | .serial .. => true
  | .retry => true
  | _ => false

end Sys2Proof.Machine
end

