-- ==== Sys2Proof/Machine/Tallies.lean ====
section
/-! DEFINITION. The Fare Unit (R54 to R57), the tallies (R58 to R66), the statement and the Day Totals (R159 to R165). -/

namespace Sys2Proof.Machine

/-! ### The Fare Unit -/

/-- Stage 1 (R55): the discounted fare, rounded down to a whole penny. -/
def discountedFare (fare discount : Nat) : Nat := fare * (10000 - discount) / 10000

/-- Stage 2 (R55): rounded down to a whole multiple of the rounding step. -/
def steppedFare (fare discount step : Nat) : Nat :=
  discountedFare fare discount - discountedFare fare discount % step

/-- Stage 3 (R56): the per-passenger fare P. -/
def passengerFare (fare discount : Nat) (minimumFlag : Bool) (step minimum : Nat) : Nat :=
  if minimumFlag = true ∧ 0 < discount ∧ steppedFare fare discount step < minimum then min fare minimum
  else steppedFare fare discount step

/-- Stage 4 (R56): the amount A. -/
def ticketAmount (fare quantity : Nat) : Nat := fare * quantity

/-- D above 10,000 is clamped to 10,000 (R36). -/
def clampDiscount (d : Nat) : Nat := min d 10000

/-! ### Tally sums (R62) -/

/-- The columns of a tender. -/
def columnsOf (t : Tally) : Tender → TenderColumns
  | .cash => t.cash
  | .card => t.card
  | .warrant => t.warrant
  | .voucher => t.voucher

/-- A tally with the columns of a tender replaced. -/
def withColumns (t : Tally) (x : Tender) (c : TenderColumns) : Tally :=
  match x with
  | .cash => { t with cash := c }
  | .card => { t with card := c }
  | .warrant => { t with warrant := c }
  | .voucher => { t with voucher := c }

/-- The saturated flag is set when a change would carry a field above its largest value, and stays set (R62). -/
def noteSaturation (full : Bool) (t : Tally) : Tally := { t with saturated := t.saturated || full }

/-- A PRINTED result's additions (R63). -/
def addPrinted (x : Tender) (amount quantity : Nat) (clock : Word) (t : Tally) : Tally :=
  let c := columnsOf t x
  let full := saturates Config.max32 c.sales amount || saturates Config.max16 c.tickets 1
    || saturates Config.max16 c.passengers quantity
  let t := noteSaturation full (withColumns t x
    { c with sales := satAdd Config.max32 c.sales amount, tickets := satAdd Config.max16 c.tickets 1,
             passengers := satAdd Config.max16 c.passengers quantity })
  { t with firstIssue := some (t.firstIssue.getD clock), lastIssue := some clock }

/-- An IN_DOUBT result's additions (R64). -/
def addInDoubt (x : Tender) (amount : Nat) (t : Tally) : Tally :=
  let c := columnsOf t x
  let full := saturates Config.max32 c.inDoubt amount || saturates Config.max16 c.inDoubtCount 1
  noteSaturation full (withColumns t x
    { c with inDoubt := satAdd Config.max32 c.inDoubt amount, inDoubtCount := satAdd Config.max16 c.inDoubtCount 1 })

/-- A refund's additions (R67). -/
def addRefund (x : Tender) (value : Nat) (t : Tally) : Tally :=
  let c := columnsOf t x
  let full := saturates Config.max32 c.refunds value || saturates Config.max16 c.refundCount 1
  noteSaturation full (withColumns t x
    { c with refunds := satAdd Config.max32 c.refunds value, refundCount := satAdd Config.max16 c.refundCount 1 })

/-- A spoil charge (R65). -/
def addSpoils (k : Nat) (t : Tally) : Tally :=
  noteSaturation (saturates Config.max16 t.spoils k) { t with spoils := satAdd Config.max16 t.spoils k }

/-- The tally of a window whose shift is the one given, CURRENT or CLOSING, is changed (R60). -/
def modTally (w : WindowId) (shift : Nat) (f : Tally → Tally) (s : State) : State :=
  if s.current[w].shift = shift then modCurrent w f s
  else match s.closing[w] with
    | some t => if t.shift = shift then { s with closing := put s.closing w (some (f t)) } else s
    | none => s

/-! ### The Day Totals (R164, R165) -/

/-- The totals after a saturating addition to one 16-bit count, given how to read and write it. -/
def bump (get : DayTotals → Nat) (set : Nat → DayTotals → DayTotals) (n : Nat) (d : DayTotals) : DayTotals :=
  let e := set (satAdd Config.max16 (get d) n) d
  { e with saturated := d.saturated || saturates Config.max16 (get d) n }

/-- Each blank disposed of raises the spoils count of its cause (R165). -/
def countSpoils (cause : SpoilCause) (n : Nat) : DayTotals → DayTotals :=
  match cause with
  | .jam => bump (·.jamSpoils) (fun v d => { d with jamSpoils := v }) n
  | .misfeed => bump (·.misfeedSpoils) (fun v d => { d with misfeedSpoils := v }) n
  | .printFault => bump (·.printFaultSpoils) (fun v d => { d with printFaultSpoils := v }) n
  | .test => bump (·.testSpoils) (fun v d => { d with testSpoils := v }) n
  | .inDoubt => bump (·.inDoubtSpoils) (fun v d => { d with inDoubtSpoils := v }) n

/-- One tender's values added, and whether one saturates. -/
def addTender (d : DayTender) (c : TenderColumns) : DayTender × Bool :=
  ({ sales := satAdd Config.max32 d.sales c.sales, refunds := satAdd Config.max32 d.refunds c.refunds,
     inDoubt := satAdd Config.max32 d.inDoubt c.inDoubt },
   saturates Config.max32 d.sales c.sales || saturates Config.max32 d.refunds c.refunds
     || saturates Config.max32 d.inDoubt c.inDoubt)

/-- A statement's class is counted. -/
def countClass (c : StatementClass) : DayTotals → DayTotals :=
  match c with
  | .balanced => bump (·.balancedCount) (fun v d => { d with balancedCount := v }) 1
  | .over => bump (·.overCount) (fun v d => { d with overCount := v }) 1
  | .short => bump (·.shortCount) (fun v d => { d with shortCount := v }) 1
  | .saturated => bump (·.saturatedCount) (fun v d => { d with saturatedCount := v }) 1

/-- A statement adds its CLOSING tally, its class and its exact variance to the Day Totals (R164). -/
def addStatement (t : Tally) (c : StatementClass) (variance : Int) (d : DayTotals) : DayTotals :=
  let tickets := t.cash.tickets + t.card.tickets + t.warrant.tickets + t.voucher.tickets
  let cash := addTender d.cash t.cash
  let card := addTender d.card t.card
  let warrant := addTender d.warrant t.warrant
  let voucher := addTender d.voucher t.voucher
  let net := d.netVariance + variance
  let full := cash.2 || card.2 || warrant.2 || voucher.2 || saturates Config.max32 d.tickets tickets
    || clampVariance net != net
  let e := { d with
    cash := cash.1, card := card.1, warrant := warrant.1, voucher := voucher.1
    tickets := satAdd Config.max32 d.tickets tickets
    netVariance := clampVariance net
    saturated := d.saturated || full }
  countClass c (bump (·.statements) (fun v d => { d with statements := v }) 1 e)

/-! ### Statements (R159 to R163) -/

/-- The expected cash E (R160). -/
def expectedCash (t : Tally) : Int :=
  (t.float : Int) + t.cash.sales + t.cash.inDoubt - t.cash.refunds

/-- The spoil list of a window's shift: every register entry of that window and shift, in register order (R162). -/
def spoilList (r : SpoilRegister) (w : WindowId) (shift : Nat) : List SpoilEntry :=
  r.entries.filter fun e => e.window == some w && e.shift == shift

/-- The statement's result area (R162, Table 11-13). -/
def statementBytes (w : WindowId) (t : Tally) (currentShift cash warrants tolerance : Nat) (list : List SpoilEntry) :
    List Byte :=
  let variance := (cash : Int) - expectedCash t
  [byte w.val, classByte (varianceClass t.saturated variance tolerance)] ++ le 2 t.shift ++ le 2 currentShift
    ++ le 2 warrants ++ le 4 cash ++ leInt 8 (expectedCash t) ++ leInt 4 (clampVariance variance)
    ++ leInt 4 ((warrants : Int) - t.warrant.tickets) ++ le 2 tolerance ++ tallyBytes t 0
    ++ (list.take 12).flatMap spoilEntryBytes

/-- The statement's result detail: the number of entries, the more flag, and CLAMPED where the reported variance differs
from the exact one (R160, Table 11-7). -/
def statementDetail (t : Tally) (cash : Nat) (list : List SpoilEntry) : Word :=
  let variance := (cash : Int) - expectedCash t
  detailOf (list.length + (if 12 < list.length then 65536 else 0)) ||| clampedBit (clampVariance variance != variance)

/-- The statement of a window's CLOSING tally (R160 to R163): its entry joins the Return Hold list, the tally is added
into the Day Totals and discarded, and the cash-up record becomes empty. -/
def produceStatement (w : WindowId) (c : PendingCashUp) (s : State) : State :=
  match s.closing[w] with
  | none => s
  | some t =>
    let list := spoilList s.register w t.shift
    let variance := (c.declaredCash : Int) - expectedCash t
    let class_ := varianceClass t.saturated variance s.settings.tolerance
    let s := addReturn c.slip c.tag .statement (statementDetail t c.declaredCash list)
      (statementBytes w t s.current[w].shift c.declaredCash c.declaredWarrants s.settings.tolerance list) s
    let s := modDayTotals (addStatement t class_ variance) s
    { s with closing := put s.closing w none, cashUps := put s.cashUps w none }

/-- R159: the statement is produced when the CLOSING tally's open-job count is 0 while a cash-up is pending. -/
def statementIfDue (w : WindowId) (s : State) : State :=
  match s.closing[w], s.cashUps[w] with
  | some t, some c => if t.openJobs = 0 then produceStatement w c s else s
  | _, _ => s

/-- The shift number after one: it skips 0 (R59). -/
def nextShift (shift : Nat) : Nat := if shift = 65535 then 1 else shift + 1

/-- A shift open (R59). -/
def shiftOpen (w : WindowId) (s : State) : State :=
  { s with
    closing := put s.closing w (some s.current[w])
    current := put s.current w (.opened (nextShift s.current[w].shift) s.windows[w].float) }

end Sys2Proof.Machine
end

