-- ==== Sys2Proof/Machine/Jobs.lean ====
section
/-! DEFINITION. The end of a job and its coming back: terminal results (R43, R44), re-queue (R46), and a GRANTED job sent
back by its printer (R117, R133, R137). -/

namespace Sys2Proof.Machine

/-- Result detail reasons (Table 11-7). -/
def reasonCancelled : Nat := 1
/-- NOT_SENT (Table 11-7). -/
def reasonNotSent : Nat := 2
/-- HOME (Table 11-7). -/
def reasonHome : Nat := 1
/-- ALTERNATE (Table 11-7). -/
def reasonAlternate : Nat := 2

/-- Step 1 of R43: the job's return entry, with its CLAMPED flag. -/
def returnJob (i : JobIx) (j : Job) (code : ResultCode) (reason : Nat) (s : State) : State :=
  addReturn j.slip j.tag code (detailOf reason ||| clampedBit j.clamped) (jobResultBytes (tokenOf s i) j) s

/-- Step 3 of R43: the open-job count of the tally of the job's shift falls by 1; a test print changes none. -/
def lowerOpenJobs (j : Job) (s : State) : State :=
  match j.window with
  | some w => modTally w j.shift (fun t => { t with openJobs := t.openJobs - 1 }) s
  | none => s

/-- The statement a job's end brings, where one is due (R61, R159). -/
def statementAfter (j : Job) (s : State) : State :=
  match j.window with
  | some w => statementIfDue w s
  | none => s

/-- A terminal result (R43): the entry, the list, the SALE_END hold (R87), the open-job count, the statement (R159), and
the record freed. Effects on magazine, tally columns and register are made by the caller before. -/
def finishJob (i : JobIx) (code : ResultCode) (reason : Nat) (s : State) : State :=
  match jobAt s i with
  | none => s
  | some j =>
    freeRecord i (statementAfter j (lowerOpenJobs j (releaseSaleEnd j (leaveLists i j (returnJob i j code reason s)))))

/-- Several jobs brought to one terminal result in order (R44). -/
def finishJobs (code : ResultCode) (reason : Nat) (l : List JobIx) : State → State :=
  forEach l fun i => finishJob i code reason

/-- A job of a window comes back to QUEUED (R46). `order` is the printer's outstanding list as the event found it. -/
def requeue (order : List JobIx) (p : PrinterId) (w : WindowId) (i : JobIx) (s : State) : State :=
  joinFront order w i
    (modJob i (fun j => { j with state := .queued, printer := none, serial := none, outcomeWait := false })
      (leavePrinter p i s))

/-- A job leaves its printer unprinted: a job of a window comes back to its queue (R46), a test print is returned
WITHDRAWN with a reason (R133). -/
def sendBack (order : List JobIx) (p : PrinterId) (testReason : Nat) (i : JobIx) (s : State) : State :=
  match jobAt s i with
  | none => s
  | some j =>
    match j.window with
    | some w => requeue order p w i s
    | none => finishJob i .withdrawn testReason s

/-- R117 step 2: the printer's GRANTED jobs leave in list order. -/
def sendBackGranted (order : List JobIx) (p : PrinterId) (s : State) : State :=
  forEach (s.printers[p].outstanding.filter (isGranted s)) (sendBack order p reasonNotSent) s

end Sys2Proof.Machine
end

