-- ==== Sys2Proof/Machine/Stock.lean ====
section
/-! DEFINITION. The Stock Unit's records: magazines (R134 to R136), stock kinds (R149, R150) and the Spoil Register (R152,
R154). -/

namespace Sys2Proof.Machine

/-! ### Magazines (R134) -/

/-- The transmitted count t (R136, R139 to R142: it rises and falls with the notes; log 14). -/
def transmitted (m : Magazine) : Nat := m.notes.length

/-- Remaining blanks of a magazine: last − next + 1; 0 when not loaded (R134). -/
def remaining (m : Magazine) : Nat := if m.loaded then m.last + 1 - m.next else 0

/-- Two magazines show the same summary in the Printer Status Table: loaded flag, stock kind, next and last serial,
in-doubt count, V and frozen flag (R144). -/
def sameSummary (a b : Magazine) : Bool :=
  a.loaded == b.loaded && a.kind == b.kind && a.next == b.next && a.last == b.last && a.inDoubt == b.inDoubt
    && a.unverified == b.unverified && a.frozen == b.frozen

/-- A magazine record is replaced; a change of its summary marks the printer's entry (R144, R131). -/
def setMagazine (p : PrinterId) (m : Magazine) (s : State) : State :=
  let t : State := { s with magazines := put s.magazines p m }
  if sameSummary m s.magazines[p] then t else markPrinter p false t

/-- A job's note is removed; the note that remains is given a new serial (R139 to R142). -/
def dropNote (token : Byte) (m : Magazine) : Magazine := { m with notes := m.notes.filter fun n => n.token != token }

/-- The remaining note's serial and its job's provisional serial are moved together (R135, R140, R141). -/
def moveNote (p : PrinterId) (serial : Nat) (s : State) : State :=
  let m := s.magazines[p]
  match m.notes with
  | [] => s
  | n :: rest =>
    let s := setMagazine p { m with notes := { n with serial := serial } :: rest } s
    match jobOfToken s n.token with
    | some i => modJob i (fun j => { j with serial := some serial }) s
    | none => s

/-- g: the printer's GRANTED jobs not yet transmitted (R137). -/
def reserved (s : State) (p : PrinterId) : Nat := (s.printers[p].outstanding.filter (isGranted s)).length

/-- The reservation of R137: remaining ≥ t + g. -/
def reservationHolds (s : State) (p : PrinterId) : Bool :=
  transmitted s.magazines[p] + reserved s p ≤ remaining s.magazines[p]

/-- The claim of R136: the job's provisional serial becomes next + t and a note is written at the end of the list. -/
def claimBlank (p : PrinterId) (i : JobIx) (s : State) : State :=
  match jobAt s i with
  | none => s
  | some j =>
    let m := s.magazines[p]
    let serial := m.next + transmitted m
    let note : Note := { serial := serial, token := tokenOf s i, window := j.window, shift := j.shift,
                         tender := j.tender, amount := j.amount }
    modJob i (fun j => { j with serial := some serial }) (setMagazine p { m with notes := m.notes ++ [note] } s)

/-! ### Stock kinds (R149, R150) -/

/-- The available total: remaining blanks in loaded magazines of the kind whose printer is READY (R149). -/
def availableTotal (s : State) (k : KindId) : Nat :=
  (((every 16).filter fun p =>
    s.magazines[p].loaded && s.magazines[p].kind == k && s.printers[p].state == .ready).map
      fun p => remaining s.magazines[p]).sum

/-- The loaded magazines of a kind, whatever their printers' states (R149). -/
def loadedCount (s : State) (k : KindId) : Nat :=
  ((every 16).filter fun p => s.magazines[p].loaded && s.magazines[p].kind == k).length

/-- The flags of a kind are judged; a change of either marks the entry with STK (R150). -/
def judgeFlags (k : KindId) (s : State) : State :=
  let x := s.kinds[k]
  let y := { x with low := judgeLow x, exhausted := judgeExhausted x }
  let t := modKind k (fun _ => y) s
  if y = x then t else markStock k true t

/-- The available total and the loaded magazines of a kind are recomputed, a change of either marks the entry, and the
flags are judged (R149, R150). -/
def recomputeKind (k : KindId) (s : State) : State :=
  let total := availableTotal s k
  let loaded := loadedCount s k
  let x := s.kinds[k]
  let t := modKind k (fun x => { x with total := total, loaded := loaded }) s
  judgeFlags k (if x.total = total ∧ x.loaded = loaded then t else markStock k false t)

/-- The kind of a printer's loaded magazine is recomputed; with none loaded no total can move. -/
def recomputeOf (p : PrinterId) (s : State) : State :=
  if s.magazines[p].loaded then recomputeKind s.magazines[p].kind s else s

/-! ### The Spoil Register (R152) -/

/-- A new entry: it replaces an entry of the same kind and serial, joins the tail, or, with the register full, is lost to
the overflow counter. -/
def addEntry (e : SpoilEntry) (r : SpoilRegister) : SpoilRegister :=
  let others := r.entries.filter fun x => !(x.kind == e.kind && x.serial == e.serial)
  if others.length < Config.registerRoom then { r with entries := others ++ [e] }
  else { r with lost := satAdd Config.max16 r.lost 1, overflow := true }

/-- A blank is disposed of: its register entry is made and its cause counted in the Day Totals (R152, R165). -/
def disposeBlank (p : PrinterId) (serial : Nat) (window : Option WindowId) (shift : Nat) (cause : SpoilCause)
    (disposition : Disposition) (s : State) : State :=
  let e : SpoilEntry := { serial := serial, kind := s.magazines[p].kind, printer := p, window := window, shift := shift,
                          cause := cause, disposition := disposition, clock := s.settings.clock }
  { s with register := addEntry e s.register, dayTotals := countSpoils cause 1 s.dayTotals }

/-- The entries a rollback turns UNUSED: this printer, this kind, a serial from S to the old next − 1, disposition
IN_DOUBT (R146 step 4). -/
def rollEntries (p : PrinterId) (k : KindId) (from_ next : Nat) (r : SpoilRegister) : SpoilRegister :=
  { r with entries := r.entries.map fun e =>
      if e.printer = p ∧ e.kind = k ∧ from_ ≤ e.serial ∧ e.serial < next ∧ e.disposition = .inDoubt
      then { e with disposition := .unused } else e }

/-- A protected entry (R154): in doubt, and a later roll call of its loaded magazine may still turn it UNUSED. -/
def isProtected (s : State) (e : SpoilEntry) : Bool :=
  let m := s.magazines[e.printer]
  e.disposition == .inDoubt && m.loaded && m.kind == e.kind
    && m.unverified.any fun v => v ≤ e.serial && e.serial < m.next

/-- The discharge (R154). -/
def dischargeRegister (s : State) : State :=
  { s with register := { entries := s.register.entries.filter (isProtected s), lost := 0, overflow := false } }

/-- A blank turned in doubt (R142): entry, V, next serial and in-doubt count, and the note removed. -/
def inDoubtBlank (p : PrinterId) (serial : Nat) (token : Byte) (window : Option WindowId) (shift : Nat) (s : State) :
    State :=
  let s := disposeBlank p serial window shift .inDoubt .inDoubt s
  let m := s.magazines[p]
  setMagazine p { dropNote token m with
    unverified := some (m.unverified.getD serial)
    next := m.next + 1
    inDoubt := m.inDoubt + 1 } s

end Sys2Proof.Machine
end

