-- ==== Sys2Proof/Machine/Printers.lean ====
section
/-! DEFINITION. The Printer Records: roll-call selection (R109, R113), changes of state (R116, R117, R144), faults (R126 to
R128), outcomes (R123, R124, R138 to R143), condition flags (R121), the not-ready mark (R122) and recovery (R129). -/

namespace Sys2Proof.Machine

/-! ### Roll-call selection -/

/-- The printers of the running set whose result is not yet known (R110). -/
def unresolved (r : RollCall) : BitVec 8 := r.runningSet &&& ~~~r.known

/-- R109: selected while in the waiting or pending set, or in the running set with its result unknown. -/
def isSelected (s : State) (p : PrinterId) : Bool :=
  let r := s.lines[lineOfPrinter p].roll
  let a := addressIx p
  inMask r.waitingSet a || inMask r.pendingSet a || inMask (unresolved r) a

/-- A roll-call request for addresses of a line (R109). -/
def rollRequest (l : LineId) (mask : BitVec 8) : State → State :=
  modLine l fun x =>
    match x.roll.phase with
    | .none => { x with roll := { x.roll with phase := .waiting, waitingSet := mask } }
    | .waiting => { x with roll := { x.roll with waitingSet := x.roll.waitingSet ||| mask } }
    | .round | .between => { x with roll := { x.roll with pendingSet := x.roll.pendingSet ||| mask } }

/-- A result noted on a ROLL CALL slip that selected the address. -/
def noteResult (a : AddressIx) (r : RollResult) (c : RollSlip) : RollSlip :=
  if inMask c.mask a then { c with results := put c.results a (some r) } else c

/-- A result is kept for the line's ROLL CALL slip, if the slip selected the address (R112). -/
def keepResult (l : LineId) (a : AddressIx) (r : RollResult) : State → State :=
  modLine l fun x => { x with rollSlip := x.rollSlip.map (noteResult a r) }

/-- The line's slip has no result yet for the address. -/
def resultMissing (s : State) (l : LineId) (a : AddressIx) : Bool :=
  s.lines[l].rollSlip.any fun c => inMask c.mask a && c.results[a].isNone

/-- R113: a selected printer leaves every set, and the slip, if any, will report it UNANSWERED. -/
def leaveSelection (p : PrinterId) (s : State) : State :=
  if isSelected s p then
    let l := lineOfPrinter p
    let a := addressIx p
    let out (m : BitVec 8) : BitVec 8 := m &&& ~~~addressBit a
    let t := modLine l (fun x => { x with roll := { x.roll with
      waitingSet := out x.roll.waitingSet, runningSet := out x.roll.runningSet,
      pendingSet := out x.roll.pendingSet, known := out x.roll.known } }) s
    if resultMissing s l a then keepResult l a .unanswered t else t
  else s

/-! ### Changes of state (R116, R117) -/

/-- A printer enters a state: the entry is marked; leaving READY releases the hold and sends back the GRANTED jobs
(R117); entering READY sets the spoil run to 0; the stock totals are recomputed (R116, R149). -/
def enterState (order : List JobIx) (p : PrinterId) (new : PrinterState) (s : State) : State :=
  let old := s.printers[p].state
  let t := markPrinter p false (modPrinter p (fun x => { x with
    state := new, spoilRun := if new = .ready then 0 else x.spoilRun }) s)
  let t := if old = .ready ∧ new ≠ .ready then sendBackGranted order p (releaseHold p t) else t
  recomputeOf p t

/-- R137: the most recently granted jobs leave, one by one, until the reservation holds. -/
def breakReservation (order : List JobIx) (p : PrinterId) : List JobIx → State → State
  | [], s => s
  | i :: rest, s =>
    if reservationHolds s p then s else breakReservation order p rest (sendBack order p reasonNotSent i s)

/-- What the Stock Unit hands on after a magazine change (R144): the totals, and for a READY printer the entry to EMPTY
at remaining 0 or the test of the reservation (R137). -/
def magazineChanged (order : List JobIx) (p : PrinterId) (s : State) : State :=
  let t := recomputeOf p s
  if t.printers[p].state = .ready then
    if remaining t.magazines[p] = 0 then enterState order p .empty t
    else breakReservation order p (t.printers[p].outstanding.filter (isGranted t)).reverse t
  else t

/-! ### Faults (R126 to R128) -/

/-- The provisional serial of a record's job. -/
def serialOf (s : State) (i : JobIx) : Option Nat := (jobAt s i).bind (·.serial)

/-- The jobs of a printer in SENDING or SENT, in list order. -/
def flightList (s : State) (p : PrinterId) : List JobIx := s.printers[p].outstanding.filter (inFlight s)

/-- "Oldest in flight" (R126): the token and serial of the first such job, both none without one. -/
def oldestInFlight (s : State) (p : PrinterId) : Option Byte × Option Nat :=
  match flightList s p with
  | i :: _ => (some (tokenOf s i), serialOf s i)
  | [] => (none, none)

/-- A job put in place in a list ascending by provisional serial. -/
def insertBySerial (s : State) (i : JobIx) : List JobIx → List JobIx
  | [] => [i]
  | k :: rest =>
    if (serialOf s i).getD 0 ≤ (serialOf s k).getD 0 then i :: k :: rest else k :: insertBySerial s i rest

/-- Ascending order of provisional serial (R107, R128, R142). -/
def bySerial (s : State) (l : List JobIx) : List JobIx := l.foldr (insertBySerial s) []

/-- A job is returned IN_DOUBT: its blank (R142), its tally (R64), its result (R43). -/
def endInDoubt (order : List JobIx) (p : PrinterId) (i : JobIx) (s : State) : State :=
  match jobAt s i with
  | none => s
  | some j =>
    let s := match j.serial with
      | some n => magazineChanged order p (inDoubtBlank p n (tokenOf s i) j.window j.shift s)
      | none => s
    let s := match j.window, j.tender with
      | some w, some x => modTally w j.shift (addInDoubt x j.amount) s
      | _, _ => s
    finishJob i .inDoubt 0 s

/-- What a fault's cause does to the printer's jobs in flight (R128). -/
def causeEffects (order : List JobIx) (p : PrinterId) (cause : FaultCause) (s : State) : State :=
  match cause with
  | .jam | .coverOpen | .overheat | .stockMismatch | .spoilRun =>
    modLineRecord p (fun r => { r with clearRequest := true }) s
  | .lineSilent | .noOutcome => forEach (bySerial s (flightList s p)) (endInDoubt order p) s
  | .restartInDoubt => s

/-- What a fault is raised with: cause, the flags of the reply that raised it where one did, token and serial involved,
and whether it is the roll call's own judgement (R113, R126). -/
structure FaultInfo where
  cause : FaultCause
  flags : Option (BitVec 5)
  token : Option Byte
  serial : Option Nat
  own : Bool
  deriving DecidableEq, Repr

/-- The record of a first fault (R126). -/
def firstFault (f : FaultInfo) (x : Printer) (clock : Word) : FaultRecord :=
  { state := .opened, first := some f.cause, latest := some f.cause, flags := f.flags.getD x.lastFlags, clock := clock,
    further := 0, token := f.token, serial := f.serial }

/-- The record after a further fault (R126). -/
def furtherFault (f : FaultInfo) (r : FaultRecord) : FaultRecord :=
  { r with state := .opened, latest := some f.cause, further := satAdd 255 r.further 1 }

/-- A fault raised against a printer (R116, R126 to R128): not recorded in OFFLINE and UNCONFIGURED, a further fault in
FAULTED, otherwise the first fault and the entry to FAULTED. -/
def raiseFault (order : List JobIx) (p : PrinterId) (f : FaultInfo) (s : State) : State :=
  match s.printers[p].state with
  | .unconfigured | .offline => s
  | .faulted =>
    let t := modPrinter p (fun x => { x with fault := furtherFault f x.fault, notReady := none }) s
    causeEffects order p f.cause (markPrinter p true t)
  | .recovering | .ready | .empty =>
    let t := modPrinter p (fun x => { x with fault := firstFault f x s.settings.clock, notReady := none }) s
    let t := sendBackGranted order p (enterState order p .faulted (markPrinter p true t))
    let t := if f.own then t else leaveSelection p t
    causeEffects order p f.cause t

/-! ### Outcomes (R106, R123, R138 to R143) -/

/-- R138: the job's provisional serial is the next serial of a loaded magazine. -/
def consistent (s : State) (p : PrinterId) (j : Job) : Bool :=
  s.magazines[p].loaded && j.serial == some s.magazines[p].next

/-- A CANCELLED outcome, or an implied cancel: the note is removed, one behind it moves down (R141), and the job comes
back, or is returned WITHDRAWN as a test print (R123, R133). -/
def takeCancelled (order : List JobIx) (p : PrinterId) (i : JobIx) (s : State) : State :=
  let token := tokenOf s i
  let m := s.magazines[p]
  let wasFirst := m.notes.head?.any fun n => n.token == token
  let t := setMagazine p (dropNote token m) s
  let t := match wasFirst, t.magazines[p].notes with
    | true, n :: _ => moveNote p (n.serial - 1) t
    | _, _ => t
  sendBack order p reasonCancelled i (recomputeOf p t)

/-- A consistent PRINTED outcome (R63, R139, R143). -/
def takePrinted (order : List JobIx) (p : PrinterId) (i : JobIx) (j : Job) (s : State) : State :=
  let m := s.magazines[p]
  let used := { dropNote (tokenOf s i) m with next := m.next + 1 }
  let s := match j.window with
    | some _ => setMagazine p { used with issued := m.issued + 1 } s
    | none => setMagazine p { used with spoiled := m.spoiled + 1 } (disposeBlank p m.next none 0 .test .spoiled s)
  let s := magazineChanged order p s
  let s := match j.window, j.tender with
    | some w, some x => modTally w j.shift (addPrinted x j.amount j.quantity s.settings.clock) s
    | _, _ => s
  modPrinter p (fun x => { x with spoilRun := 0 }) (finishJob i .printed 0 s)

/-- The blanks a SPOILED outcome consumes: k clamped to the free remaining f (R140). -/
def clampedK (m : Magazine) (k : Nat) : Nat := min k (remaining m - (transmitted m - 1))

/-- A SPOILED outcome's effect on the magazine, steps 1 to 5 of R140. -/
def spoilBlanks (order : List JobIx) (p : PrinterId) (i : JobIx) (j : Job) (k : Nat) (cause : SpoilCause) (s : State) :
    State :=
  let m := s.magazines[p]
  let s := forEach (List.range k) (fun n => disposeBlank p (m.next + n) j.window j.shift cause .spoiled) s
  let s := setMagazine p { dropNote (tokenOf s i) m with next := m.next + k, spoiled := m.spoiled + k } s
  magazineChanged order p (moveNote p (m.next + k) s)

/-- A consistent SPOILED outcome: the magazine, the spoil charge (R65), the job (R123, R133) and the spoil run (R124).
The serial involved in SPOIL_RUN is the one the job had when the outcome was taken (log 44). -/
def takeSpoiled (order : List JobIx) (p : PrinterId) (i : JobIx) (j : Job) (flags : BitVec 5) (asked : Nat)
    (cause : SpoilCause) (s : State) : State :=
  let k := clampedK s.magazines[p] asked
  let token := tokenOf s i
  let ended := finishJob i .spoiled (spoilCauseCode cause + 256 * k)
  let s := spoilBlanks order p i j k cause s
  let s := match j.window with
    | some w =>
      let s := modTally w j.shift (addSpoils k) s
      if j.reprints < s.settings.reprintLimit then
        requeue order p w i (modJob i (fun j => { j with reprints := j.reprints + 1 }) s)
      else ended s
    | none => ended s
  let s := modPrinter p (fun x => { x with spoilRun := x.spoilRun + 1 }) s
  if s.settings.spoilRunLimit ≤ s.printers[p].spoilRun then
    modPrinter p (fun x => { x with spoilRun := 0 })
      (raiseFault order p { cause := .spoilRun, flags := some flags, token := some token, serial := j.serial,
                            own := false } s)
  else s

/-- An outcome entry taken for a job (R106, R123): CANCELLED is not checked; PRINTED and SPOILED must be consistent, or
the printer is faulted STOCK_MISMATCH with no other effect; a repeat job then stays the repeat job (log 42). -/
def takeOutcome (order : List JobIx) (p : PrinterId) (flags : BitVec 5) (e : OutcomeEntry) (i : JobIx) (j : Job)
    (s : State) : State :=
  if e.outcome = 3#8 then takeCancelled order p i s
  else if consistent s p j then
    if e.outcome = 1#8 then takePrinted order p i j s
    else takeSpoiled order p i j flags e.k.toNat ((spoilCauseOf e.cause).getD .jam) s
  else
    raiseFault order p { cause := .stockMismatch, flags := some flags, token := some (tokenOf s i), serial := j.serial,
                         own := false } s

/-- The job an entry is taken for: in this printer's list, in SENDING or SENT (R39, R106). -/
def outcomeJob (s : State) (p : PrinterId) (token : Byte) : Option JobIx :=
  match jobOfToken s token with
  | some i => if s.printers[p].outstanding.contains i && inFlight s i then some i else none
  | none => none

/-- A stray raises the stray count, and its change marks the entry (R98, R106). -/
def countStray (p : PrinterId) (s : State) : State :=
  let n := satAdd 255 s.lineRecords[p].strays 1
  let t := modLineRecord p (fun r => { r with strays := n }) s
  if n = s.lineRecords[p].strays then t else markPrinter p false t

/-- One outcome entry of a STATUS (R105 step 1, R106): passed over if reported before, else taken or a stray, and then
the ack token is the entry's. -/
def handleEntry (order : List JobIx) (p : PrinterId) (flags : BitVec 5) (reported : List Byte) (e : OutcomeEntry)
    (s : State) : State :=
  if reported.contains e.token then s
  else
    let t := match outcomeJob s p e.token with
      | some i =>
        match jobAt s i with
        | some j => takeOutcome order p flags e i j s
        | none => s
      | none => countStray p s
    modLineRecord p (fun r => { r with ackToken := e.token }) t

/-! ### Flags, mark and recovery (R121, R122, R129) -/

/-- STOCK_OUT contradicts the record: a loaded magazine with blanks remaining (R121, R129). -/
def stockOutContradicts (s : State) (p : PrinterId) (flags : BitVec 5) : Bool :=
  flagStockOut flags && s.magazines[p].loaded && 0 < remaining s.magazines[p]

/-- The causes the flags of a good STATUS raise, in order, judged against the printer's state and last flags (R121): in
FAULTED only those newly shown. -/
def flagCauses (s : State) (p : PrinterId) (flags : BitVec 5) : List FaultCause :=
  let x := s.printers[p]
  let counts (f : BitVec 5 → Bool) : Bool := f flags && (x.state != .faulted || !f x.lastFlags)
  (if counts flagJam then [.jam] else []) ++ (if counts flagCoverOpen then [.coverOpen] else [])
    ++ (if counts flagOverheat then [.overheat] else [])
    ++ (if counts flagStockOut && stockOutContradicts s p flags then [.stockMismatch] else [])

/-- A fault a flag raises: STOCK_OUT involves the magazine's next serial, an error flag the oldest job in flight (Table
7-3). -/
def flagFault (order : List JobIx) (p : PrinterId) (flags : BitVec 5) (cause : FaultCause) (s : State) : State :=
  let who : Option Byte × Option Nat :=
    if cause = .stockMismatch then (none, some s.magazines[p].next) else oldestInFlight s p
  raiseFault order p { cause := cause, flags := some flags, token := who.1, serial := who.2, own := false } s

/-- The flags are judged and become the last flags (R121). -/
def judgeConditionFlags (order : List JobIx) (p : PrinterId) (flags : BitVec 5) (s : State) : State :=
  modPrinter p (fun x => { x with lastFlags := flags })
    (forEach (flagCauses s p flags) (flagFault order p flags) s)

/-- R122: a mark still set after the flags are judged faults the printer JAM, and is cleared. The serial involved is that of
the marked job, and none where an entry of the same STATUS has already ended the job or sent it back (log 39). -/
def judgeNotReady (order : List JobIx) (p : PrinterId) (flags : BitVec 5) (s : State) : State :=
  match s.printers[p].notReady with
  | none => s
  | some token =>
    let serial := (jobOfToken s token).bind (serialOf s)
    modPrinter p (fun x => { x with notReady := none })
      (raiseFault order p { cause := .jam, flags := some flags, token := some token, serial := serial, own := false } s)

/-- R129: a clean STATUS after the acknowledgement moves a FAULTED printer to RECOVERING with a roll-call request. -/
def judgeRecovery (order : List JobIx) (p : PrinterId) (flags : BitVec 5) (s : State) : State :=
  let x := s.printers[p]
  if x.state = .faulted ∧ x.fault.state = .acknowledged ∧ flagReady flags = true ∧ anyErrorFlag flags = false
      ∧ stockOutContradicts s p flags = false then
    rollRequest (lineOfPrinter p) (addressBit (addressIx p)) (enterState order p .recovering s)
  else s

/-- R107: with the printer not READY and a pending count of 0, each job still SENDING is handled as CANCELLED, in
ascending order of provisional serial; also a job whose outcome in the same reply was not consistent (R123; log 37). -/
def impliedCancel (order : List JobIx) (p : PrinterId) (waiting : Nat) (s : State) : State :=
  if s.printers[p].state ≠ .ready ∧ waiting = 0 then
    forEach (bySerial s (s.printers[p].outstanding.filter fun i => jobIs s i fun j => j.state == .sending))
      (takeCancelled order p) s
  else s

end Sys2Proof.Machine
end

