-- ==== Sys2Proof/Machine/Starts.lean ====
section
/-! DEFINITION. The Retained Store's check, the causes of a start, and what cold and warm starts do (R167 to R175; log 8,
log 9). -/

namespace Sys2Proof.Machine

/-! ### Volatile state (R18, R98, R109, R171) -/

/-- The volatile fields of a printer record after a start (Table 7-1). -/
def printerAfterStart (x : Printer) : Printer :=
  { x with outstanding := [], hold := none, spoilRun := 0, lastFlags := 0#5, notReady := none }

/-- The Time Base after a start (R171). -/
def TimeBase.zero : TimeBase :=
  { divider := 0, sweepCounter := 0#16, sweepCount := 0#32, allowanceDivider := 0, reloadDue := false }

/-- Every block's volatile state at its start value (R171), the office in STANDBY with its lamp dark, and ATTN as given. -/
def clearVolatile (attn : BitVec 7) (s : State) : State :=
  { s with
    office := .standby
    lamp := false
    time := .zero
    port := .start attn
    queues := Vector.replicate 24 []
    jobs := Vector.replicate 64 { generation := 0, job := none }
    freeStack := freeStackStart
    arbiters := Vector.replicate 8 .start
    express := s.windows.map WindowRecord.allowance
    printers := s.printers.map printerAfterStart
    lines := Vector.replicate 2 .start
    lineRecords := Vector.replicate 16 .start
    cashUps := Vector.replicate 24 none }

/-! ### A start begins (R169, R170) -/

/-- A start begins: all work in progress is abandoned, ATTN reads 0, the divider is 0 (R170). -/
def beginStart (cold lost : Bool) (s : State) : State :=
  { clearVolatile 0#7 s with start := some { cold := cold, lost := lost, seconds := 0#32 } }

/-- A start that checks the store (Table 10-2): cold with RLOST when the store is invalid; the strap asks for cold too. -/
def checkedStart (coldStrap : Bool) (s : State) : State :=
  beginStart (coldStrap || !storeValid s) (!storeValid s) s

/-! ### What a cold start does (R172) -/

/-- Every record of Table 10-1 at its cold-start value, with the office clock its ticks have counted since the start
began (R170). -/
def coldRecords (clock : Word) (s : State) : State :=
  { s with
    settings := { OfficeSettings.default with clock := clock }
    windows := Vector.replicate 24 .default
    routes := Vector.replicate 64 .default
    printers := Vector.replicate 16 .default
    lineConfigs := Vector.replicate 2 .default
    magazines := Vector.replicate 16 .unloaded
    kinds := Vector.replicate 16 .default
    register := .empty
    current := Vector.replicate 24 (.opened 1 0)
    closing := Vector.replicate 24 none
    dayTotals := .cleared 1 }

/-! ### What a warm start settles (R173, R174) -/

/-- One transmitted note is turned into an in-doubt blank, and its amount is added to the tally of its shift (R173). -/
def settleNote (p : PrinterId) (n : Note) (s : State) : State :=
  let t := inDoubtBlank p n.serial n.token n.window n.shift s
  match n.window, n.tender with
  | some w, some x => modTally w n.shift (addInDoubt x n.amount) t
  | _, _ => t

/-- The notes of one magazine, in ascending serial order (R135, R173). -/
def settleMagazine (p : PrinterId) (s : State) : State := forEach s.magazines[p].notes (settleNote p) s

/-- The lowest serial among a magazine's notes, the first of the list (R135); none without a note. -/
def lowestNote (m : Magazine) : Option Nat := m.notes.head?.map Note.serial

/-- A printer whose magazine held a note is faulted RESTART_IN_DOUBT (R173). -/
def faultHolder (held : PrinterId → Option Nat) (p : PrinterId) (s : State) : State :=
  match held p with
  | some serial =>
    raiseFault [] p
      { cause := .restartInDoubt, flags := none, token := none, serial := some serial, own := false } s
  | none => s

/-- R174's printers: READY, EMPTY and RECOVERING become RECOVERING and wait for a roll call. -/
def recoverPrinter (p : PrinterId) (s : State) : State :=
  match s.printers[p].state with
  | .ready | .empty | .recovering =>
    rollRequest (lineOfPrinter p) (addressBit (addressIx p)) (enterState [] p .recovering s)
  | .unconfigured | .offline | .faulted => s

/-- R174's tallies: every open-job count is 0. -/
def clearOpenJobs (s : State) : State :=
  { s with current := s.current.map fun t => { t with openJobs := 0 }
           closing := s.closing.map fun c => c.map fun t => { t with openJobs := 0 } }

/-- What a warm start settles, as one event (R173, R174). -/
def settleWarm (s : State) : State :=
  let held (p : PrinterId) : Option Nat := lowestNote s.magazines[p]
  let s := forEach (every 16) settleMagazine s
  let s := forEach (every 16) (faultHolder held) s
  let s := forEach (every 16) recoverPrinter s
  clearOpenJobs (forEach (every 16) recomputeKind s)

/-! ### The completion (R175) -/

/-- ATTN at the completion: START, and RLOST where it was set. -/
def attnAtCompletion (lost : Bool) : BitVec 7 := if lost then causeStart ||| causeRlost else causeStart

/-- The completion's own changes (R175): the start count, ATTN with every other cause and every mark cleared (R174), and
the express counts from the window records as they now stand (R73). -/
def finishStart (lost : Bool) (s : State) : State :=
  { s with
    start := none
    port := .start (attnAtCompletion lost)
    express := s.windows.map WindowRecord.allowance
    settings := { s.settings with startCount := s.settings.startCount + 1#32 } }

/-- A start completes in one event (R175): every check word is rewritten by a cold start (R172), and those of the records
changed by a warm one (R173). -/
def completeStart (st : StartInProgress) (s : State) : State :=
  if st.cold then sealStore (finishStart st.lost (coldRecords st.seconds s))
  else rewriteChecks s (finishStart st.lost (settleWarm s))

/-! ### The commands -/

/-- RESTART: a warm start in any office state, without a check (R20, R169). -/
def execRestart (s : State) : Host.Outcome State Fault Refusal := whenLive s (beginStart false false)

/-- COLD: a cold start in any office state, without a check (R20, R169). -/
def execCold (s : State) : Host.Outcome State Fault Refusal := whenLive s (beginStart true false)

/-- POWER_UP: main power is good with PCI reset released; the strap is sampled and the store checked (R169). -/
def execPowerUp (coldStrap : Bool) (s : State) : Host.Outcome State Fault Refusal :=
  goOn (if s.powered then s else checkedStart coldStrap { s with powered := true, pciReset := false })

/-- PCI_RESET: every block is held still, a start in progress is abandoned, the line drivers are released (R169, R170;
log 9). The retained office clock stands, whatever seconds an abandoned cold start had counted (log 41). -/
def execPciReset (s : State) : Host.Outcome State Fault Refusal :=
  goOn (if s.powered then
    { s with pciReset := true, start := none
             lines := s.lines.map fun x => { x with activity := .free, frameBuffer := [], replyTimer := none } }
  else s)

/-- PCI_RESET_RELEASE: the store is checked and a start begins (R169). -/
def execPciResetRelease (s : State) : Host.Outcome State Fault Refusal :=
  goOn (if s.powered && s.pciReset then checkedStart false { s with pciReset := false } else s)

/-- MAIN_POWER_LOSS: the retained records stand as the event in progress left them, and everything volatile is gone (R168;
log 9), with the seconds an abandoned cold start had counted (log 41). -/
def execMainPowerLoss (s : State) : Host.Outcome State Fault Refusal :=
  goOn (if s.powered then { clearVolatile 0#7 s with powered := false, pciReset := false, start := none } else s)

/-- VBK_LOSS: while main power is absent the store loses its contents, found as bad check words (R168). -/
def execVbkLoss (s : State) : Host.Outcome State Fault Refusal :=
  goOn (if s.powered then s else loseStore s)

/-- START_COMPLETE (R175). -/
def execStartComplete (s : State) : Host.Outcome State Fault Refusal :=
  goOn (if ticking s then
    match s.start with
    | some st => completeStart st s
    | none => s
  else s)

end Sys2Proof.Machine
end

