-- ==== Sys2Proof/Machine/Registers.lean ====
section
/-! DEFINITION. The register writes (R1 to R3, R5, R14) and the office commands RUN and HOLD (R20 to R22). -/

namespace Sys2Proof.Machine

/-- The office enters a state, its lamp at the level that entry gives (R24). -/
def enterOffice (o : OfficeState) (s : State) : State :=
  { s with office := o, lamp := match o with | .standby => false | .running | .hold | .exchangeFault => true }

/-! ### What a write does -/

/-- A write of XBASE (R2): taken in STANDBY, its low 12 bits discarded, ignored where the area would pass the top. -/
def writeXbase (value : Word) (s : State) : State :=
  let base := value &&& 0xFFFFF000#32
  if s.office = .standby ∧ base.toNat ≤ Config.xbaseTop.toNat then modPort (fun x => { x with xbase := base }) s else s

/-- A refused post (R5). -/
def refusePost (value : Word) (reason : PostReason) (s : State) : State :=
  setCause causePerr
    (modPort (fun x => { x with postsRefused := x.postsRefused + 1#32, lastRefused := value, lastReason := reason }) s)

/-- A post taken (R5, R6). -/
def takePost (n : SlipId) : State → State :=
  modPort fun x => { x with held := x.held ||| (1#128 <<< n.val), intake := x.intake ++ [n] }

/-- A post: RANGE, DOUBLE, FULL, in that order (R5). -/
def writePost (value : Word) (s : State) : State :=
  if h : value.toNat < 128 then
    let n : SlipId := ⟨value.toNat, h⟩
    if isHeld s n then refusePost value .double s
    else if Config.intakeRoom ≤ s.port.intake.length then refusePost value .full s
    else takePost n s
  else refusePost value .range s

/-- A write of ATTN clears each cause whose bit is 1 (R14). -/
def writeAttn (value : Word) : State → State := modPort fun x => { x with attn := x.attn &&& ~~~value.setWidth 7 }

/-- A write of ATTN_EN sets all seven enables (R14). -/
def writeAttnEn (value : Word) : State → State := modPort fun x => { x with attnEn := value.setWidth 7 }

/-- RUN taken in STANDBY with XBASE placed (R21). -/
def runFromStandby (s : State) : State :=
  markEverything (modTime (fun t => { t with sweepCounter := 0#16, allowanceDivider := 0 }) (enterOffice .running s))

/-- RUN (R20 to R22, R17): from EXCHANGE_FAULT the engine resumes with the recorded access, which stays recorded. -/
def runCommand (s : State) : State :=
  match s.office with
  | .standby => if s.port.xbase = 0#32 then s else runFromStandby s
  | .running => s
  | .hold | .exchangeFault => enterOffice .running s

/-- HOLD: from RUNNING alone (R20, R22); a reload that an earlier sweep brought is made before it (R29; log 20). -/
def holdCommand (s : State) : State := if s.office = .running then enterOffice .hold (allowanceReload s) else s

/-- The effect of a write's command (R1, R3, R20). -/
def writeEffect (write : Instr) : State → State :=
  match write with
  | .xbaseWrite value => writeXbase value
  | .post value => writePost value
  | .attnWrite value => writeAttn value
  | .attnEnWrite value => writeAttnEn value
  | .run => runCommand
  | .hold => holdCommand
  | .restart => beginStart false false
  | .cold => beginStart true false
  | _ => id

/-! ### The commands -/

/-- XBASE_WRITE (R2). -/
def execXbaseWrite (value : Word) (s : State) : Host.Outcome State Fault Refusal := whenLive s (writeXbase value)

/-- POST (R5). -/
def execPost (value : Word) (s : State) : Host.Outcome State Fault Refusal := whenLive s (writePost value)

/-- ATTN_WRITE (R14). -/
def execAttnWrite (value : Word) (s : State) : Host.Outcome State Fault Refusal := whenLive s (writeAttn value)

/-- ATTN_EN_WRITE (R14). -/
def execAttnEnWrite (value : Word) (s : State) : Host.Outcome State Fault Refusal := whenLive s (writeAttnEn value)

/-- RUN (R20 to R22, R17). -/
def execRun (s : State) : Host.Outcome State Fault Refusal := whenLive s runCommand

/-- HOLD (R20, R22). -/
def execHold (s : State) : Host.Outcome State Fault Refusal := whenLive s holdCommand

/-- REGISTER_WRITE_IGNORED (R1, R3, R170): the write is read by `windowWrite`; one to IDENT or to no register, with a byte
enable deasserted, or of no office command has no effect, and neither has any write during a start. A term whose operands
spell another command's write, which is not well formed, has that write's effect (log 40). -/
def execRegisterWriteIgnored (offset : BitVec 6) (byteEnables : BitVec 4) (value : Word) (s : State) :
    Host.Outcome State Fault Refusal :=
  whenLive s (writeEffect (windowWrite offset byteEnables value))

end Sys2Proof.Machine
end

