-- ==== Sys2Proof/Machine/Exchange.lean ====
section
/-! DEFINITION. The Exchange Port: fetch requests (R7), the bus-master engine (R11, R12), returns (R10), table and header
writes (R12, R13), a failed access (R15), and the taking of a fetched slip (R7, R8). -/

namespace Sys2Proof.Machine

/-! ### What the engine starts (R11, R12, R17) -/

/-- An access begins. -/
def startAccess (a : Access) : State → State := modPort fun x => { x with engine := some a }

/-- A header write begins: the mark is cleared and the content taken now (R12, R13). -/
def startHeader (s : State) : State :=
  startAccess (.header (headerBytes s)) (modPort (fun x => { x with headerMark := false }) s)

/-- The mark carries a cause. -/
def carriesCause (m : WriteMark) : Bool := m == .withCause

/-- A Printer Status Table write begins: the mark is cleared, its cause goes with the write, the content is taken now. -/
def startPrinterEntry (p : PrinterId) (s : State) : State :=
  startAccess (.printerEntry p (printerEntryBytes s p) (carriesCause s.port.printerMarks[p]))
    (modPort (fun x => { x with printerMarks := put x.printerMarks p .clear }) s)

/-- A Stock Kind Table write begins. -/
def startStockEntry (k : KindId) (s : State) : State :=
  startAccess (.stockEntry k (stockEntryBytes s k) (carriesCause s.port.stockMarks[k]))
    (modPort (fun x => { x with stockMarks := put x.stockMarks k .clear }) s)

/-- The return of the head entry begins with its result fields (R10). -/
def startReturn (s : State) : State :=
  match s.port.returns with
  | e :: _ => startAccess (.returnFields e) s
  | [] => s

/-- The retry of the recorded access (R17): a return from its first step, a fetch of the whole slip, a write with the
content of this moment (log 22). -/
def startRetry (f : FailedAccess) (s : State) : State :=
  match f with
  | .fetch n => startAccess (.fetch n) s
  | .returning => startReturn s
  | .header => startHeader s
  | .printerEntry p => startPrinterEntry p s
  | .stockEntry k => startStockEntry k s

/-- The first printer whose entry is marked. -/
def markedPrinter (s : State) : Option PrinterId := firstWhere (every 16) fun p => s.port.printerMarks[p] != .clear

/-- The first kind whose entry is marked. -/
def markedKind (s : State) : Option KindId := firstWhere (every 16) fun k => s.port.stockMarks[k] != .clear

/-- The first marked table entry's write begins (R11, third), if one is marked. -/
def startTableWrite (s : State) : Option State :=
  match markedPrinter s, markedKind s with
  | some p, _ => some (startPrinterEntry p s)
  | none, some k => some (startStockEntry k s)
  | none, none => none

/-- The fetch requested by the Slip Reader begins (R7, R11). -/
def startFetch (s : State) : State :=
  match s.port.reader, s.port.intake with
  | .fetching, n :: _ => startAccess (.fetch n) s
  | _, _ => s

/-- The first waiting access begins (R11). -/
def startFirstWaiting (s : State) : State :=
  match s.port.failed with
  | some f => startRetry f s
  | none =>
    if !s.port.returns.isEmpty then startReturn s
    else match startTableWrite s with
      | some t => t
      | none => if s.port.headerMark then startHeader s else startFetch s

/-! ### How an access ends -/

/-- An access ends in success: the engine is free, and a recorded failure, which this access retried, is cleared (R17). -/
def accessDone : State → State := modPort fun x => { x with engine := none, failed := none }

/-- The event of R10 when the Return Map write completes. -/
def completeReturn (e : ReturnEntry) (s : State) : State :=
  markHeader (setCause causeRet (modPort (fun x => { x with
    returns := x.returns.drop 1
    held := x.held &&& ~~~(1#128 <<< e.slip.val)
    slipsReturned := x.slipsReturned + 1#32 }) (accessDone s)))

/-- What a failed access leaves for its retry (R12, R15): marks set again with the causes the writes carried. -/
def remark (a : Access) (s : State) : State :=
  match a with
  | .header _ => markHeader s
  | .printerEntry p _ cause => markPrinter p cause s
  | .stockEntry k _ cause => markStock k cause s
  | .fetch _ | .returnFields _ | .returnMap _ => s

/-- The record of a failed access (R15). -/
def failureOf : Access → FailedAccess
  | .fetch n => .fetch n
  | .returnFields _ | .returnMap _ => .returning
  | .header _ => .header
  | .printerEntry p _ _ => .printerEntry p
  | .stockEntry k _ _ => .stockEntry k

/-- The exchange fault (R15, R23, R24). -/
def exchangeFault (a : Access) (s : State) : State :=
  remark a (setCause causeXerr (enterOffice .exchangeFault
    (modPort (fun x => { x with engine := none, failed := some (failureOf a) }) s)))

/-! ### Taking a fetched slip (R7, R8) -/

/-- The slip leaves the intake, is counted, and the Slip Reader is IDLE (R7). -/
def takeSlip (s : State) : State :=
  modPort (fun x => { x with intake := x.intake.drop 1, slipsTaken := x.slipsTaken + 1#32, reader := .idle })
    (accessDone s)

/-- The slip stays at the intake head and the Slip Reader waits for a record (R8). -/
def waitForRecord (s : State) : State := modPort (fun x => { x with reader := .waitingRecord }) (accessDone s)

/-- The fetch in progress has read a slip, which is handed on (R7; log 11). -/
def handOn (work : SlipId → State → State) (s : State) : Host.Outcome State Fault Refusal :=
  whenLive s fun s =>
    match s.port.engine with
    | some (.fetch n) => work n (takeSlip s)
    | _ => s

/-- The same for a slip that needs a job record: with an empty Free Job Stack it waits (R8). -/
def handOnForRecord (work : SlipId → State → State) (s : State) : Host.Outcome State Fault Refusal :=
  whenLive s fun s =>
    match s.port.engine with
    | some (.fetch n) => if s.freeStack.isEmpty then waitForRecord s else work n (takeSlip s)
    | _ => s

/-! ### The commands -/

/-- FETCH_REQUEST (R7). -/
def execFetchRequest (s : State) : Host.Outcome State Fault Refusal :=
  whenLive s fun s =>
    if s.port.reader = .idle ∧ serving s = true ∧ s.port.intake ≠ [] then
      modPort (fun x => { x with reader := .fetching }) s
    else s

/-- ENGINE_ACCESS_START (R11). -/
def execEngineAccessStart (s : State) : Host.Outcome State Fault Refusal :=
  whenLive s fun s => if s.port.engine = none ∧ serving s = true then startFirstWaiting s else s

/-- RETURN_RESULT_WRITTEN: step 1 of R10 is complete and step 2 begins. -/
def execReturnResultWritten (s : State) : Host.Outcome State Fault Refusal :=
  whenLive s fun s =>
    match s.port.engine with
    | some (.returnFields e) => startAccess (.returnMap e) s
    | _ => s

/-- RETURN_COMPLETE: the Return Map write is complete (R10). -/
def execReturnComplete (s : State) : Host.Outcome State Fault Refusal :=
  whenLive s fun s =>
    match s.port.engine with
    | some (.returnMap e) => completeReturn e s
    | _ => s

/-- HEADER_WRITE_COMPLETE (R13). -/
def execHeaderWriteComplete (s : State) : Host.Outcome State Fault Refusal :=
  whenLive s fun s =>
    match s.port.engine with
    | some (.header _) => accessDone s
    | _ => s

/-- TABLE_WRITE_COMPLETE: the cause the write carried is set in ATTN (R12). -/
def execTableWriteComplete (s : State) : Host.Outcome State Fault Refusal :=
  whenLive s fun s =>
    match s.port.engine with
    | some (.printerEntry _ _ cause) => if cause then setCause causePflt (accessDone s) else accessDone s
    | some (.stockEntry _ _ cause) => if cause then setCause causeStk (accessDone s) else accessDone s
    | _ => s

/-- ACCESS_FAIL (R15). -/
def execAccessFail (s : State) : Host.Outcome State Fault Refusal :=
  whenLive s fun s =>
    match s.port.engine with
    | some a => exchangeFault a s
    | none => s

end Sys2Proof.Machine
end

