-- ==== Sys2Proof/Machine/Grant.lean ====
section
/-! DEFINITION. The Group Arbiters: eligibility (R74), requesters and claimants (R75), the rings (R77 to R79), the choice of
a printer (R80), the grant (R81, R84), claim release (R86), and ARBITER_ACTION (R76). -/

namespace Sys2Proof.Machine

/-! ### Eligibility (R72, R74) -/

/-- A job's target group, read from its window record each time (R34, R72); a test print has none. -/
def targetGroup (s : State) (j : Job) : Option GroupId :=
  match j.window, j.target with
  | some w, .home => some s.windows[w].homeGroup
  | some w, .alternate => s.windows[w].alternateGroup
  | none, _ => none

/-- Condition 8 of R74: a window that holds a printer is served by that printer alone. -/
def ownHoldAllows (s : State) (p : PrinterId) (j : Job) : Bool :=
  match j.window with
  | some w =>
    match heldPrinter s w with
    | some q => q == p
    | none => true
  | none => true

/-- Every condition of R74 but the seventh: what a claim judges (R75, R86). -/
def suits (s : State) (p : PrinterId) (j : Job) : Bool :=
  let x := s.printers[p]
  let m := s.magazines[p]
  x.configured && targetGroup s j == some x.group
    && x.state == .ready
    && x.outstanding.length < 2
    && (m.loaded && m.kind == j.kind && !m.frozen)
    && transmitted m + reserved s p < remaining m
    && !isSelected s p
    && ownHoldAllows s p j

/-- Condition 7 of R74 broken: a window other than the job's holds the printer. -/
def heldByOther (s : State) (p : PrinterId) (j : Job) : Bool :=
  s.printers[p].hold.any fun h => some h.window != j.window

/-- A printer is eligible for a job (R74). -/
def eligible (s : State) (p : PrinterId) (j : Job) : Bool := suits s p j && !heldByOther s p j

/-- The printers eligible for a job, ascending. -/
def eligiblePrinters (s : State) (j : Job) : List PrinterId := (every 16).filter fun p => eligible s p j

/-! ### Requesters and claimants (R75) -/

/-- A window's head job. -/
def headJob (s : State) (w : WindowId) : Option Job := s.queues[w].head?.bind (jobAt s)

/-- The window's head job is a requester of the group's arbiter. -/
def isRequester (s : State) (g : GroupId) (w : WindowId) : Bool :=
  (headJob s w).any fun j => targetGroup s j == some g && !(eligiblePrinters s j).isEmpty

/-- The window's head job is a claimant of the printer. -/
def isClaimant (s : State) (g : GroupId) (w : WindowId) (p : PrinterId) : Bool :=
  (headJob s w).any fun j =>
    targetGroup s j == some g && (eligiblePrinters s j).isEmpty && heldByOther s p j && suits s p j

/-- The printers of the group whose ON_DEMAND hold has a claimant (R86). -/
def claimedPrinters (s : State) (g : GroupId) : List PrinterId :=
  (every 16).filter fun p =>
    (s.printers[p].hold.any fun h => h.kind == .onDemand) && (every 24).any fun w => isClaimant s g w p

/-! ### Rings (R77 to R79) -/

/-- The window is in the express ring of the group. -/
def inExpressRing (s : State) (g : GroupId) (w : WindowId) : Bool :=
  isRequester s g w && ((headJob s w).any fun j => j.service == .express) && 0 < s.express[w]

/-- The window is in the standard ring of the group. -/
def inStandardRing (s : State) (g : GroupId) (w : WindowId) : Bool :=
  isRequester s g w && !inExpressRing s g w

/-- The windows in ascending order from the one after `w`, wrapping from 23 to 0, with `w` itself last. -/
def windowsAfter (w : WindowId) : List WindowId :=
  (List.range 24).map fun i => ⟨(w.val + 1 + i) % 24, Nat.mod_lt _ (by decide)⟩

/-- The winner of an express grant (R78). -/
def expressWinner (s : State) (g : GroupId) : Option WindowId :=
  firstWhere (windowsAfter s.arbiters[g].lastExpress) (inExpressRing s g)

/-- The winner of a standard grant (R79): the token window, else the first after it. -/
def standardWinner (s : State) (g : GroupId) : Option WindowId :=
  let token := s.arbiters[g].token
  if inStandardRing s g token then some token else firstWhere (windowsAfter token) (inStandardRing s g)

/-! ### The grant (R80, R81, R84) -/

/-- Fewer jobs outstanding wins; a tie falls to the lower number, which comes first (R80). -/
def fewestJobs (s : State) : List PrinterId → Option PrinterId
  | [] => none
  | p :: rest =>
    match fewestJobs s rest with
    | none => some p
    | some q => if s.printers[p].outstanding.length ≤ s.printers[q].outstanding.length then some p else some q

/-- The printer chosen for a job among those eligible (R80): with a held printer, R74 leaves only that one. -/
def chosenPrinter (s : State) (j : Job) : Option PrinterId := fewestJobs s (eligiblePrinters s j)

/-- What a window's record makes of a printer's hold at a grant to one of its jobs (R84). -/
def holdAfterGrant (r : WindowRecord) (w : WindowId) (sale : BitVec 16) (old : Option Hold) : Option Hold :=
  match r.enabled, r.holdPolicy with
  | true, .onDemand => some { window := w, kind := .onDemand, idle := false }
  | true, .saleEnd => some { window := w, kind := .saleEnd sale, idle := false }
  | _, _ => old.map fun h => { h with idle := false }

/-- The printer's hold after a grant to a window's job (R84). -/
def setHold (j : Job) (p : PrinterId) (s : State) : State :=
  match j.window with
  | some w => modPrinter p (fun x => { x with hold := holdAfterGrant s.windows[w] w j.sale x.hold }) s
  | none => s

/-- The move of R81: from the head of the window queue to the tail of the printer's list, with the hold of R84. -/
def moveToPrinter (w : WindowId) (i : JobIx) (j : Job) (p : PrinterId) (s : State) : State :=
  setHold j p (joinPrinter p i (leaveQueue w i s))

/-- The ring state after an express grant (R78). -/
def afterExpress (g : GroupId) (w : WindowId) (s : State) : State :=
  modExpress w (· - 1) (modArbiter g (fun a => { a with lastExpress := w }) s)

/-- The token passes on (R79): to the first other window in the standard ring, else to the next number. -/
def passToken (g : GroupId) (s : State) : State :=
  let token := s.arbiters[g].token
  let next := (firstWhere ((windowsAfter token).take 23) (inStandardRing s g)).getD
    ⟨(token.val + 1) % 24, Nat.mod_lt _ (by decide)⟩
  modArbiter g (fun a => { a with token := next, burst := 0 }) s

/-- The ring state after a standard grant (R79), judged against the state the grant has left. -/
def afterStandard (g : GroupId) (w : WindowId) (s : State) : State :=
  let t := modArbiter g (fun a =>
    if a.token = w then { a with burst := a.burst + 1 } else { a with token := w, burst := 1 }) s
  if t.windows[w].weight ≤ t.arbiters[g].burst then passToken g t else t

/-- A grant to a window's head job, if a printer is eligible for it. -/
def grantTo (w : WindowId) (ring : State → State) (s : State) : State :=
  match s.queues[w].head? with
  | none => s
  | some i =>
    match jobAt s i with
    | none => s
    | some j =>
      match chosenPrinter s j with
      | none => s
      | some p => ring (moveToPrinter w i j p s)

/-- One grant of the group, from the express ring if it has a member, otherwise from the standard ring (R77). -/
def grantOnce (g : GroupId) (s : State) : State :=
  match expressWinner s g with
  | some w => grantTo w (afterExpress g w) s
  | none =>
    match standardWinner s g with
    | some w => grantTo w (afterStandard g w) s
    | none => s

/-! ### The action (R76) -/

/-- The group has a requester, or a claimant of an ON_DEMAND hold. -/
def mayAct (s : State) (g : GroupId) : Bool :=
  ((every 24).any fun w => isRequester s g w) || !(claimedPrinters s g).isEmpty

/-- The steps of R76 repeated while either condition remains. Each repetition grants one of at most 64 queued jobs, so
64 repetitions exhaust the action. -/
def actRepeatedly (g : GroupId) : Nat → State → State
  | 0, s => s
  | fuel + 1, s =>
    if mayAct s g then actRepeatedly g fuel (grantOnce g (forEach (claimedPrinters s g) releaseHold s)) else s

/-- ARBITER_ACTION: the group's arbiter acts, in RUNNING and EXCHANGE_FAULT (R76, R19). -/
def execArbiterAction (g : GroupId) (s : State) : Host.Outcome State Fault Refusal :=
  whenLive s fun s => if granting s then actRepeatedly g 64 s else s

end Sys2Proof.Machine
end

