-- ==== Sys2Proof/Machine/RollCall.lean ====
section
/-! DEFINITION. The roll call: rounds (R110, R111), the judgement of an answer (R112, R145, R146), what a result does
(R130), the end of a round (R113) and the commands SERIAL's and a slot's other ends share (R111). -/

namespace Sys2Proof.Machine

/-- The roll call of a line is changed. -/
def modRoll (l : LineId) (f : RollCall → RollCall) : State → State :=
  modLine l fun x => { x with roll := f x.roll }

/-! ### Rounds (R110, R111) -/

/-- RECALL is sent to address 0 with the unresolved printers in its mask (R110, Table 11-18): the slots that follow are
theirs. -/
def sendRecall (l : LineId) (s : State) : State :=
  let mask := unresolved s.lines[l].roll
  modLine l (fun x => { x with activity := .recalling mask, frameBuffer := frameBytes 0#8 0x04#8 [mask],
                               replyTimer := none }) s

/-- A line whose exchange or round has ended is free, unless a round is due, which takes it (R99, R110). -/
def freeLine (l : LineId) (s : State) : State :=
  let t := modLine l (fun x => { x with activity := .free, frameBuffer := [], replyTimer := none }) s
  if t.lines[l].roll.phase = .round then sendRecall l t else t

/-- A line that has entered ROUND sends RECALL at once if it is free; otherwise when its exchange ends (log 19). -/
def recallIfFree (l : LineId) (s : State) : State :=
  if s.lines[l].activity = .free then sendRecall l s else s

/-- The roll call after a sweep starts its round, if one is due (R110). -/
def nextRound (r : RollCall) : RollCall :=
  match r.phase with
  | .waiting => { phase := .round, number := 1, waitingSet := 0#8, runningSet := r.waitingSet, pendingSet := 0#8,
                  known := 0#8 }
  | .between => { r with phase := .round, number := r.number + 1 }
  | .none | .round => r

/-- The Line Controller's work at a sweep: a WAITING or BETWEEN line starts a round (R110). -/
def startRound (l : LineId) (s : State) : State :=
  match s.lines[l].roll.phase with
  | .waiting | .between => recallIfFree l (modRoll l nextRound s)
  | .none | .round => s

/-! ### Results (R112, R130) -/

/-- A result becomes known: the selection ends, and the result is kept for the slip that selected the printer, unless the
slip already reports it (R112, R113; log 34). -/
def settleResult (p : PrinterId) (r : RollResult) (s : State) : State :=
  let l := lineOfPrinter p
  let a := addressIx p
  let t := modRoll l (fun x => { x with known := x.known ||| addressBit a }) s
  if resultMissing t l a then keepResult l a r t else t

/-- The fault record is cleared to NONE; a record that was not NONE marks the entry with PFLT (R130, R131; log 35). -/
def clearRecord (p : PrinterId) (s : State) : State :=
  let t := modPrinter p (fun x => { x with fault := .clear }) s
  if s.printers[p].fault.state = .none then t else markPrinter p true t

/-- A RECOVERING printer returns to service (R130). -/
def returnToService (order : List JobIx) (p : PrinterId) (s : State) : State :=
  let m := s.magazines[p]
  clearRecord p (enterState order p (if m.loaded ∧ 0 < remaining m then .ready else .empty) s)

/-- A roll-call result handed to the Printer Records (R130). MISMATCH and UNANSWERED are the roll call's own judgement, so
that a request made meanwhile stays (R113; log 31). A result R130's table has no row for leaves the printer as it is: any
result of a FAULTED printer, and ROLLED_BACK of one READY or EMPTY (log 45). -/
def handOver (p : PrinterId) (r : RollResult) (s : State) : State :=
  let order := s.printers[p].outstanding
  match s.printers[p].state, r with
  | .recovering, .verified | .recovering, .rolledBack _ => returnToService order p s
  | .recovering, .mismatch serial | .ready, .mismatch serial | .empty, .mismatch serial =>
    raiseFault order p { cause := .stockMismatch, flags := none, token := none, serial := some serial, own := true } s
  | .recovering, .unanswered =>
    raiseFault order p { cause := .lineSilent, flags := none, token := none, serial := none, own := true } s
  | _, _ => s

/-! ### The judgement (R145, R146) -/

/-- Table 8-2: the first case that applies. -/
def judgeAnswer (m : Magazine) (serial : Nat) (kind : Nat) : RollResult :=
  if !m.loaded then .verified
  else if m.frozen then .mismatch serial
  else if kind ≠ m.kind.val then .mismatch serial
  else if serial = m.next then .verified
  else match m.unverified with
    | none => .mismatch serial
    | some v => if v ≤ serial ∧ serial < m.next then .rolledBack (m.next - serial) else .mismatch serial

/-- What the judgement does to a magazine record that is loaded (R145, R146). -/
def judgedMagazine (m : Magazine) (r : RollResult) : Magazine :=
  match r with
  | .verified => { m with unverified := none }
  | .rolledBack n => { m with inDoubt := m.inDoubt - n, next := m.next - n, unverified := none }
  | .mismatch _ => { m with frozen := true }
  | .unanswered => m

/-- A judgement's effects on the Stock Unit: the record, the entries turned UNUSED by a rollback, and the totals. -/
def applyJudgement (p : PrinterId) (r : RollResult) (s : State) : State :=
  let m := s.magazines[p]
  if m.loaded then
    let t := match r with
      | .rolledBack n => { s with register := rollEntries p m.kind (m.next - n) m.next s.register }
      | _ => s
    recomputeOf p (setMagazine p (judgedMagazine m r) t)
  else s

/-- A good SERIAL answer in the slot of an unresolved printer (R112): not judged while a job is in SENDING or SENT. -/
def takeSerial (p : PrinterId) (serial kind : Nat) (s : State) : State :=
  if (flightList s p).isEmpty then
    let r := judgeAnswer s.magazines[p] serial kind
    handOver p r (settleResult p r (applyJudgement p r s))
  else s

/-! ### The end of a round (R113, R114) -/

/-- The ROLL CALL slip of the line is returned DONE with its eight records (R114, Table 11-16). -/
def returnRollSlip (l : LineId) (s : State) : State :=
  match s.lines[l].rollSlip with
  | none => s
  | some c =>
    addReturn c.slip c.tag .done 0#32 ((every 8).flatMap fun a => rollRecord c.results[a])
      (modLine l (fun x => { x with rollSlip := none }) s)

/-- The unresolved printers of a line, ascending. -/
def unresolvedPrinters (s : State) (l : LineId) : List PrinterId :=
  ((every 8).filter fun a => inMask (unresolved s.lines[l].roll) a).map (printerAt l)

/-- A printer unresolved after round 3 is UNANSWERED (R113). -/
def giveUnanswered (p : PrinterId) (s : State) : State := handOver p .unanswered (settleResult p .unanswered s)

/-- The roll call ends (R113): results, the slip, the running set, and the pending set, which waits or leaves NONE. Several
UNANSWERED printers are taken in ascending order of address, before the slip's return (R113, R130; log 38). -/
def endRollCall (l : LineId) (s : State) : State :=
  modRoll l (fun r =>
    if r.pendingSet = 0#8 then RollCall.none
    else { RollCall.none with phase := .waiting, waitingSet := r.pendingSet })
    (returnRollSlip l (forEach (unresolvedPrinters s l) giveUnanswered s))

/-- The last slot has ended (R111, R113). -/
def endRound (l : LineId) (s : State) : State :=
  let r := s.lines[l].roll
  let t := if unresolved r = 0#8 ∨ 3 ≤ r.number then endRollCall l s
    else modRoll l (fun r => { r with phase := .between }) s
  freeLine l t

/-- The next slot of a round, its timer running for W from its start (R111); with none left the round ends. -/
def nextSlot (l : LineId) (slots : BitVec 8) (s : State) : State :=
  match firstWhere (every 8) (inMask slots) with
  | some a =>
    modLine l (fun x => { x with activity := .slot a (slots &&& ~~~addressBit a),
                                 replyTimer := some s.lineConfigs[l].window }) s
  | none => endRound l s

/-- The slot in progress ends: the next begins, or the round ends (R111). -/
def endSlot (l : LineId) (s : State) : State :=
  match s.lines[l].activity with
  | .slot _ later => nextSlot l later s
  | _ => s

/-- An answer received in the slot of a printer: a good SERIAL is judged unless the printer has left the running set
(R112, R113); in every case the slot ends (R111). -/
def takeAnswer (l : LineId) (a : AddressIx) (address : Byte) (reply : Reply) (s : State) : State :=
  let good := address == addressByte a && answerExpected reply && replyInRange reply
  let judged := good && inMask (unresolved s.lines[l].roll) a
  endSlot l (match judged, reply with
    | true, .serial serial kind => takeSerial (printerAt l a) serial.toNat kind.toNat s
    | _, _ => s)

end Sys2Proof.Machine
end

