-- ==== Sys2Proof/Machine/Lines.lean ====
section
/-! DEFINITION. The Line Controllers: turns (R99, R100), frames sent (R94, R96, R102), exchanges that fail (R101), good
replies (R103 to R105), and the line commands. -/

namespace Sys2Proof.Machine

/-- The driver enable of a line is asserted while a frame is sent (R96). -/
def driverEnable (s : State) (l : LineId) : Bool :=
  match s.lines[l].activity with
  | .sending _ | .recalling _ => true
  | .free | .awaiting _ | .slot _ _ => false

/-- The bits per second of a rate (Table 6-1). -/
def bitsPerSecond : BitRate → Nat
  | .r115200 => 115200
  | .r38400 => 38400

/-- The character time of a rate in nanoseconds, rounded down: ten bits (R94). -/
def characterTime (r : BitRate) : Nat := 10 * 1000000000 / bitsPerSecond r

/-- The bits the part drives onto a line: the characters of the frame in its buffer while its driver is enabled (R94,
R96). -/
def drivenBits (s : State) (l : LineId) : List CharacterBit :=
  if driverEnable s l then lineBits s.lines[l].frameBuffer else []

/-! ### Turns (R99, R100) -/

/-- The addresses after the pointer, wrapping from 8 to 1, the pointer's own last (R99). -/
def addressesAfter (a : AddressIx) : List AddressIx :=
  (List.range 8).map fun i => ⟨(a.val + 1 + i) % 8, Nat.mod_lt _ (by decide)⟩

/-- The first configured address after the pointer: a printer in every state but UNCONFIGURED takes turns (R99). -/
def nextTurn (s : State) (l : LineId) : Option AddressIx :=
  firstWhere (addressesAfter s.lines[l].pointer) fun a => s.printers[printerAt l a].state != .unconfigured

/-- What a printer's turn carries (R100). -/
inductive TurnFrame where
  | clear
  /-- the repeat job again -/
  | again (i : JobIx)
  /-- the first PRINT of a GRANTED job -/
  | first (i : JobIx)
  | poll
  deriving DecidableEq, Repr

/-- The repeat job of a printer, in its outstanding list. -/
def repeatJobOf (s : State) (p : PrinterId) : Option JobIx :=
  match s.lineRecords[p].repeatJob with
  | some t => firstWhere s.printers[p].outstanding fun i => tokenOf s i == t
  | none => none

/-- The frame of a turn: the first case of R100 that applies. -/
def chooseFrame (s : State) (p : PrinterId) : TurnFrame :=
  if s.lineRecords[p].clearRequest then .clear
  else if s.printers[p].state = .ready then
    match repeatJobOf s p with
    | some i => .again i
    | none =>
      if isSelected s p then .poll
      else match firstWhere s.printers[p].outstanding (isGranted s) with
        | some i => .first i
        | none => .poll
  else .poll

/-! ### Frames sent (R94, R102, Table 11-18) -/

/-- A PRINT payload from the job record as it stands (R102, R179). -/
def printPayload (ack token : Byte) (j : Job) : List Byte :=
  [ack, token] ++ be 4 (j.serial.getD 0) ++ [byte j.kind.val, flagByte j.window.isNone, byte j.face.length] ++ j.face

/-- A frame goes out to a printer: the driver enable is asserted, and the exchange keeps the line's configuration (R92,
R96, R97). -/
def sendFrame (l : LineId) (p : PrinterId) (command : CommandKind) (kind : Byte) (payload : List Byte) (s : State) :
    State :=
  let c := s.lineConfigs[l]
  modLine l (fun x => { x with
    activity := .sending { printer := p, command := command, window := c.window, rate := c.rate, void := false }
    frameBuffer := frameBytes (addressByte (addressIx p)) kind payload
    replyTimer := none }) s

/-- A PRINT frame built from a job's record. -/
def sendPrint (l : LineId) (p : PrinterId) (i : JobIx) (s : State) : State :=
  match jobAt s i with
  | some j =>
    let token := tokenOf s i
    sendFrame l p (.print token) 0x02#8 (printPayload s.lineRecords[p].ackToken token j) s
  | none => s

/-- R102: once the frame of a first transmission is built, an outcome of an earlier use of the token is forgotten. -/
def forgetToken (p : PrinterId) (token : Byte) : State → State :=
  modLineRecord p fun r => { r with
    reported := r.reported.filter (· != token)
    ackToken := if r.ackToken = token then 0xFF#8 else r.ackToken }

/-- The first transmission of a GRANTED job (R102, R136). -/
def transmitFirst (l : LineId) (p : PrinterId) (i : JobIx) (s : State) : State :=
  let t := modJob i (fun j => { j with state := .sending }) (claimBlank p i s)
  forgetToken p (tokenOf t i) (sendPrint l p i t)

/-- The frame of a printer's turn is sent (R100). -/
def takeTurn (l : LineId) (p : PrinterId) (s : State) : State :=
  let ack := s.lineRecords[p].ackToken
  match chooseFrame s p with
  | .clear => sendFrame l p .clear 0x03#8 [ack] s
  | .again i => sendPrint l p i s
  | .first i => transmitFirst l p i s
  | .poll => sendFrame l p .poll 0x01#8 [ack] s

/-- The next turn of a free line: the pointer moves and one exchange begins (R99). -/
def lineTurn (l : LineId) (s : State) : State :=
  if s.lines[l].activity = .free then
    match nextTurn s l with
    | some a => takeTurn l (printerAt l a) (modLine l (fun x => { x with pointer := a }) s)
    | none => s
  else s

/-! ### Exchanges that fail (R101) -/

/-- The job a token names, if it is in the printer's list and SENDING. -/
def sendingJob (s : State) (p : PrinterId) (token : Byte) : Option JobIx :=
  match jobOfToken s token with
  | some i => if s.printers[p].outstanding.contains i && jobIs s i (fun j => j.state == .sending) then some i else none
  | none => none

/-- A failed PRINT's job becomes the repeat job, if its end has not been taken first (R101). -/
def keepForRepeat (p : PrinterId) (command : CommandKind) (s : State) : State :=
  match command with
  | .print token =>
    if (sendingJob s p token).isSome then modLineRecord p (fun r => { r with repeatJob := some token }) s else s
  | .poll | .clear => s

/-- The token and serial involved in LINE_SILENT: the repeat job, else the oldest in flight (Table 7-3). -/
def silentInvolved (s : State) (p : PrinterId) : Option Byte × Option Nat :=
  match repeatJobOf s p with
  | some i => (some (tokenOf s i), serialOf s i)
  | none => oldestInFlight s p

/-- A failed exchange: the count rises to the retry limit at most, and the failure that brings it there faults the
printer LINE_SILENT (R101). A count that stood at the limit before ENTER brings no fault until a good reply (log 43). -/
def exchangeFailed (x : Exchange) (s : State) : State :=
  let p := x.printer
  let limit := s.lineConfigs[lineOfPrinter p].retryLimit
  let old := s.lineRecords[p].failures
  let t := keepForRepeat p x.command
    (modLineRecord p (fun r => { r with failures := if r.failures < limit then r.failures + 1 else r.failures }) s)
  if old < limit ∧ limit ≤ old + 1 then
    let who := silentInvolved t p
    raiseFault t.printers[p].outstanding p
      { cause := .lineSilent, flags := none, token := who.1, serial := who.2, own := false } t
  else t

/-! ### Good replies (R103 to R105) -/

/-- A good ACCEPT (R103): the job becomes SENT and the repeat job is cleared; for a job that has left SENDING there is no
further effect. -/
def takeAccept (p : PrinterId) (token : Byte) (s : State) : State :=
  match sendingJob s p token with
  | some i =>
    modLineRecord p (fun r => { r with repeatJob := none }) (modJob i (fun j => { j with state := .sent }) s)
  | none => s

/-- A good REFUSE (R104, R122) of a job still in SENDING; for a job that has left there is no further effect (log 24). -/
def takeRefuse (p : PrinterId) (token reason : Byte) (s : State) : State :=
  match sendingJob s p token with
  | none => s
  | some i =>
    if reason = 1#8 then modLineRecord p (fun r => { r with repeatJob := some token }) s
    else
      let t := modLineRecord p (fun r => { r with repeatJob := none }) s
      if reason = 4#8 then modPrinter p (fun x => { x with notReady := some token }) t
      else raiseFault t.printers[p].outstanding p
        { cause := .stockMismatch, flags := none, token := some token, serial := serialOf t i, own := false } t

/-- The five condition flags of a flags byte; its other bits are ignored (log 15). -/
def conditionFlags (flags : Byte) : BitVec 5 := flags.setWidth 5

/-- Step 2 of R105. -/
def noteReported (p : PrinterId) (entries : List OutcomeEntry) (s : State) : State :=
  if entries.isEmpty then s
  else modLineRecord p (fun r => { r with reported := entries.map (·.token) }) s

/-- Step 5 of R105. -/
def answerClear (p : PrinterId) (command : CommandKind) (s : State) : State :=
  if command = .clear then modLineRecord p (fun r => { r with clearRequest := false }) s else s

/-- A good STATUS (R105): outcomes, reported tokens, flags and mark, implied cancel, clear request, recovery (R129). -/
def takeStatus (p : PrinterId) (command : CommandKind) (flags : Byte) (waiting : Nat) (entries : List OutcomeEntry)
    (s : State) : State :=
  let order := s.printers[p].outstanding
  let f := conditionFlags flags
  let reported := s.lineRecords[p].reported
  let s := forEach entries (handleEntry order p f reported) s
  let s := noteReported p entries s
  let s := judgeNotReady order p f (judgeConditionFlags order p f s)
  let s := impliedCancel order p waiting s
  judgeRecovery order p f (answerClear p command s)

/-- A good reply sets the failure count to 0 and is acted on (R97, R101). -/
def takeGoodReply (x : Exchange) (reply : Reply) (s : State) : State :=
  let p := x.printer
  let s := modLineRecord p (fun r => { r with failures := 0 }) s
  match reply with
  | .status flags waiting entries => takeStatus p x.command flags waiting.toNat entries s
  | .accept token => takeAccept p token s
  | .refuse token reason => takeRefuse p token reason s
  | .serial _ _ | .retry => s

/-! ### Ends of an exchange -/

/-- A received frame is a good reply of the exchange (R97). -/
def goodReply (x : Exchange) (address : Byte) (reply : Reply) : Bool :=
  address == addressByte (addressIx x.printer) && replyExpected x.command reply && replyInRange reply

/-- The exchange ends with an effect, which a printer made UNCONFIGURED meanwhile forgoes (R93). -/
def endExchange (l : LineId) (x : Exchange) (effect : State → State) (s : State) : State :=
  freeLine l (if x.void then s else effect s)

/-- A frame received on a line: the reply of the exchange awaiting one, the answer of the slot in progress, or discarded
without effect (R95, R97, R111). -/
def receiveReply (l : LineId) (address : Byte) (reply : Reply) (s : State) : State :=
  match s.lines[l].activity with
  | .awaiting x =>
    endExchange l x (if goodReply x address reply then takeGoodReply x reply else exchangeFailed x) s
  | .slot a _ => takeAnswer l a address reply s
  | .free | .sending _ | .recalling _ => s

/-- A frame that ends the exchange or slot with no reply: expiry, a gap, or a discarded frame (R95, R97, R111). -/
def receiveNothing (l : LineId) (s : State) : State :=
  match s.lines[l].activity with
  | .awaiting x => endExchange l x (exchangeFailed x) s
  | .slot _ _ => endSlot l s
  | .free | .sending _ | .recalling _ => s

/-- Bytes received on a line in a reply window or slot: with no lead byte among them they are ignored (R95), and a frame
whose payload does not fit its kind is a bad reply like one discarded (R97, R111, R179). -/
def receiveRaw (l : LineId) (bytes : List Byte) (s : State) : State :=
  match receiveBytes bytes with
  | .nothing => s
  | .discarded => receiveNothing l s
  | .frame address kind payload =>
    match parseReply kind payload with
    | some reply => receiveReply l address reply s
    | none => receiveNothing l s

/-- An exchange on the line awaits its reply. -/
def awaitsReply (s : State) (l : LineId) : Bool :=
  match s.lines[l].activity with
  | .awaiting _ => true
  | _ => false

/-- A roll-call slot is in progress on the line. -/
def inSlot (s : State) (l : LineId) : Bool :=
  match s.lines[l].activity with
  | .slot _ _ => true
  | _ => false

/-- The end of a frame sent: the driver enable is released, and the reply timer of the exchange or the first slot of the
round starts (R96, R97, R111). -/
def commandFrameEnd (l : LineId) (s : State) : State :=
  match s.lines[l].activity with
  | .sending x => modLine l (fun y => { y with activity := .awaiting x, replyTimer := some x.window }) s
  | .recalling slots => nextSlot l slots s
  | .free | .awaiting _ | .slot _ _ => s

/-! ### The commands -/

/-- LINE_TURN (R99, R100). -/
def execLineTurn (l : LineId) (s : State) : Host.Outcome State Fault Refusal := whenLive s (lineTurn l)

/-- COMMAND_FRAME_END (R96, R97, R111). -/
def execCommandFrameEnd (l : LineId) (s : State) : Host.Outcome State Fault Refusal := whenLive s (commandFrameEnd l)

/-- REPLY_WINDOW_EXPIRY: the timer of an exchange reaches W with no lead byte (R97). -/
def execReplyWindowExpiry (l : LineId) (s : State) : Host.Outcome State Fault Refusal :=
  whenLive s fun s => if awaitsReply s l then receiveNothing l s else s

/-- CHARACTER_GAP_TIMEOUT: the frame being received is discarded (R95). -/
def execCharacterGapTimeout (l : LineId) (s : State) : Host.Outcome State Fault Refusal :=
  whenLive s (receiveNothing l)

/-- BAD_REPLY: bytes received in a reply window (R95, R97). -/
def execBadReply (l : LineId) (bytes : List Byte) (s : State) : Host.Outcome State Fault Refusal :=
  whenLive s fun s => if awaitsReply s l then receiveRaw l bytes s else s

/-- FRAME_DISCARDED: bytes outside every reply window and slot have no effect (R95). -/
def execFrameDiscarded (_l : LineId) (_bytes : List Byte) (s : State) : Host.Outcome State Fault Refusal := goOn s

/-- STATUS (R97, R105). -/
def execStatus (l : LineId) (address flags waiting : Byte) (entries : List OutcomeEntry) (s : State) :
    Host.Outcome State Fault Refusal :=
  whenLive s (receiveReply l address (.status flags waiting entries))

/-- ACCEPT (R97, R103). -/
def execAccept (l : LineId) (address token : Byte) (s : State) : Host.Outcome State Fault Refusal :=
  whenLive s (receiveReply l address (.accept token))

/-- REFUSE (R97, R104). -/
def execRefuse (l : LineId) (address token reason : Byte) (s : State) : Host.Outcome State Fault Refusal :=
  whenLive s (receiveReply l address (.refuse token reason))

/-- SERIAL (R111, R112). -/
def execSerial (l : LineId) (address : Byte) (serial : Word) (kind : Byte) (s : State) :
    Host.Outcome State Fault Refusal :=
  whenLive s (receiveReply l address (.serial serial kind))

/-- RETRY (R111). -/
def execRetry (l : LineId) (address : Byte) (s : State) : Host.Outcome State Fault Refusal :=
  whenLive s (receiveReply l address .retry)

/-- SLOT_EXPIRY: the timer of a slot reaches W with no lead byte (R111). -/
def execSlotExpiry (l : LineId) (s : State) : Host.Outcome State Fault Refusal :=
  whenLive s fun s => if inSlot s l then endSlot l s else s

/-- BAD_ANSWER: bytes received in a roll-call slot (R95, R111). -/
def execBadAnswer (l : LineId) (bytes : List Byte) (s : State) : Host.Outcome State Fault Refusal :=
  whenLive s fun s => if inSlot s l then receiveRaw l bytes s else s

end Sys2Proof.Machine
end

