-- ==== Sys2Proof/Machine/SlipJobs.lean ====
section
/-! DEFINITION. The slips that make or withdraw jobs: ISSUE (R35 to R38), TEST PRINT (R132), VOID (R51, R52); and a slip of
no known kind (R7, R178). -/

namespace Sys2Proof.Machine

/-- A slip refused for a field, the detail naming its offset in the request area (Table 11-7). -/
def refuseField (n : SlipId) (tag : Word) (offset : Nat) (area : List Byte) : State → State :=
  addReturn n tag .badField (detailOf offset) area

/-! ### ISSUE -/

/-- The service class after the route's forcing (R38). -/
def forcedService (f : Forcing) (asked : ServiceClass) : ServiceClass :=
  match f with
  | .byOrder => asked
  | .alwaysStandard => .standard
  | .alwaysExpress => .express

/-- The window's bit in a route entry's mask. -/
def inWindowMask (r : RouteEntry) (w : WindowId) : Bool := r.mask.getLsbD w.val

/-- The discount was clamped (R36). -/
def discountClamped (r : IssueRequest) : Bool := 10000 < r.discount.toNat

/-- Tests 2 to 4 of R35: the result and reason of the first that fails. -/
def issueRefusal (s : State) (w : WindowId) (c : ClassId) : Option (ResultCode × Nat) :=
  if !s.windows[w].enabled then some (.windowClosed, 0)
  else if !s.routes[c].valid then some (.routeRefused, 1)
  else if !inWindowMask s.routes[c] w then some (.routeRefused, 2)
  else if s.windows[w].quota ≤ jobCount s w then some (.windowFull, 0)
  else none

/-- The fare P of an order under the office settings in force (R54). -/
def fareOf (o : OfficeSettings) (r : IssueRequest) : Nat :=
  passengerFare r.baseFare.toNat (clampDiscount r.discount.toNat) r.minimumFare o.roundingStep o.minimumFare

/-- The job an accepted ISSUE makes (R38). -/
def issuedJob (s : State) (n : SlipId) (tag : Word) (r : IssueRequest) (w : WindowId) (c : ClassId) (v : ServiceClass)
    (x : Tender) : Job :=
  { slip := n, tag := tag, window := some w, sale := r.sale, lastInSale := r.lastInSale, ticketClass := c,
    kind := s.routes[c].kind, service := forcedService s.routes[c].forcing v, tender := some x,
    quantity := r.quantity.toNat, fare := fareOf s.settings r,
    amount := ticketAmount (fareOf s.settings r) r.quantity.toNat, clamped := discountClamped r,
    face := r.face.take r.faceLength.toNat, shift := s.current[w].shift, state := .queued, target := .home,
    aged := false, printer := none, serial := none, reprints := 0, outcomeWait := false }

/-- The acceptance (R37, R38): a record from the stack, the open-job count, and the tail of the window's queue. -/
def acceptJob (w : WindowId) (j : Job) (s : State) : State :=
  match s.freeStack with
  | i :: rest => joinTail w i (modCurrent w (fun t => { t with openJobs := t.openJobs + 1 }) (takeRecord i rest j s))
  | [] => s

/-- An ISSUE handed on (R35). -/
def issueWork (tag : Word) (r : IssueRequest) (n : SlipId) (s : State) : State :=
  match issueBad r with
  | some offset => refuseField n tag offset [] s
  | none =>
    match windowOf r.window, classOf r.ticketClass, serviceOf r.service, tenderOf r.tender with
    | some w, some c, some v, some x =>
      match issueRefusal s w c with
      | some (code, reason) => addReturn n tag code (detailOf reason ||| clampedBit (discountClamped r)) [] s
      | none => acceptJob w (issuedJob s n tag r w c v x) s
    | _, _, _, _ => s

/-- ISSUE (R8, R35 to R38). -/
def execIssue (tag : Word) (request : IssueRequest) (s : State) : Host.Outcome State Fault Refusal :=
  handOnForRecord (issueWork tag request) s

/-! ### TEST PRINT -/

/-- Test 2 of R132. -/
def testPrintForbidden (s : State) (p : PrinterId) : Bool :=
  let m := s.magazines[p]
  s.printers[p].state != .ready || !m.loaded || m.frozen

/-- Test 3 of R132. -/
def testPrintBusy (s : State) (p : PrinterId) : Bool :=
  let x := s.printers[p]
  let m := s.magazines[p]
  2 ≤ x.outstanding.length || x.hold.isSome || isSelected s p || remaining m ≤ transmitted m + reserved s p

/-- The job of a TEST PRINT (R132); fields a test print has no use for are at their first values (log 26). -/
def testJob (s : State) (n : SlipId) (tag : Word) (r : TestPrintRequest) (p : PrinterId) : Job :=
  { slip := n, tag := tag, window := none, sale := 0#16, lastInSale := false, ticketClass := 0,
    kind := s.magazines[p].kind, service := .standard, tender := none, quantity := 0, fare := 0, amount := 0,
    clamped := false, face := r.face.take r.faceLength.toNat, shift := 0, state := .granted, target := .home,
    aged := false, printer := none, serial := none, reprints := 0, outcomeWait := false }

/-- The acceptance of a TEST PRINT (R132, R37, R40). -/
def acceptTest (p : PrinterId) (j : Job) (s : State) : State :=
  match s.freeStack with
  | i :: rest => joinPrinter p i (takeRecord i rest j s)
  | [] => s

/-- A TEST PRINT handed on (R132). -/
def testPrintWork (tag : Word) (r : TestPrintRequest) (n : SlipId) (s : State) : State :=
  match testPrintBad r, printerOf r.printer with
  | some offset, _ => refuseField n tag offset [] s
  | none, none => s
  | none, some p =>
    if testPrintForbidden s p then addReturn n tag .notAllowed 0#32 [] s
    else if testPrintBusy s p then addReturn n tag .busy 0#32 [] s
    else acceptTest p (testJob s n tag r p) s

/-- TEST_PRINT (R8, R132). -/
def execTestPrint (tag : Word) (request : TestPrintRequest) (s : State) : Host.Outcome State Fault Refusal :=
  handOnForRecord (testPrintWork tag request) s

/-! ### Withdrawal and VOID -/

/-- The unsent jobs of a window that a test picks, in the order of R52: the queue from its front backwards, then granted
jobs by printer and list order. -/
def unsentJobs (s : State) (w : WindowId) (pick : Job → Bool) : List JobIx :=
  (s.queues[w].filter fun i => jobIs s i pick)
    ++ (every 16).flatMap fun p =>
      s.printers[p].outstanding.filter fun i => isGranted s i && jobIs s i fun j => j.window == some w && pick j

/-- Withdrawal of the unsent jobs of a window that a test picks (R51). -/
def withdrawUnsent (w : WindowId) (pick : Job → Bool) (s : State) : State :=
  finishJobs .withdrawn 0 (unsentJobs s w pick) s

/-- The jobs of a window that a test picks in SENDING or SENT (R52). -/
def printingJobs (s : State) (w : WindowId) (pick : Job → Bool) : List JobIx :=
  (every 64).filter fun i => inFlight s i && jobIs s i fun j => j.window == some w && pick j

/-- A VOID handed on (R52). -/
def voidWork (tag : Word) (window : Byte) (sale : BitVec 16) (n : SlipId) (s : State) : State :=
  match windowOf window with
  | none => refuseField n tag 0 [] s
  | some w =>
    let ofSale (j : Job) : Bool := j.sale == sale
    addReturn n tag .done 0#32
      [byte (unsentJobs s w ofSale).length, byte (printingJobs s w ofSale).length] (withdrawUnsent w ofSale s)

/-- VOID (R51 to R53). -/
def execVoid (tag : Word) (window : Byte) (sale : BitVec 16) (s : State) : Host.Outcome State Fault Refusal :=
  handOn (voidWork tag window sale) s

/-! ### A slip of no known kind -/

/-- BAD_KIND: returned at once with the kind byte in the detail and a result area of zeros (R7, R178). -/
def execBadKind (tag : Word) (kind : Byte) (s : State) : Host.Outcome State Fault Refusal :=
  if knownKind kind then goOn s else handOn (fun n => addReturn n tag .badKind (detailOf kind.toNat) []) s

end Sys2Proof.Machine
end

