-- ==== Sys2Proof/Machine/SlipCash.lean ====
section
/-! DEFINITION. The slips of the Tally Store and the Cash-Up Unit: REFUND (R67), READ TALLY (R68), CASH-UP (R156 to R158)
and END OF DAY (R166). -/

namespace Sys2Proof.Machine

/-! ### REFUND and READ TALLY -/

/-- The REFUND result area (R67, Table 11-16). -/
def refundArea (t : Tally) (x : Tender) (r : RefundRequest) : List Byte :=
  le 2 t.shift ++ [tenderByte x, flagByte t.saturated] ++ le 4 (columnsOf t x).refunds
    ++ le 2 (columnsOf t x).refundCount ++ [r.kind, 0#8] ++ le 4 r.serial.toNat

/-- A REFUND handed on (R67). -/
def refundWork (tag : Word) (r : RefundRequest) (n : SlipId) (s : State) : State :=
  match refundBad r, windowOf r.window, tenderOf r.tender with
  | some offset, _, _ => refuseField n tag offset [] s
  | none, some w, some x =>
    let t := modCurrent w (addRefund x r.value.toNat) s
    addReturn n tag .done 0#32 (refundArea t.current[w] x r) t
  | none, _, _ => s

/-- REFUND (R67). -/
def execRefund (tag : Word) (request : RefundRequest) (s : State) : Host.Outcome State Fault Refusal :=
  handOn (refundWork tag request) s

/-- The READ TALLY result area (R68, Table 11-16). -/
def readTallyArea (s : State) (w : WindowId) : List Byte :=
  let t := s.current[w]
  tallyBytes t t.openJobs
    ++ match s.closing[w] with
      | some c => [1#8, 0#8] ++ le 2 c.shift ++ [byte c.openJobs]
      | none => []

/-- A READ TALLY handed on (R68). -/
def readTallyWork (tag : Word) (window : Byte) (n : SlipId) (s : State) : State :=
  match windowOf window with
  | none => refuseField n tag 0 [] s
  | some w => addReturn n tag .done 0#32 (readTallyArea s w) s

/-- READ_TALLY (R68). -/
def execReadTally (tag : Word) (window : Byte) (s : State) : Host.Outcome State Fault Refusal :=
  handOn (readTallyWork tag window) s

/-! ### CASH-UP -/

/-- Step 2 of R158: the CLOSING tally's open-job count is the window's job count. -/
def countClosing (w : WindowId) (s : State) : State :=
  { s with closing := upd s.closing w fun c => c.map fun t => { t with openJobs := jobCount s w } }

/-- Step 4 of R158: pending while the CLOSING count is above 0, otherwise the statement at once. -/
def awaitStatement (w : WindowId) (c : PendingCashUp) (s : State) : State :=
  match s.closing[w] with
  | some t => if 0 < t.openJobs then { s with cashUps := put s.cashUps w (some c) } else produceStatement w c s
  | none => s

/-- A CASH-UP that closes the CURRENT shift (R158). -/
def closeShift (w : WindowId) (withdraw : Bool) (c : PendingCashUp) (s : State) : State :=
  let shift := s.current[w].shift
  let t := countClosing w (shiftOpen w s)
  let t := if withdraw then withdrawUnsent w (fun j => j.shift == shift) t else t
  awaitStatement w c t

/-- A CASH-UP handed on (R156, R157). -/
def cashUpWork (tag : Word) (r : CashUpRequest) (n : SlipId) (s : State) : State :=
  match cashUpBad r, windowOf r.window, yesNo r.withdrawUnsent with
  | some offset, _, _ => refuseField n tag offset [] s
  | none, some w, some withdraw =>
    let c : PendingCashUp := { slip := n, tag := tag, declaredCash := r.declaredCash.toNat,
                               declaredWarrants := r.declaredWarrants.toNat }
    match s.closing[w] with
    | some t =>
      if 0 < t.openJobs then addReturn n tag .busy (detailOf (t.shift + 65536 * t.openJobs)) [] s
      else produceStatement w c s
    | none => closeShift w withdraw c s
  | none, _, _ => s

/-- CASH_UP (R156 to R158). -/
def execCashUp (tag : Word) (request : CashUpRequest) (s : State) : Host.Outcome State Fault Refusal :=
  handOn (cashUpWork tag request) s

/-! ### END OF DAY -/

/-- The day number after one: it skips 0 (R166). -/
def nextDay (day : Nat) : Nat := if day = 65535 then 1 else day + 1

/-- The lowest window with a CLOSING tally. -/
def lowestClosing (s : State) : Option WindowId := firstWhere (every 24) fun w => s.closing[w].isSome

/-- END OF DAY taken (R166): the return, the Day Totals, the day number, the clock, the discharge. -/
def closeDay (tag : Word) (n : SlipId) (s : State) : State :=
  let kept := (s.register.entries.filter (isProtected s)).length
  let t := addReturn n tag .done 0#32 (dayBytes s.dayTotals (s.register.entries.length - kept) kept) s
  let t := modDayTotals (fun d => .cleared (nextDay d.day)) t
  dischargeRegister (modTime (fun x => { x with divider := 0 }) (modSettings (fun x => { x with clock := 0#32 }) t))

/-- An END OF DAY handed on (R166). -/
def endOfDayWork (tag : Word) (n : SlipId) (s : State) : State :=
  match lowestClosing s with
  | some w => addReturn n tag .busy (detailOf w.val) [] s
  | none => closeDay tag n s

/-- END_OF_DAY (R166). -/
def execEndOfDay (tag : Word) (s : State) : Host.Outcome State Fault Refusal := handOn (endOfDayWork tag) s

end Sys2Proof.Machine
end

