-- ==== Sys2Proof/Machine/SlipStock.lean ====
section
/-! DEFINITION. The slips of the Stock Unit and of the printers' service: LOAD STOCK (R147), UNLOAD STOCK (R148), READ
SPOILS (R153), SET STOCK KIND (R151), ROLL CALL (R114) and PRINTER SERVICE (R118 to R120). -/

namespace Sys2Proof.Machine

/-! ### LOAD STOCK and UNLOAD STOCK -/

/-- NOT_ALLOWED reasons (Table 11-7). -/
def reasonState : Nat := 1
/-- OVERLAP. -/
def reasonOverlap : Nat := 2
/-- NOT_LOADED. -/
def reasonNotLoaded : Nat := 3

/-- The printer may be loaded or unloaded: OFFLINE or EMPTY with no job outstanding (R147, R148). -/
def stockOpen (s : State) (p : PrinterId) : Bool :=
  (s.printers[p].state == .offline || s.printers[p].state == .empty) && s.printers[p].outstanding.isEmpty

/-- Another printer's loaded magazine of the kind shares a serial with the range (R147 test 3). -/
def overlapsLoaded (s : State) (p : PrinterId) (k : KindId) (first last : Nat) : Bool :=
  (every 16).any fun q =>
    let m := s.magazines[q]
    q != p && m.loaded && m.kind == k && m.first ≤ last && first ≤ m.last

/-- The magazine record of a new load (R147 step 2). -/
def loadedMagazine (k : KindId) (first count : Nat) : Magazine :=
  { Magazine.unloaded with loaded := true, kind := k, first := first, last := first + count - 1, next := first }

/-- Step 3 of R147: an EMPTY printer enters RECOVERING and is named in a roll-call request. -/
def checkLoad (p : PrinterId) (s : State) : State :=
  if s.printers[p].state = .empty then
    rollRequest (lineOfPrinter p) (addressBit (addressIx p)) (enterState [] p .recovering s)
  else s

/-- A magazine record is replaced outside any job, and the totals of the kinds concerned are recomputed (R147 to R149). -/
def replaceMagazine (p : PrinterId) (m : Magazine) (s : State) : State :=
  let old := s.magazines[p]
  let t := setMagazine p m s
  let t := if old.loaded then recomputeKind old.kind t else t
  if m.loaded then recomputeKind m.kind t else t

/-- A LOAD STOCK taken (R147). -/
def loadStock (tag : Word) (n : SlipId) (p : PrinterId) (m : Magazine) (s : State) : State :=
  addReturn n tag .done 0#32 (loadBytes m s.magazines[p]) (checkLoad p (replaceMagazine p m s))

/-- A LOAD STOCK handed on (R147). -/
def loadStockWork (tag : Word) (r : LoadStockRequest) (n : SlipId) (s : State) : State :=
  match loadStockBad r, printerOf r.printer, kindOf r.kind with
  | some offset, _, _ => refuseField n tag offset [] s
  | none, some p, some k =>
    let m := loadedMagazine k r.first.toNat r.count.toNat
    if !stockOpen s p then addReturn n tag .notAllowed (detailOf reasonState) [] s
    else if overlapsLoaded s p k m.first m.last then addReturn n tag .notAllowed (detailOf reasonOverlap) [] s
    else loadStock tag n p m s
  | none, _, _ => s

/-- LOAD_STOCK (R147). -/
def execLoadStock (tag : Word) (request : LoadStockRequest) (s : State) : Host.Outcome State Fault Refusal :=
  handOn (loadStockWork tag request) s

/-- An UNLOAD STOCK handed on (R148). -/
def unloadStockWork (tag : Word) (printer : Byte) (n : SlipId) (s : State) : State :=
  match printerOf printer with
  | none => refuseField n tag 0 [] s
  | some p =>
    if !stockOpen s p then addReturn n tag .notAllowed (detailOf reasonState) [] s
    else if !s.magazines[p].loaded then addReturn n tag .notAllowed (detailOf reasonNotLoaded) [] s
    else addReturn n tag .done 0#32 (unloadBytes s.magazines[p]) (replaceMagazine p .unloaded s)

/-- UNLOAD_STOCK (R148). -/
def execUnloadStock (tag : Word) (printer : Byte) (s : State) : Host.Outcome State Fault Refusal :=
  handOn (unloadStockWork tag printer) s

/-! ### READ SPOILS -/

/-- A READ SPOILS handed on (R153). -/
def readSpoilsWork (tag : Word) (index : BitVec 16) (n : SlipId) (s : State) : State :=
  if 255 < index.toNat then refuseField n tag 0 [] s
  else addReturn n tag .done 0#32 (readSpoilsBytes s.register index.toNat) s

/-- READ_SPOILS (R153). -/
def execReadSpoils (tag : Word) (index : BitVec 16) (s : State) : Host.Outcome State Fault Refusal :=
  handOn (readSpoilsWork tag index) s

/-! ### SET STOCK KIND -/

/-- A SET STOCK KIND taken: the fields, the flags judged, the mark (R150, R151). -/
def writeStockKind (k : KindId) (lowMark band : Nat) (s : State) : State :=
  judgeFlags k (markStock k false (modKind k (fun x => { x with lowMark := lowMark, band := band }) s))

/-- The SET STOCK KIND result area: the record in force, where the kind names one (Table 11-16; log 12). -/
def stockKindArea (s : State) (kind : Byte) : List Byte :=
  match kindOf kind with
  | some k => stockEntryBytes s k
  | none => []

/-- A SET STOCK KIND handed on (R151). -/
def setStockKindWork (tag : Word) (kind : Byte) (lowMark band : BitVec 16) (n : SlipId) (s : State) : State :=
  match setStockKindBad kind lowMark band, kindOf kind with
  | some offset, _ => refuseField n tag offset (stockKindArea s kind) s
  | none, some k =>
    let t := writeStockKind k lowMark.toNat band.toNat s
    addReturn n tag .done 0#32 (stockEntryBytes t k) t
  | none, none => s

/-- SET_STOCK_KIND (R151). -/
def execSetStockKind (tag : Word) (kind : Byte) (lowMark band : BitVec 16) (s : State) :
    Host.Outcome State Fault Refusal :=
  handOn (setStockKindWork tag kind lowMark band) s

/-! ### ROLL CALL -/

/-- A selected printer is UNCONFIGURED, OFFLINE or FAULTED (R114 test 2). -/
def rollCallForbidden (s : State) (l : LineId) (mask : BitVec 8) : Bool :=
  (every 8).any fun a => inMask mask a &&
    match s.printers[printerAt l a].state with
    | .unconfigured | .offline | .faulted => true
    | .recovering | .ready | .empty => false

/-- The line's roll call is running, or the line holds a ROLL CALL slip (R114 test 3). -/
def rollCallBusy (s : State) (l : LineId) : Bool :=
  s.lines[l].rollSlip.isSome ||
    match s.lines[l].roll.phase with
    | .round | .between => true
    | .none | .waiting => false

/-- A ROLL CALL slip is held and its printers are requested (R109, R114). -/
def holdRollSlip (n : SlipId) (tag : Word) (l : LineId) (mask : BitVec 8) (s : State) : State :=
  rollRequest l mask (modLine l (fun x => { x with
    rollSlip := some { slip := n, tag := tag, mask := mask, results := Vector.replicate 8 none } }) s)

/-- A ROLL CALL handed on (R114). -/
def rollCallWork (tag : Word) (line mask : Byte) (n : SlipId) (s : State) : State :=
  match rollCallBad line mask, lineOf line with
  | some offset, _ => refuseField n tag offset [] s
  | none, some l =>
    if rollCallForbidden s l mask then addReturn n tag .notAllowed 0#32 [] s
    else if rollCallBusy s l then addReturn n tag .busy 0#32 [] s
    else holdRollSlip n tag l mask s
  | none, none => s

/-- ROLL_CALL (R114). -/
def execRollCall (tag : Word) (line mask : Byte) (s : State) : Host.Outcome State Fault Refusal :=
  handOn (rollCallWork tag line mask) s

/-! ### PRINTER SERVICE -/

/-- ENTER taken in OFFLINE (R118). -/
def enterService (p : PrinterId) (s : State) : State :=
  rollRequest (lineOfPrinter p) (addressBit (addressIx p)) (enterState [] p .recovering s)

/-- LEAVE taken with no job outstanding (R119). -/
def leaveService (p : PrinterId) (s : State) : State :=
  let wasFaulted := s.printers[p].state == .faulted
  let t := leaveSelection p (enterState [] p .offline s)
  let t := modLineRecord p (fun r => { r with clearRequest := false })
    (modPrinter p (fun x => { x with notReady := none }) t)
  if wasFaulted then markPrinter p true (modPrinter p (fun x => { x with fault := .clear }) t) else t

/-- ACKNOWLEDGE taken in FAULTED (R120). -/
def acknowledgeFault (p : PrinterId) (s : State) : State :=
  if s.printers[p].fault.state = .opened then
    markPrinter p true (modPrinter p (fun x => { x with fault := { x.fault with state := .acknowledged } }) s)
  else s

/-- The result of an action in the printer's state, and what it does (R118, R119). -/
def serviceAction (p : PrinterId) (action : Byte) (s : State) : ResultCode × State :=
  let x := s.printers[p]
  if action = 1#8 then
    if x.state = .offline then (.done, enterService p s) else (.notAllowed, s)
  else if action = 2#8 then
    match x.state with
    | .ready | .empty | .faulted => if x.outstanding.isEmpty then (.done, leaveService p s) else (.busy, s)
    | .unconfigured | .offline | .recovering => (.notAllowed, s)
  else
    if x.state = .faulted then (.done, acknowledgeFault p s) else (.notAllowed, s)

/-- A PRINTER SERVICE handed on (R118): its fields, its action, and the printer's entry in the result area. -/
def printerServiceWork (tag : Word) (printer action : Byte) (n : SlipId) (s : State) : State :=
  match printerOf printer with
  | none => refuseField n tag 0 [] s
  | some p =>
    if action = 1#8 ∨ action = 2#8 ∨ action = 3#8 then
      let done := serviceAction p action s
      addReturn n tag done.1 0#32 (printerEntryBytes done.2 p) done.2
    else refuseField n tag 1 (printerEntryBytes s p) s

/-- PRINTER_SERVICE_ENTER (R118). -/
def execPrinterServiceEnter (tag : Word) (printer : Byte) (s : State) : Host.Outcome State Fault Refusal :=
  handOn (printerServiceWork tag printer 1#8) s

/-- PRINTER_SERVICE_LEAVE (R119). -/
def execPrinterServiceLeave (tag : Word) (printer : Byte) (s : State) : Host.Outcome State Fault Refusal :=
  handOn (printerServiceWork tag printer 2#8) s

/-- PRINTER_SERVICE_ACKNOWLEDGE (R120), and the refusal of an unknown action (R118; log 11). -/
def execPrinterServiceAcknowledge (tag : Word) (printer action : Byte) (s : State) :
    Host.Outcome State Fault Refusal :=
  handOn (printerServiceWork tag printer action) s

end Sys2Proof.Machine
end

