-- ==== Sys2Proof/Machine/SlipConfig.lean ====
section
/-! DEFINITION. The slips that write configuration: SET OFFICE (R30), SET WINDOW (R33, R90), SET ROUTE (R70), SET PRINTER
(R93) and SET LINE (R91, R92). Refused or taken, each reports the record in force of the object it names (log 12). -/

namespace Sys2Proof.Machine

/-! ### SET OFFICE -/

/-- All seven settings written as one event (R30). -/
def writeOffice (r : OfficeRequest) : State → State :=
  modSettings fun o => { o with
    roundingStep := r.roundingStep.toNat, minimumFare := r.minimumFare.toNat, tolerance := r.tolerance.toNat,
    sweepPeriod := r.sweepPeriod.toNat, interval := r.interval.toNat, reprintLimit := r.reprintLimit.toNat,
    spoilRunLimit := r.spoilRunLimit.toNat }

/-- A SET OFFICE handed on (R30). -/
def setOfficeWork (tag : Word) (r : OfficeRequest) (n : SlipId) (s : State) : State :=
  match officeBad r with
  | some offset => refuseField n tag offset (settingsBytes s.settings) s
  | none =>
    let t := writeOffice r s
    addReturn n tag .done 0#32 (settingsBytes t.settings) t

/-- SET_OFFICE (R30, R31). -/
def execSetOffice (tag : Word) (request : OfficeRequest) (s : State) : Host.Outcome State Fault Refusal :=
  handOn (setOfficeWork tag request) s

/-! ### SET WINDOW -/

/-- The record a SET WINDOW in range writes (R33). -/
def windowRecordOf (r : WindowRequest) : Option WindowRecord :=
  match yesNo r.enabled, groupOf r.homeGroup, alternateOf r.alternateGroup, policyOf r.holdPolicy with
  | some enabled, some home, some alternate, some policy =>
    some { enabled := enabled, homeGroup := home, alternateGroup := alternate, holdPolicy := policy,
           allowance := r.allowance.toNat, weight := r.weight.toNat, quota := r.quota.toNat, float := r.float.toNat }
  | _, _, _, _ => none

/-- The record is written; a disabled window's hold is released after it is in force (R33, R90). -/
def writeWindow (w : WindowId) (r : WindowRecord) (s : State) : State :=
  let t := modWindow w (fun _ => r) s
  if r.enabled then t else forEach ((every 16).filter (holds t w)) releaseHold t

/-- The SET WINDOW result area. -/
def windowArea (s : State) (window : Byte) : List Byte :=
  match windowOf window with
  | some w => windowRecordBytes w s.windows[w]
  | none => []

/-- A SET WINDOW handed on (R33). -/
def setWindowWork (tag : Word) (r : WindowRequest) (n : SlipId) (s : State) : State :=
  match windowBad r, windowOf r.window, windowRecordOf r with
  | some offset, _, _ => refuseField n tag offset (windowArea s r.window) s
  | none, some w, some x =>
    let t := writeWindow w x s
    addReturn n tag .done 0#32 (windowRecordBytes w t.windows[w]) t
  | none, _, _ => s

/-- SET_WINDOW (R33, R34, R90). -/
def execSetWindow (tag : Word) (request : WindowRequest) (s : State) : Host.Outcome State Fault Refusal :=
  handOn (setWindowWork tag request) s

/-! ### SET ROUTE -/

/-- The entry a SET ROUTE in range writes (R70). -/
def routeEntryOf (r : RouteRequest) : Option RouteEntry :=
  match yesNo r.valid, kindOf r.kind, yesNo r.fallback, forcingOf r.forcing with
  | some valid, some kind, some fallback, some forcing =>
    some { valid := valid, kind := kind, fallback := fallback, mask := r.windowMask.setWidth 24, forcing := forcing }
  | _, _, _, _ => none

/-- The SET ROUTE result area. -/
def routeArea (s : State) (ticketClass : Byte) : List Byte :=
  match classOf ticketClass with
  | some c => routeEntryBytes c s.routes[c]
  | none => []

/-- A SET ROUTE handed on (R70). -/
def setRouteWork (tag : Word) (r : RouteRequest) (n : SlipId) (s : State) : State :=
  match routeBad r, classOf r.ticketClass, routeEntryOf r with
  | some offset, _, _ => refuseField n tag offset (routeArea s r.ticketClass) s
  | none, some c, some x =>
    let t := modRoute c (fun _ => x) s
    addReturn n tag .done 0#32 (routeEntryBytes c t.routes[c]) t
  | none, _, _ => s

/-- SET_ROUTE (R70, R71). -/
def execSetRoute (tag : Word) (request : RouteRequest) (s : State) : Host.Outcome State Fault Refusal :=
  handOn (setRouteWork tag request) s

/-! ### SET PRINTER -/

/-- The exchange with a printer in progress on its line will end without effect (R93). -/
def voidExchange (p : PrinterId) : State → State :=
  modLine (lineOfPrinter p) fun x => { x with activity :=
    match x.activity with
    | .sending y => if y.printer = p then .sending { y with void := true } else .sending y
    | .awaiting y => if y.printer = p then .awaiting { y with void := true } else .awaiting y
    | .free => .free
    | .recalling m => .recalling m
    | .slot a m => .slot a m }

/-- The printer changes between OFFLINE and UNCONFIGURED, its line record taking the start values (R93, R98). -/
def changeConfigured (p : PrinterId) (new : PrinterState) (s : State) : State :=
  modLineRecord p (fun _ => .start) (enterState [] p new s)

/-- The configuration is written and the state follows the configured field (R93). -/
def writePrinter (p : PrinterId) (configured : Bool) (group : GroupId) (s : State) : State :=
  let t := modPrinter p (fun x => { x with configured := configured, group := group }) s
  match s.printers[p].state, configured with
  | .unconfigured, true => changeConfigured p .offline t
  | .offline, false => voidExchange p (leaveSelection p (changeConfigured p .unconfigured t))
  | _, _ => t

/-- The printer is OFFLINE or UNCONFIGURED (R91, R93). -/
def outOfService (s : State) (p : PrinterId) : Bool :=
  s.printers[p].state == .offline || s.printers[p].state == .unconfigured

/-- The SET PRINTER result area. -/
def printerArea (s : State) (printer : Byte) : List Byte :=
  match printerOf printer with
  | some p => printerConfigBytes p s.printers[p]
  | none => []

/-- A SET PRINTER handed on (R93). -/
def setPrinterWork (tag : Word) (printer configured group : Byte) (n : SlipId) (s : State) : State :=
  match setPrinterBad printer configured group, printerOf printer, yesNo configured, groupOf group with
  | some offset, _, _, _ => refuseField n tag offset (printerArea s printer) s
  | none, some p, some c, some g =>
    if outOfService s p then
      let t := writePrinter p c g s
      addReturn n tag .done 0#32 (printerConfigBytes p t.printers[p]) t
    else addReturn n tag .notAllowed 0#32 (printerConfigBytes p s.printers[p]) s
  | none, _, _, _ => s

/-- SET_PRINTER (R93). -/
def execSetPrinter (tag : Word) (printer configured group : Byte) (s : State) : Host.Outcome State Fault Refusal :=
  handOn (setPrinterWork tag printer configured group) s

/-! ### SET LINE -/

/-- The printers of a line, by address. -/
def linePrinters (l : LineId) : List PrinterId := (every 8).map (printerAt l)

/-- The configuration is written and every failure count of the line is 0 (R91, R92). -/
def writeLine (l : LineId) (c : LineConfig) (s : State) : State :=
  forEach (linePrinters l) (fun p => modLineRecord p fun r => { r with failures := 0 }) (modLineConfig l (fun _ => c) s)

/-- The SET LINE result area. -/
def lineArea (s : State) (line : Byte) : List Byte :=
  match lineOf line with
  | some l => lineConfigBytes l s.lineConfigs[l]
  | none => []

/-- A SET LINE handed on (R91). -/
def setLineWork (tag : Word) (line rate window limit : Byte) (n : SlipId) (s : State) : State :=
  match setLineBad line rate window limit, lineOf line, rateOf rate with
  | some offset, _, _ => refuseField n tag offset (lineArea s line) s
  | none, some l, some b =>
    if (linePrinters l).all (outOfService s) then
      let t := writeLine l { rate := b, window := window.toNat, retryLimit := limit.toNat } s
      addReturn n tag .done 0#32 (lineConfigBytes l t.lineConfigs[l]) t
    else addReturn n tag .notAllowed 0#32 (lineConfigBytes l s.lineConfigs[l]) s
  | none, _, _ => s

/-- SET_LINE (R91, R92). -/
def execSetLine (tag : Word) (line rate window limit : Byte) (s : State) : Host.Outcome State Fault Refusal :=
  handOn (setLineWork tag line rate window limit) s

end Sys2Proof.Machine
end

