-- ==== Sys2Proof/Machine/TimeBase.lean ====
section
/-! DEFINITION. The Time Base: the office clock (R25), the sweep and its work (R26 to R29, R48 to R50, R88, R125), the
allowance reload (R82), and the office tick that the part takes when no command waits (log 4). -/

namespace Sys2Proof.Machine

/-! ### Aging (R48 to R50) -/

/-- The aging exemption (R49): the window holds a printer whose outstanding list is not empty. -/
def agingExempt (s : State) (w : WindowId) : Bool :=
  (heldPrinter s w).any fun p => !s.printers[p].outstanding.isEmpty

/-- A stale job falls back to the alternate group (R50). -/
def mayFallBack (s : State) (w : WindowId) (j : Job) : Bool :=
  let r := s.routes[j.ticketClass]
  j.target == .home && s.windows[w].alternateGroup.isSome && r.valid && r.fallback

/-- A stale head job: fallback, or the terminal result NO_PRINTER (R50). -/
def handleStale (w : WindowId) (i : JobIx) (j : Job) (s : State) : State :=
  if mayFallBack s w j then modJob i (fun j => { j with target := .alternate, aged := false }) s
  else finishJob i .noPrinter (match j.target with | .home => reasonHome | .alternate => reasonAlternate) s

/-- The examination of a window's head job at a sweep (R48). -/
def ageWindow (w : WindowId) (s : State) : State :=
  match s.queues[w].head? with
  | none => s
  | some i =>
    match jobAt s i with
    | none => s
    | some j =>
      if agingExempt s w then modJob i (fun j => { j with aged := false }) s
      else if j.aged then handleStale w i j s
      else modJob i (fun j => { j with aged := true }) s

/-! ### Missing outcomes (R125) and idle holds (R88) -/

/-- The jobs of a printer in SENDING or SENT whose outcome was already awaited at a sweep. -/
def owedJobs (s : State) (p : PrinterId) : List JobIx := (flightList s p).filter fun i => jobIs s i Job.outcomeWait

/-- The examination of a printer's jobs in flight at a sweep (R125): one fault, for the older grant. -/
def watchOutcomes (p : PrinterId) (s : State) : State :=
  let t := forEach (flightList s p) (fun i => modJob i fun j => { j with outcomeWait := true }) s
  match owedJobs s p with
  | [] => t
  | i :: _ =>
    raiseFault s.printers[p].outstanding p
      { cause := .noOutcome, flags := none, token := some (tokenOf s i), serial := serialOf s i, own := false } t

/-- A hold is idle (R88): no job of the holder is outstanding, and its head job is not eligible for the printer. -/
def holdIdle (s : State) (p : PrinterId) (w : WindowId) : Bool :=
  !(s.printers[p].outstanding.any fun i => jobIs s i fun j => j.window == some w)
    && !((headJob s w).any fun j => eligible s p j)

/-- The judgement of a printer's hold at a sweep (R88). -/
def watchHold (p : PrinterId) (s : State) : State :=
  match s.printers[p].hold with
  | none => s
  | some h =>
    if holdIdle s p h.window then
      if h.idle then releaseHold p s
      else modPrinter p (fun x => { x with hold := some { h with idle := true } }) s
    else modPrinter p (fun x => { x with hold := some { h with idle := false } }) s

/-- The Printer Records' work at a sweep on one printer (R28; log 23). -/
def watchPrinter (p : PrinterId) (s : State) : State := watchHold p (watchOutcomes p s)

/-! ### The sweep (R28, R29) -/

/-- The work of one of the four blocks of R28: 0 Window Queues, 1 Printer Records, 2 Line Controllers, 3 Exchange Port. -/
def blockWork (windows : List WindowId) (printers : List PrinterId) (block : Fin 4) (s : State) : State :=
  match block with
  | 0 => forEach windows ageWindow s
  | 1 => forEach printers watchPrinter s
  | 2 => forEach (every 2) startRound s
  | 3 => markHeader s

/-- The allowance divider advances (R29): at N or above it becomes 0 and the reload is due (log 20). -/
def advanceAllowance (interval : Nat) (t : TimeBase) : TimeBase :=
  if interval ≤ t.allowanceDivider + 1 then { t with allowanceDivider := 0, reloadDue := true }
  else { t with allowanceDivider := t.allowanceDivider + 1 }

/-- A sweep (R26, R28): the sweep counter, the sweep count, the allowance divider, and the four blocks, in the orders given
(log 6). A reload that an earlier sweep brought is made before it (log 20). -/
def sweepEvent (blocks windows printers : List Nat) (s : State) : State :=
  let s := allowanceReload (modTime (fun t => { t with sweepCounter := 0#16 }) s)
  let t := modTime (fun x => advanceAllowance s.settings.interval { x with sweepCount := x.sweepCount + 1#32 }) s
  forEach (completeOrder 4 blocks) (blockWork (completeOrder 24 windows) (completeOrder 16 printers)) t

/-! ### The office clock (R24, R25) -/

/-- The lamp at an advance of the office clock (R24). -/
def lampAtAdvance (office : OfficeState) (lamp : Bool) : Bool :=
  match office with
  | .standby | .running => lamp
  | .hold | .exchangeFault => !lamp

/-- The office clock advances by 1 and the millisecond divider is 0 (R25); while a cold start is in progress the seconds
count from the 0 it leaves (R170; log 8), and are gone with a start that is abandoned (log 41). -/
def clockAdvance (s : State) : State :=
  let t := modTime (fun x => { x with divider := 0 }) { s with lamp := lampAtAdvance s.office s.lamp }
  match t.start with
  | some st =>
    if st.cold then { t with start := some { st with seconds := st.seconds + 1#32 } }
    else modSettings (fun x => { x with clock := x.clock + 1#32 }) t
  | none => modSettings (fun x => { x with clock := x.clock + 1#32 }) t

/-! ### The office tick (R25 to R27) -/

/-- The next counted tick makes a sweep (R26): the carry into P, or the wrap. -/
def sweepDue (counter : BitVec 16) (period : Nat) : Bool :=
  (counter + 1#16).toNat == 0 || (counter + 1#16).toNat == period * 256

/-- The tick's count of milliseconds (R25). -/
def tickClock (s : State) : State :=
  if s.time.divider = 999 then clockAdvance s else modTime (fun t => { t with divider := t.divider + 1 }) s

/-- The tick's count toward the sweep (R26), in RUNNING and EXCHANGE_FAULT; a reload due comes with its sweep (R29). -/
def tickSweep (s : State) : State :=
  if live s && granting s then
    if sweepDue s.time.sweepCounter s.settings.sweepPeriod then
      let n := s.time.sweepCount
      allowanceReload (sweepEvent (Config.sweepBlocks n) (Config.sweepWindows n) (Config.sweepPrinters n) s)
    else modTime (fun t => { t with sweepCounter := t.sweepCounter + 1#16 }) s
  else s

/-- The work of one office tick, a reload that an earlier sweep brought being made before it (log 20). -/
def tickWork (s : State) : State :=
  let s := allowanceReload s
  if Config.clockFirst s.time.sweepCount then tickSweep (tickClock s) else tickClock (tickSweep s)

/-- One office tick (R25): made while main power is present and PCI reset released. It rewrites the check words of the
records it changes (R167). -/
def tick (s : State) : State := if ticking s then rewriteChecks s (tickWork s) else s

/-! ### The commands -/

/-- OFFICE_CLOCK_ADVANCE: the divider passes from 999 to 0 (R25). It counts no tick in the sweep counter (log 5). -/
def execOfficeClockAdvance (s : State) : Host.Outcome State Fault Refusal :=
  goOn (if ticking s then rewriteChecks s (clockAdvance s) else s)

/-- SWEEP: the sweep counter reaches its point and becomes 0 (R26, R28). It counts no tick in the millisecond divider (log
5). -/
def execSweep (blocks windows printers : List Nat) (s : State) : Host.Outcome State Fault Refusal :=
  whenLive s fun s =>
    if granting s then sweepEvent blocks windows printers s else s

/-- ALLOWANCE_RELOAD (R82), in RUNNING and EXCHANGE_FAULT (R19, R29). -/
def execAllowanceReload (s : State) : Host.Outcome State Fault Refusal := whenLive s allowanceReload

end Sys2Proof.Machine
end

