-- ==== Sys2Proof/Machine/Dispatch.lean ====
section
/-! DEFINITION. One arm per command, each a direct call of its meaning. -/

namespace Sys2Proof.Machine

def exec (i : Instr) (s : State) : Host.Outcome State Fault Refusal :=
  match i with
  | .xbaseWrite value => Sys2Proof.Machine.execXbaseWrite value s
  | .post value => Sys2Proof.Machine.execPost value s
  | .attnWrite value => Sys2Proof.Machine.execAttnWrite value s
  | .attnEnWrite value => Sys2Proof.Machine.execAttnEnWrite value s
  | .run => Sys2Proof.Machine.execRun s
  | .hold => Sys2Proof.Machine.execHold s
  | .restart => Sys2Proof.Machine.execRestart s
  | .cold => Sys2Proof.Machine.execCold s
  | .registerWriteIgnored offset byteEnables value => Sys2Proof.Machine.execRegisterWriteIgnored offset byteEnables value s
  | .powerUp coldStrap => Sys2Proof.Machine.execPowerUp coldStrap s
  | .pciReset => Sys2Proof.Machine.execPciReset s
  | .pciResetRelease => Sys2Proof.Machine.execPciResetRelease s
  | .mainPowerLoss => Sys2Proof.Machine.execMainPowerLoss s
  | .vbkLoss => Sys2Proof.Machine.execVbkLoss s
  | .startComplete => Sys2Proof.Machine.execStartComplete s
  | .officeClockAdvance => Sys2Proof.Machine.execOfficeClockAdvance s
  | .sweep blocks windows printers => Sys2Proof.Machine.execSweep blocks windows printers s
  | .allowanceReload => Sys2Proof.Machine.execAllowanceReload s
  | .fetchRequest => Sys2Proof.Machine.execFetchRequest s
  | .engineAccessStart => Sys2Proof.Machine.execEngineAccessStart s
  | .returnResultWritten => Sys2Proof.Machine.execReturnResultWritten s
  | .returnComplete => Sys2Proof.Machine.execReturnComplete s
  | .headerWriteComplete => Sys2Proof.Machine.execHeaderWriteComplete s
  | .tableWriteComplete => Sys2Proof.Machine.execTableWriteComplete s
  | .accessFail => Sys2Proof.Machine.execAccessFail s
  | .issue tag request => Sys2Proof.Machine.execIssue tag request s
  | .void tag window sale => Sys2Proof.Machine.execVoid tag window sale s
  | .refund tag request => Sys2Proof.Machine.execRefund tag request s
  | .readTally tag window => Sys2Proof.Machine.execReadTally tag window s
  | .loadStock tag request => Sys2Proof.Machine.execLoadStock tag request s
  | .unloadStock tag printer => Sys2Proof.Machine.execUnloadStock tag printer s
  | .readSpoils tag index => Sys2Proof.Machine.execReadSpoils tag index s
  | .rollCall tag line mask => Sys2Proof.Machine.execRollCall tag line mask s
  | .testPrint tag request => Sys2Proof.Machine.execTestPrint tag request s
  | .printerServiceEnter tag printer => Sys2Proof.Machine.execPrinterServiceEnter tag printer s
  | .printerServiceLeave tag printer => Sys2Proof.Machine.execPrinterServiceLeave tag printer s
  | .printerServiceAcknowledge tag printer action => Sys2Proof.Machine.execPrinterServiceAcknowledge tag printer action s
  | .cashUp tag request => Sys2Proof.Machine.execCashUp tag request s
  | .endOfDay tag => Sys2Proof.Machine.execEndOfDay tag s
  | .setOffice tag request => Sys2Proof.Machine.execSetOffice tag request s
  | .setWindow tag request => Sys2Proof.Machine.execSetWindow tag request s
  | .setRoute tag request => Sys2Proof.Machine.execSetRoute tag request s
  | .setPrinter tag printer configured group => Sys2Proof.Machine.execSetPrinter tag printer configured group s
  | .setLine tag line rate window limit => Sys2Proof.Machine.execSetLine tag line rate window limit s
  | .setStockKind tag kind lowMark band => Sys2Proof.Machine.execSetStockKind tag kind lowMark band s
  | .badKind tag kind => Sys2Proof.Machine.execBadKind tag kind s
  | .arbiterAction group => Sys2Proof.Machine.execArbiterAction group s
  | .lineTurn line => Sys2Proof.Machine.execLineTurn line s
  | .replyWindowExpiry line => Sys2Proof.Machine.execReplyWindowExpiry line s
  | .characterGapTimeout line => Sys2Proof.Machine.execCharacterGapTimeout line s
  | .badReply line bytes => Sys2Proof.Machine.execBadReply line bytes s
  | .frameDiscarded line bytes => Sys2Proof.Machine.execFrameDiscarded line bytes s
  | .status line address flags waiting entries => Sys2Proof.Machine.execStatus line address flags waiting entries s
  | .accept line address token => Sys2Proof.Machine.execAccept line address token s
  | .refuse line address token reason => Sys2Proof.Machine.execRefuse line address token reason s
  | .serial line address serial kind => Sys2Proof.Machine.execSerial line address serial kind s
  | .retry line address => Sys2Proof.Machine.execRetry line address s
  | .slotExpiry line => Sys2Proof.Machine.execSlotExpiry line s
  | .badAnswer line bytes => Sys2Proof.Machine.execBadAnswer line bytes s
  | .commandFrameEnd line => Sys2Proof.Machine.execCommandFrameEnd line s

end Sys2Proof.Machine
end

