-- ==== Sys2Proof/Safety.lean ====
section
/-! DEFINITION. What the statements speak of: the laws spec/ states of the part as predicates on State, each with the rule
that states it, and the conditions under which commands complete. -/

namespace Sys2Proof.Machine

/-! ### Conditions -/

/-- The part is live and the fetch in progress is of a slip: the condition for a slip command (R7). -/
abbrev fetching (s : State) (n : SlipId) : Prop := live s = true ∧ s.port.engine = some (.fetch n)

/-- The Exchange Port after a slip is taken (R7): the engine free, the intake shorter, the slip counted. -/
def portAfterTaking (x : ExchangePort) : ExchangePort :=
  { x with engine := none, failed := none, intake := x.intake.drop 1, slipsTaken := x.slipsTaken + 1#32, reader := .idle }

/-- The same port with a return entry at the tail of the Return Hold list (R9). -/
def portWithReturn (x : ExchangePort) (e : ReturnEntry) : ExchangePort := { x with returns := x.returns ++ [e] }

/-- The state after a slip is taken and answered at once, with no other effect (R7, R9). -/
def answered (s : State) (e : ReturnEntry) : State :=
  { s with port := portWithReturn (portAfterTaking s.port) e }

/-- A return entry made now for a slip (R9). -/
def entryNow (s : State) (n : SlipId) (tag : Word) (code : ResultCode) (detail : Word) (area : List Byte) : ReturnEntry :=
  { slip := n, tag := tag, code := code, detail := detail, clock := s.settings.clock, area := resultArea area }

/-- A line whose exchange or round has ended (R99). -/
def lineFreed (x : Line) : Line := { x with activity := .free, frameBuffer := [], replyTimer := none }

/-- The line awaits the reply of an exchange whose end counts: not void, and with no round waiting for the line. -/
abbrev awaiting (s : State) (l : LineId) (x : Exchange) : Prop :=
  live s = true ∧ s.lines[l].activity = .awaiting x ∧ x.void = false ∧ lineOfPrinter x.printer = l ∧
    s.lines[l].roll.phase ≠ .round

/-- The token is one not reported before, of a job in SENDING or SENT in the printer's list: what makes an entry taken (R39,
R106). -/
abbrev inFlightAs (s : State) (p : PrinterId) (token : Byte) (i : JobIx) (j : Job) : Prop :=
  token ≠ 0xFF#8 ∧ token ∉ s.lineRecords[p].reported ∧ jobOfToken s token = some i ∧
    i ∈ s.printers[p].outstanding ∧ jobAt s i = some j ∧ (j.state = .sending ∨ j.state = .sent) ∧ j.printer = some p

/-- The job come back to its window's queue (R46, R47). -/
def backInQueue (j : Job) : Job :=
  { j with state := .queued, printer := none, serial := none, outcomeWait := false, aged := false }

/-- The class of a statement (R161). -/
def statementClass (c : Tally) (variance : Int) (tolerance : Nat) : StatementClass :=
  if c.saturated = true then .saturated
  else if -(tolerance : Int) ≤ variance ∧ variance ≤ tolerance then .balanced
  else if (tolerance : Int) < variance then .over else .short

/-- The entry of the statement of a window's closed shift, and the Day Totals it leaves (R160 to R164). -/
def statementOf (s : State) (w : WindowId) (c : Tally) (currentShift : Nat) (d : PendingCashUp) :
    ReturnEntry × DayTotals :=
  let list := spoilList s.register w c.shift
  let expected : Int := c.float + c.cash.sales + c.cash.inDoubt - c.cash.refunds
  let variance := (d.declaredCash : Int) - expected
  (entryNow s d.slip d.tag .statement (statementDetail c d.declaredCash list)
      (statementBytes w c currentShift d.declaredCash d.declaredWarrants s.settings.tolerance list),
    addStatement c (statementClass c variance s.settings.tolerance) variance s.dayTotals)

/-- The tally of a window's shift, CURRENT or CLOSING (R60). -/
def tallyOf (s : State) (w : WindowId) (shift : Nat) : Option Tally :=
  if s.current[w].shift = shift then some s.current[w] else s.closing[w].filter (·.shift == shift)

/-- The Day Totals' count of blanks disposed of under a cause (R165). -/
def spoilsCount (d : DayTotals) : SpoilCause → Nat
  | .jam => d.jamSpoils
  | .misfeed => d.misfeedSpoils
  | .printFault => d.printFaultSpoils
  | .test => d.testSpoils
  | .inDoubt => d.inDoubtSpoils

/-! ### Blanks and money in doubt (R64, R142) -/

/-- A tender's columns after amounts in doubt are added one by one (R62, R64). -/
def inDoubtColumns (c : TenderColumns) (amounts : List Nat) : TenderColumns :=
  if amounts = [] then c
  else { c with inDoubt := min 4294967295 (c.inDoubt + amounts.sum),
                inDoubtCount := min 65535 (c.inDoubtCount + amounts.length) }

/-- One of those additions carries a column above its largest value. -/
def inDoubtOverflows (c : TenderColumns) (amounts : List Nat) : Bool :=
  amounts != [] && (4294967295 < c.inDoubt + amounts.sum || 65535 < c.inDoubtCount + amounts.length)

/-- A tally after amounts in doubt are added to each tender (R62, R64). -/
def inDoubtTally (t : Tally) (amounts : Tender → List Nat) : Tally :=
  { t with
    cash := inDoubtColumns t.cash (amounts .cash)
    card := inDoubtColumns t.card (amounts .card)
    warrant := inDoubtColumns t.warrant (amounts .warrant)
    voucher := inDoubtColumns t.voucher (amounts .voucher)
    saturated := t.saturated
      || [Tender.cash, .card, .warrant, .voucher].any fun x => inDoubtOverflows (columnsOf t x) (amounts x) }

/-- The register entry of a blank of a printer turned in doubt now (R142 step 1). -/
def inDoubtEntry (s : State) (p : PrinterId) (serial : Nat) (window : Option WindowId) (shift : Nat) : SpoilEntry :=
  { serial := serial, kind := s.magazines[p].kind, printer := p, window := window, shift := shift, cause := .inDoubt,
    disposition := .inDoubt, clock := s.settings.clock }

/-- The notes of every magazine with their printers, in ascending order of printer, then as listed (R173). -/
def allNotes (s : State) : List (PrinterId × Note) :=
  (List.finRange 16).flatMap fun p => s.magazines[p].notes.map fun n => (p, n)

/-- The amounts of the notes of a window's shift in one tender. -/
def noteAmounts (s : State) (w : WindowId) (shift : Nat) (x : Tender) : List Nat :=
  ((allNotes s).filter fun y => decide (y.2.window = some w ∧ y.2.shift = shift ∧ y.2.tender = some x)).map (·.2.amount)

/-- The jobs of a list that are of a window's shift. -/
def ofShift (l : List (JobIx × Job)) (w : WindowId) (shift : Nat) : List Job :=
  (l.map (·.2)).filter fun j => decide (j.window = some w ∧ j.shift = shift)

/-- The amounts of jobs in one tender. -/
def amountsIn (l : List Job) (x : Tender) : List Nat := (l.filter fun j => decide (j.tender = some x)).map (·.amount)

/-- The list holds the jobs in flight on the printer, each with its provisional serial, in ascending order of it (R142). -/
def InFlightInOrder (s : State) (p : PrinterId) (l : List (JobIx × Job)) : Prop :=
  (l.map (·.1)).Perm (flightList s p) ∧ (∀ x ∈ l, jobAt s x.1 = some x.2 ∧ x.2.serial ≠ none) ∧
    l.Pairwise fun a b => a.2.serial.getD 0 < b.2.serial.getD 0

/-- What an IN_DOUBT return of jobs of one printer does, in that order: the magazine (R142), the register (R142, R152), the
Day Totals (R165), the tallies of the jobs' shifts (R64, R43) and the results (R43). -/
def InDoubtEffects (s t : State) (p : PrinterId) (l : List (JobIx × Job)) : Prop :=
  let m := s.magazines[p]
  t.magazines[p] = { m with
      notes := m.notes.filter fun n => !(l.map fun x => tokenOf s x.1).contains n.token
      next := m.next + l.length
      inDoubt := m.inDoubt + l.length
      unverified := match m.unverified with
        | some v => some v
        | none => l.head?.bind (·.2.serial) } ∧
    t.register = l.foldl (fun r x => addEntry (inDoubtEntry s p (x.2.serial.getD 0) x.2.window x.2.shift) r)
      s.register ∧
    t.dayTotals.inDoubtSpoils =
      (if l = [] then s.dayTotals.inDoubtSpoils else min 65535 (s.dayTotals.inDoubtSpoils + l.length)) ∧
    (∀ w : WindowId,
      let mine := ofShift l w s.current[w].shift
      t.current[w] = { inDoubtTally s.current[w] (amountsIn mine) with
        openJobs := s.current[w].openJobs - mine.length }) ∧
    (∀ (w : WindowId) (c : Tally), s.closing[w] = some c → c.shift ≠ s.current[w].shift →
      let mine := ofShift l w c.shift
      mine.length < c.openJobs →
        t.closing[w] = some { inDoubtTally c (amountsIn mine) with openJobs := c.openJobs - mine.length }) ∧
    (∀ x ∈ l, jobAt t x.1 = none) ∧
    (s.port.returns ++ l.map fun x =>
      entryNow s x.2.slip x.2.tag .inDoubt (clampedBit x.2.clamped) (jobResultBytes (tokenOf s x.1) x.2)).Sublist
        t.port.returns

/-! ### Frames -/

/-- The fields that no operation on jobs, printers, lines, stock or tallies changes. -/
structure Still where
  powered : Bool
  pciReset : Bool
  start : Option StartInProgress
  office : OfficeState
  lamp : Bool
  time : TimeBase
  settings : OfficeSettings
  windows : Vector WindowRecord 24
  routes : Vector RouteEntry 64
  lineConfigs : Vector LineConfig 2
  pending : List Instr

/-- Those fields of a state. -/
def still (s : State) : Still :=
  { powered := s.powered, pciReset := s.pciReset, start := s.start, office := s.office, lamp := s.lamp, time := s.time,
    settings := s.settings, windows := s.windows, routes := s.routes, lineConfigs := s.lineConfigs,
    pending := s.pending }

/-! ### Laws -/

/-- R41: every job record is either in use or on the Free Job Stack, which holds no index twice. -/
def JobTableLaw (s : State) : Prop :=
  s.freeStack.Nodup ∧ ∀ i : JobIx, i ∈ s.freeStack ↔ jobAt s i = none

/-- R41: no window has more than 16 jobs in the Job Table, its quota being at most 16 (Table 3-1). -/
def WindowJobsLaw (s : State) : Prop := ∀ w : WindowId, s.windows[w].quota ≤ 16 ∧ jobCount s w ≤ 16

/-- R42: a job in QUEUED is in its window's queue and in no other list, every other job in its printer's outstanding list
and in no other list, no list holds a job twice, and while a start is in progress there is no job (R171). -/
def PlaceLaw (s : State) : Prop :=
  (s.start ≠ none → ∀ i : JobIx, jobAt s i = none) ∧ (∀ w : WindowId, s.queues[w].Nodup) ∧
    (∀ p : PrinterId, s.printers[p].outstanding.Nodup) ∧
    ∀ i : JobIx,
      (∀ w : WindowId, i ∈ s.queues[w] ↔ ∃ j, jobAt s i = some j ∧ j.window = some w ∧ j.printer = none) ∧
      (∀ p : PrinterId, i ∈ s.printers[p].outstanding ↔ ∃ j, jobAt s i = some j ∧ j.printer = some p) ∧
      ∀ j : Job, jobAt s i = some j → (j.printer = none ↔ j.state = .queued) ∧ (j.printer = none → j.window ≠ none)

/-- R109: the waiting set is of a line in WAITING, the running and pending sets of a line in ROUND or BETWEEN. -/
def RollLaw (s : State) : Prop :=
  ∀ l : LineId, match s.lines[l].roll.phase with
    | .none => s.lines[l].roll.waitingSet = 0#8 ∧ s.lines[l].roll.runningSet = 0#8 ∧ s.lines[l].roll.pendingSet = 0#8
    | .waiting => s.lines[l].roll.runningSet = 0#8 ∧ s.lines[l].roll.pendingSet = 0#8
    | .round | .between => s.lines[l].roll.waitingSet = 0#8

/-- R167: unless a lost store is being set to its defaults, every check word of the powered part agrees with its record; a
start with RLOST is a cold one (Table 10-2). -/
def StoreLaw (s : State) : Prop :=
  (∀ st, s.start = some st → st.lost = true → st.cold = true) ∧
    (ticking s = true → (∀ st, s.start = some st → st.lost = false) → storeValid s = true)

/-- R29: no allowance reload is left due in STANDBY or HOLD (the mark is the model's own, log 20). -/
def ReloadLaw (s : State) : Prop := s.time.reloadDue = true → s.office = .running ∨ s.office = .exchangeFault

/-- R155, R159: only a window with a CLOSING tally has a pending cash-up, and none has one while a start is in progress
(R171). -/
def CashUpLaw (s : State) : Prop :=
  ∀ w : WindowId, s.cashUps[w] ≠ none → s.start = none ∧ s.closing[w] ≠ none

/-- R177 and Table 1-2: what the engine writes, and each result area that waits, fills its region exactly. -/
def AreaLaw (s : State) : Prop :=
  (∀ e ∈ s.port.returns, e.area.length = 320) ∧ ∀ a, s.port.engine = some a →
    match a with
    | .fetch _ => True
    | .returnFields e | .returnMap e => e.area.length = 320
    | .header content => content.length = 256
    | .printerEntry _ content _ => content.length = 32
    | .stockEntry _ content _ => content.length = 16

/-- R37: record 63 never holds generation 3, so token 255 is never made. -/
def TokenLaw (s : State) : Prop := s.jobs[(63 : JobIx)].generation ≠ 3

/-- R152: at most 256 entries, no two of one stock kind and serial. -/
def RegisterLaw (s : State) : Prop :=
  s.register.entries.length ≤ 256 ∧
    s.register.entries.Pairwise fun a b => ¬(a.kind = b.kind ∧ a.serial = b.serial)

/-- R150, with the band at least 1 (R151): LOW is set at or below the low mark and clear at or above mark plus band, and
EXHAUSTED is set exactly at 0. R149: the total and the loaded magazines are those of the records as they stand. -/
def LowStockLaw (s : State) : Prop :=
  ∀ k : KindId, 1 ≤ s.kinds[k].band ∧
    (s.kinds[k].total ≤ s.kinds[k].lowMark → s.kinds[k].low = true) ∧
    (s.kinds[k].lowMark + s.kinds[k].band ≤ s.kinds[k].total → s.kinds[k].low = false) ∧
    (s.kinds[k].exhausted = true ↔ s.kinds[k].total = 0) ∧
    s.kinds[k].total = availableTotal s k ∧ s.kinds[k].loaded = loadedCount s k

/-- R81: no printer has more than two outstanding jobs. -/
def OutstandingLaw (s : State) : Prop := ∀ p : PrinterId, s.printers[p].outstanding.length ≤ 2

/-- R83: a window holds at most one printer. -/
def HoldLaw (s : State) : Prop :=
  ∀ (w : WindowId) (p q : PrinterId), holds s w p = true → holds s w q = true → p = q

/-- R24: RDYLED is dark in STANDBY and lit in RUNNING. -/
def LampLaw (s : State) : Prop :=
  (s.office = .standby → s.lamp = false) ∧ (s.office = .running → s.lamp = true)

/-- Table 2-4: every office setting lies in its range. -/
def SettingsLaw (s : State) : Prop :=
  (s.settings.roundingStep = 1 ∨ s.settings.roundingStep = 5 ∨ s.settings.roundingStep = 10) ∧
    s.settings.minimumFare ≤ 99999 ∧ s.settings.tolerance ≤ 9999 ∧ s.settings.sweepPeriod ≤ 255 ∧
    (1 ≤ s.settings.interval ∧ s.settings.interval ≤ 16) ∧ s.settings.reprintLimit ≤ 3 ∧
    (2 ≤ s.settings.spoilRunLimit ∧ s.settings.spoilRunLimit ≤ 9)

/-- R6, R7, R10, R15: the access in progress, and the one recorded for retry, are of the intake head the Slip Reader has
requested or of the head of the Return Hold list. -/
def AccessLaw (s : State) : Prop :=
  (∀ n, s.port.engine = some (.fetch n) → s.port.intake.head? = some n ∧ s.port.reader = .fetching) ∧
    (∀ e, s.port.engine = some (.returnFields e) ∨ s.port.engine = some (.returnMap e) →
      s.port.returns.head? = some e) ∧
    (∀ n, s.port.failed = some (.fetch n) → s.port.intake.head? = some n ∧ s.port.reader = .fetching) ∧
    (s.port.failed = some .returning → s.port.returns ≠ [])

/-- R57: the per-passenger fare of a job in the Job Table is at most 999,999 pence and its amount at most 8,999,991. -/
def FareLaw (s : State) : Prop := ∀ (i : JobIx) (j : Job), jobAt s i = some j → j.fare ≤ 999999 ∧ j.amount ≤ 8999991

/-- A step that goes on from a state of the law answers a state of the law. -/
def KeptByStep (law : State → Prop) : Prop := ∀ s t : State, law s → step s = .next t → law t

end Sys2Proof.Machine
end

