-- ==== Sys2Proof/Certificates/Slice0/Obligations.lean ====
section
/-! DEFINITION. The statements for the provers: what spec/ says the part does, each over every state and operand that
meets its hypotheses. -/

open Sys2Proof Sys2Proof.Machine

/-! ### Stepping, reset and the laws every step keeps -/

/-- A step takes the command at the front of the queue and runs it with the rest of the queue left waiting; with an empty
queue an office tick passes (the model's choice, log 4). -/
def Obligations.StepRunsFrontCommand : Prop :=
  (∀ (s : State) (c : Instr) (rest : List Instr), s.pending = c :: rest → step s = exec c (s.withPending rest)) ∧
    ∀ s : State, s.pending = [] → step s = .next (tick s)

/-- R1's list of register values after a start, read at every offset of the window from `State.reset`, whatever byte enables
the read carries. That reset is a completed cold start is the model's choice (log 1). -/
def Obligations.ResetRegisterWindow : Prop :=
  ∀ (offset : BitVec 6) (byteEnables : BitVec 4), readRegister State.reset offset byteEnables = some
    (if offset.toNat < 4 then 0x24160001#32
    else if offset.toNat < 8 then 0#32
    else if offset.toNat < 12 then 32#32
    else if offset.toNat < 16 then 0b1000000#32
    else 0#32)

/-- Every law that a step keeps holds at reset. -/
def Obligations.ResetMeetsEveryLaw : Prop :=
  JobTableLaw State.reset ∧ TokenLaw State.reset ∧ RegisterLaw State.reset ∧ LowStockLaw State.reset ∧
    OutstandingLaw State.reset ∧ HoldLaw State.reset ∧ LampLaw State.reset ∧ SettingsLaw State.reset ∧
    AccessLaw State.reset ∧ FareLaw State.reset ∧ WindowJobsLaw State.reset ∧ PlaceLaw State.reset ∧
    RollLaw State.reset ∧ StoreLaw State.reset ∧ ReloadLaw State.reset ∧ CashUpLaw State.reset ∧ AreaLaw State.reset

/-- R41 and R37: job records in use plus entries on the Free Job Stack equal 64, no window has more than 16 jobs in the Job
Table, and record 63 never holds generation 3, so that token 255 is never made. Every step keeps each. -/
def Obligations.JobRecordLawsKept : Prop :=
  KeptByStep JobTableLaw ∧ KeptByStep WindowJobsLaw ∧ KeptByStep TokenLaw

/-- R152: every step keeps the Spoil Register's bound and its one entry for each stock kind and serial. What a new entry
does: it takes the place of one of its kind and serial and stands at the tail, joins the tail, or with 256 entries is
lost to the overflow counter. -/
def Obligations.RegisterLawKept : Prop :=
  KeptByStep RegisterLaw ∧
    ∀ (e : SpoilEntry) (r : SpoilRegister), r.entries.length ≤ 256 →
      let same (x : SpoilEntry) : Prop := x.kind = e.kind ∧ x.serial = e.serial
      ((∃ x ∈ r.entries, same x) →
        addEntry e r = { r with entries := (r.entries.filter fun x => !(x.kind == e.kind && x.serial == e.serial)) ++ [e] }) ∧
      ((∀ x ∈ r.entries, ¬same x) → r.entries.length < 256 → addEntry e r = { r with entries := r.entries ++ [e] }) ∧
      ((∀ x ∈ r.entries, ¬same x) → r.entries.length = 256 →
        addEntry e r = { r with lost := min 65535 (r.lost + 1), overflow := true })

/-- R149 and R150: after every step each kind's available total and loaded magazines are those of the printers and
magazines as they stand, and the LOW and EXHAUSTED flags agree with the total. -/
def Obligations.LowStockLawKept : Prop := KeptByStep LowStockLaw

/-- R81 and R132: an outstanding list holds two jobs at most. R42: each job is in exactly one list, its window's queue in
QUEUED and its printer's outstanding list in every other state, which every step keeps together with R41's law. -/
def Obligations.OutstandingLawKept : Prop :=
  KeptByStep OutstandingLaw ∧ KeptByStep fun s => JobTableLaw s ∧ PlaceLaw s

/-- R83: a window holds one printer at most. R109: a line's roll-call sets are empty but those its state uses. Every step
keeps each. -/
def Obligations.HoldLawKept : Prop := KeptByStep HoldLaw ∧ KeptByStep RollLaw

/-- R24's level of RDYLED in STANDBY and RUNNING, Table 2-4's ranges of the office settings, that only a window with a
CLOSING tally has a cash-up pending (R155), and that no reload is due where none may occur (R29; the mark is the model's
own, log 20): every step keeps each. R167 and R58: every step but a loss of VBK leaves each retained record and its check
word as they stood or the word agreeing with the record, so that the store stays valid unless a lost one is being set to
its defaults. The bytes a check word is computed over are left open (log 7). -/
def Obligations.OfficeLawsKept : Prop :=
  KeptByStep LampLaw ∧ KeptByStep SettingsLaw ∧ KeptByStep CashUpLaw ∧ KeptByStep ReloadLaw ∧ KeptByStep StoreLaw ∧
    ∀ (s t : State) (i : Fin 189), step s = .next t → s.pending.head? ≠ some .vbkLoss →
      (contentOf t (recordAt i) = contentOf s (recordAt i) ∧ t.checkWords[i] = s.checkWords[i]) ∨
        t.checkWords[i] = crc16 (Config.storeImage (contentOf t (recordAt i)))

/-- R7, R10 and R15: what the engine carries, and what is recorded for retry, stays the head it was started for. R177 and
Table 1-2: each access and each waiting result area has its region's length. Every step keeps each. -/
def Obligations.AccessLawKept : Prop := KeptByStep AccessLaw ∧ KeptByStep AreaLaw

/-- R57's bounds for the jobs in the Job Table: a fare is at most 999,999 pence and an amount at most 8,999,991. -/
def Obligations.FareLawKept : Prop := KeptByStep FareLaw

/-! ### Encodings (R176 to R179) -/

/-- Tables 11-4, 11-5, 11-8 and 11-9: the slip written from a slip command reads back as that command, every field at
every value its width holds. -/
def Obligations.SlipRoundTrip : Prop :=
  ∀ (i : Instr) (bytes : List Byte), i.wellFormed = true → encodeSlip i = some bytes → decodeSlip bytes = i

/-- R94, R95, R179 and Table 11-18: the frame a printer sends for a reply reads back as its address and that reply. R94: a
character has ten bits, a start bit, the 8 data bits least significant first and a stop bit, and reads back as its byte. -/
def Obligations.ReplyRoundTrip : Prop :=
  (∀ (address : Byte) (r : Reply), (∀ flags waiting entries, r = .status flags waiting entries → entries.length ≤ 27) →
    decodeReply (encodeReply address r) = some (address, r)) ∧
  ∀ b : Byte, readCharacter (characterBits b) = some b ∧ (characterBits b).length = 10 ∧
    (characterBits b)[0]? = some .start ∧ (characterBits b)[9]? = some .stop ∧
    ∀ i : Fin 8, (characterBits b)[i.val + 1]? = some (.data (b.getLsbD i.val))

/-! ### The Fare Unit (R55 to R57) -/

/-- R55. -/
def Obligations.FareDiscountAndStep : Prop :=
  ∀ fare discount step : Nat, fare ≤ 999999 → discount ≤ 10000 → (step = 1 ∨ step = 5 ∨ step = 10) →
    let product := fare * (10000 - discount)
    let p0 := discountedFare fare discount
    let p1 := steppedFare fare discount step
    product ≤ 9999990000 ∧ 9999990000 < 10 ^ 10 ∧ 999999 * (10000 - 0) = 9999990000 ∧
      (10000 * p0 ≤ product ∧ product < 10000 * (p0 + 1)) ∧
      (discount = 0 → p0 = fare) ∧ (discount = 10000 → p0 = 0) ∧ p0 ≤ fare ∧
      (step ∣ p1 ∧ p1 = p0 - p0 % step ∧ p1 ≤ p0 ∧ p0 < p1 + step) ∧ (step = 1 → p1 = p0)

/-- R56. -/
def Obligations.FareMinimumAndAmount : Prop :=
  ∀ (fare discount quantity step minimum : Nat) (flag : Bool), discount ≤ 10000 →
    let p1 := steppedFare fare discount step
    let p := passengerFare fare discount flag step minimum
    ((flag = true ∧ 0 < discount ∧ p1 < minimum) → p = min fare minimum) ∧
      (¬(flag = true ∧ 0 < discount ∧ p1 < minimum) → p = p1) ∧
      ticketAmount p quantity = p * quantity ∧
      (discount = 0 → p = p1) ∧ (minimum = 0 → p = p1) ∧
      (flag = true ∧ 0 < discount ∧ p1 < minimum ∧ fare < minimum → p = fare)

/-- R57: its bounds, that a tally sum takes one largest amount before it can saturate, and the law of fares for every order
that passes the field tests. -/
def Obligations.LawOfFares : Prop :=
  (∀ (fare discount quantity step minimum : Nat) (flag : Bool), fare ≤ 999999 → discount ≤ 10000 →
      1 ≤ quantity → quantity ≤ 9 → (step = 1 ∨ step = 5 ∨ step = 10) → minimum ≤ 99999 →
      let p := passengerFare fare discount flag step minimum
      let a := ticketAmount p quantity
      p ≤ 999999 ∧ p ≤ fare ∧ a ≤ 8999991 ∧
        (fare = 0 → p = 0 ∧ a = 0) ∧
        (discount = 10000 → flag = false → p = 0 ∧ a = 0) ∧
        (discount = 10000 → flag = true → p = min fare minimum) ∧
        (a = 8999991 ↔ fare = 999999 ∧ discount = 0 ∧ step = 1 ∧ quantity = 9)) ∧
    saturates Config.max32 0 8999991 = false ∧
    ∀ (o : OfficeSettings) (r : IssueRequest), issueBad r = none →
      fareOf o r ≤ r.baseFare.toNat ∧ ticketAmount (fareOf o r) r.quantity.toNat ≤ 8999991

/-! ### Register writes and office commands (chapters 1 and 2) -/

/-- R2: in STANDBY a value whose area ends inside the address space is taken with its low 12 bits discarded; any other
write, and a write in any other office state, changes nothing. -/
def Obligations.XbaseWriteInStandby : Prop :=
  ∀ (s : State) (value : Word), live s = true → exec (.xbaseWrite value) s = .next
    (if s.office = .standby ∧ (value &&& 0xFFFFF000#32).toNat ≤ 0xFFFEF000 then
      { s with port := { s.port with xbase := value &&& 0xFFFFF000#32 } }
    else s)

/-- R5 and R6: RANGE, DOUBLE, FULL, and a post taken at the tail of the intake. -/
def Obligations.PostTestsInOrder : Prop :=
  ∀ (s : State) (value : Word), live s = true →
    let refused (why : PostReason) : State :=
      { s with port := { s.port with attn := s.port.attn ||| 0b0001000#7, postsRefused := s.port.postsRefused + 1#32,
                                     lastRefused := value, lastReason := why } }
    (128 ≤ value.toNat → exec (.post value) s = .next (refused .range)) ∧
      ∀ n : SlipId, n.val = value.toNat →
        (s.port.held.getLsbD n.val = true → exec (.post value) s = .next (refused .double)) ∧
        (s.port.held.getLsbD n.val = false → 32 ≤ s.port.intake.length →
          exec (.post value) s = .next (refused .full)) ∧
        (s.port.held.getLsbD n.val = false → s.port.intake.length < 32 → ∃ t : State,
          exec (.post value) s = .next t ∧
            t = { s with port := { s.port with held := t.port.held, intake := s.port.intake ++ [n] } } ∧
            ∀ m : SlipId, t.port.held.getLsbD m.val = (s.port.held.getLsbD m.val || m == n))

/-- R14: a write of ATTN clears the causes whose bits are 1, a write of ATTN_EN sets all seven enables, and INTA# follows
the causes both pending and enabled. -/
def Obligations.AttentionWrites : Prop :=
  ∀ (s : State) (value : Word), live s = true →
    (∃ t : State, exec (.attnWrite value) s = .next t ∧ t = { s with port := { s.port with attn := t.port.attn } } ∧
      ∀ i : Fin 7, t.port.attn.getLsbD i.val = (s.port.attn.getLsbD i.val && !value.getLsbD i.val)) ∧
    (∃ t : State, exec (.attnEnWrite value) s = .next t ∧ t = { s with port := { s.port with attnEn := t.port.attnEn } } ∧
      ∀ i : Fin 7, t.port.attnEn.getLsbD i.val = value.getLsbD i.val) ∧
    (inta s = true ↔ ∃ i : Fin 7, s.port.attn.getLsbD i.val = true ∧ s.port.attnEn.getLsbD i.val = true)

/-- Table 2-2's rows RUN and HOLD, with R21, R22 and R24: what each command changes in each office state, and that an
ignored command changes nothing. That a mark keeps at RUN the cause it carried is the model's reading (DEDUCED, log 21), and
that HOLD first makes a reload an earlier sweep left due is its choice (log 20). -/
def Obligations.RunAndHoldByOfficeState : Prop :=
  ∀ s : State, live s = true →
    (s.office ≠ .running → exec .hold s = .next s) ∧
    (s.office = .running → s.time.reloadDue = false →
      exec .hold s = .next { s with office := .hold, lamp := true }) ∧
    (s.office = .running → s.time.reloadDue = true → exec .hold s = .next { s with
      office := .hold
      lamp := true
      time := { s.time with reloadDue := false }
      express := s.windows.map WindowRecord.allowance }) ∧
    (s.office = .running → exec .run s = .next s) ∧
    (s.office = .hold ∨ s.office = .exchangeFault →
      exec .run s = .next { s with office := .running, lamp := true }) ∧
    (s.office = .standby → s.port.xbase = 0#32 → exec .run s = .next s) ∧
    (s.office = .standby → s.port.xbase ≠ 0#32 → ∃ t : State, exec .run s = .next t ∧
      t = { s with
        office := .running
        lamp := true
        time := { s.time with sweepCounter := 0#16, allowanceDivider := 0 }
        port := { s.port with headerMark := true, printerMarks := t.port.printerMarks,
                              stockMarks := t.port.stockMarks } } ∧
      ∀ i : Fin 16,
        t.port.printerMarks[i] = (if s.port.printerMarks[i] = .withCause then .withCause else .plain) ∧
        t.port.stockMarks[i] = (if s.port.stockMarks[i] = .withCause then .withCause else .plain))

/-- R1 and R3: which command a write of one word spells, by its offset and, for OFFICE, the whole value; a write with a byte
enable deasserted, to IDENT or to no register, or of no office command is ignored at any time. R20 and R170: while a start
is in progress every register write is ignored. A REGISTER_WRITE_IGNORED whose operands spell another command's write has
that write's effect (the model's choice, log 40). -/
def Obligations.WritesIgnoredDuringStart : Prop :=
  (∀ (offset : BitVec 6) (value : Word),
    (offset.toNat / 4 = 1 → windowWrite offset 0xF#4 value = .xbaseWrite value) ∧
    (offset.toNat / 4 = 2 → windowWrite offset 0xF#4 value = .post value) ∧
    (offset.toNat / 4 = 3 → windowWrite offset 0xF#4 value = .attnWrite value) ∧
    (offset.toNat / 4 = 4 → windowWrite offset 0xF#4 value = .attnEnWrite value) ∧
    (offset.toNat / 4 = 5 →
      windowWrite offset 0xF#4 1#32 = .run ∧ windowWrite offset 0xF#4 2#32 = .hold ∧
      windowWrite offset 0xF#4 3#32 = .restart ∧ windowWrite offset 0xF#4 4#32 = .cold)) ∧
  (∀ (s : State) (offset : BitVec 6) (enables : BitVec 4) (value : Word),
    (enables ≠ 0xF#4 ∨ offset.toNat < 4 ∨ 24 ≤ offset.toNat ∨
      (20 ≤ offset.toNat ∧ offset.toNat < 24 ∧ (value.toNat = 0 ∨ 4 < value.toNat)) →
      windowWrite offset enables value = .registerWriteIgnored offset enables value ∧
      (Instr.registerWriteIgnored offset enables value).wellFormed = true ∧
      exec (.registerWriteIgnored offset enables value) s = .next s) ∧
    exec (.registerWriteIgnored offset enables value) s = exec (windowWrite offset enables value) s) ∧
  ∀ (s : State) (c : Instr) (value : Word) (offset : BitVec 6) (enables : BitVec 4), s.start ≠ none →
    c ∈ [.xbaseWrite value, .post value, .attnWrite value, .attnEnWrite value, .run, .hold, .restart, .cold,
      .registerWriteIgnored offset enables value] →
    exec c s = .next s

/-! ### Power and starts (chapter 10) -/

/-- R169, R170 and R171: RESTART begins a warm start and COLD a cold one; every block's volatile state takes its start
value and every retained record stands as it stood. That the volatile state changes when the start begins is the model's
choice (log 8). -/
def Obligations.RestartAndColdBeginStart : Prop :=
  ∀ (s : State) (cold : Bool), live s = true → exec (if cold = true then .cold else .restart) s = .next
    { s with
      start := some { cold := cold, lost := false, seconds := 0#32 }
      office := .standby
      lamp := false
      time := { divider := 0, sweepCounter := 0#16, sweepCount := 0#32, allowanceDivider := 0, reloadDue := false }
      port := .start 0#7
      queues := Vector.replicate 24 []
      jobs := Vector.replicate 64 { generation := 0, job := none }
      freeStack := List.finRange 64
      arbiters := Vector.replicate 8 { lastExpress := 23, token := 0, burst := 0 }
      express := s.windows.map WindowRecord.allowance
      printers := s.printers.map fun x =>
        { x with outstanding := [], hold := none, spoilRun := 0, lastFlags := 0#5, notReady := none }
      lines := Vector.replicate 2 .start
      lineRecords := Vector.replicate 16 .start
      cashUps := Vector.replicate 24 none }

/-- R172 and R175: the completion of a cold start leaves every record of Table 10-1 at its cold-start value with its check
word agreeing, the office clock at the seconds its ticks have counted (log 8), and START set, with RLOST where the store
was lost. Applied after COLD, the state is the reset state. -/
def Obligations.ColdStartReachesReset : Prop :=
  (∀ s : State, live s = true → ∃ t : State, exec .cold s = .next t ∧
    exec .startComplete t = .next (State.reset.withPending s.pending)) ∧
  ∀ (s : State) (st : StartInProgress), ticking s = true → s.start = some st → st.cold = true →
    ∃ t : State, exec .startComplete s = .next t ∧
      t.start = none ∧ storeValid t = true ∧ t.settings = { State.reset.settings with clock := st.seconds } ∧
      t.port = .start (if st.lost = true then 0b1100000#7 else 0b1000000#7) ∧
      t.windows = State.reset.windows ∧ t.routes = State.reset.routes ∧ t.printers = State.reset.printers ∧
      t.lineConfigs = State.reset.lineConfigs ∧ t.magazines = State.reset.magazines ∧ t.kinds = State.reset.kinds ∧
      t.register = State.reset.register ∧ t.current = State.reset.current ∧ t.closing = State.reset.closing ∧
      t.dayTotals = State.reset.dayTotals ∧ t.express = State.reset.express

/-- R173 to R175, R142 and R64: a warm start turns each note into an in-doubt blank, with its register entry (R152), its
count in the Day Totals (R165) and its amount in the tally of its shift. A printer that held one is faulted
RESTART_IN_DOUBT with the lowest serial, the first listed (R135), or records a further fault; every other printer in
service is RECOVERING and in its line's waiting set. Every open-job count is 0, and the start completes. -/
def Obligations.WarmStartSettlesNotes : Prop :=
  ∀ (s : State) (st : StartInProgress), ticking s = true → s.start = some st → st.cold = false →
    let notes := allNotes s
    ∃ t : State, exec .startComplete s = .next t ∧
      t.start = none ∧ t.port = .start (if st.lost = true then 0b1100000#7 else 0b1000000#7) ∧
      t.settings = { s.settings with startCount := s.settings.startCount + 1#32 } ∧
      t.windows = s.windows ∧ t.routes = s.routes ∧ t.lineConfigs = s.lineConfigs ∧
      (storeValid s = true → storeValid t = true) ∧ t.express = s.windows.map WindowRecord.allowance ∧
      t.register = notes.foldl (fun r x => addEntry (inDoubtEntry s x.1 x.2.serial x.2.window x.2.shift) r) s.register ∧
      (notes = [] → t.dayTotals = s.dayTotals) ∧
      (notes ≠ [] → t.dayTotals = { s.dayTotals with
        inDoubtSpoils := min 65535 (s.dayTotals.inDoubtSpoils + notes.length)
        saturated := s.dayTotals.saturated || decide (65535 < s.dayTotals.inDoubtSpoils + notes.length) }) ∧
      (∀ p : PrinterId,
        let old := s.printers[p]
        let m := s.magazines[p]
        t.magazines[p] = { m with
          notes := []
          next := m.next + m.notes.length
          inDoubt := m.inDoubt + m.notes.length
          unverified := match m.unverified with
            | some v => some v
            | none => m.notes.head?.map Note.serial } ∧
        t.printers[p].configured = old.configured ∧ t.printers[p].group = old.group ∧
        ((old.state = .ready ∨ old.state = .empty ∨ old.state = .recovering) →
          (m.notes = [] → t.printers[p].state = .recovering ∧ t.printers[p].fault = old.fault) ∧
          (m.notes ≠ [] → t.printers[p].state = .faulted ∧ t.printers[p].fault =
            { state := .opened, first := some .restartInDoubt, latest := some .restartInDoubt,
              flags := t.printers[p].fault.flags, clock := s.settings.clock, further := 0, token := none,
              serial := m.notes.head?.map Note.serial })) ∧
        (old.state = .faulted → t.printers[p].state = .faulted ∧
          (m.notes = [] → t.printers[p].fault = old.fault) ∧
          (m.notes ≠ [] → t.printers[p].fault = { old.fault with
            state := .opened, latest := some .restartInDoubt, further := min 255 (old.fault.further + 1) })) ∧
        ((old.state = .offline ∨ old.state = .unconfigured) →
          t.printers[p].state = old.state ∧ t.printers[p].fault = old.fault)) ∧
      (∀ l : LineId, s.lines[l].roll = .none →
        let roll := t.lines[l].roll
        roll = { RollCall.none with phase := roll.phase, waitingSet := roll.waitingSet } ∧
        (∀ a : AddressIx, roll.waitingSet.getLsbD a.val = true ↔ t.printers[printerAt l a].state = .recovering) ∧
        roll.phase = if roll.waitingSet = 0#8 then .none else .waiting) ∧
      (∀ k : KindId, t.kinds[k].total = 0 ∧ t.kinds[k].low = true ∧ t.kinds[k].exhausted = true) ∧
      ∀ w : WindowId,
        t.current[w] = { inDoubtTally s.current[w] (noteAmounts s w s.current[w].shift) with openJobs := 0 } ∧
        (s.closing[w] = none → t.closing[w] = none) ∧
        ∀ c : Tally, s.closing[w] = some c → c.shift ≠ s.current[w].shift →
          t.closing[w] = some { inDoubtTally c (noteAmounts s w c.shift) with openJobs := 0 }

/-- R168, R169 and R175: a loss of main power keeps every retained record; power coming back checks the store, and a valid
one starts warm, or cold when the strap asks. Contents lost while power is absent are found by their check words: the
start is cold, and its completion sets RLOST beside START. That the check words are lost and no contents is the model's
choice (log 7). -/
def Obligations.PowerFailureAndReturn : Prop :=
  (∀ (s : State) (strap : Bool), s.powered = true →
    ∃ t : State, exec .mainPowerLoss s = .next t ∧
      t.powered = false ∧ t.start = none ∧ t.checkWords = s.checkWords ∧ t.settings = s.settings ∧
      t.windows = s.windows ∧ t.routes = s.routes ∧ t.lineConfigs = s.lineConfigs ∧ t.magazines = s.magazines ∧
      t.kinds = s.kinds ∧ t.register = s.register ∧ t.current = s.current ∧ t.closing = s.closing ∧
      t.dayTotals = s.dayTotals ∧
      (∀ p : PrinterId, t.printers[p].configured = s.printers[p].configured ∧
        t.printers[p].group = s.printers[p].group ∧ t.printers[p].state = s.printers[p].state ∧
        t.printers[p].fault = s.printers[p].fault) ∧
      ∃ u : State, exec (.powerUp strap) t = .next u ∧ ticking u = true ∧
        (storeValid s = true → u.start = some { cold := strap, lost := false, seconds := 0#32 }) ∧
        (storeValid s = false → u.start = some { cold := true, lost := true, seconds := 0#32 })) ∧
  (∀ (s : State) (strap : Bool), s.powered = false →
    ∃ t u v : State, exec .vbkLoss s = .next t ∧ t = { s with checkWords := t.checkWords } ∧
      (∀ i : Fin 189, t.checkWords[i] ≠ crc16 (Config.storeImage (contentOf t (recordAt i)))) ∧
      exec (.powerUp strap) t = .next u ∧ u.start = some { cold := true, lost := true, seconds := 0#32 } ∧
      exec .startComplete u = .next v ∧ v = { State.reset with port := .start 0b1100000#7, pending := s.pending })

/-- R169 and R170: a PCI reset abandons a start in progress and frees the lines (log 9), and while it is asserted the register
window does not answer; its release checks the store and begins a start. -/
def Obligations.PciResetBeginsStart : Prop :=
  ∀ s : State, s.powered = true →
    ∃ t u : State, exec .pciReset s = .next t ∧
      t = { s with pciReset := true, start := none, lines := t.lines } ∧
      (∀ l : LineId, t.lines[l].activity = .free ∧ t.lines[l].replyTimer = none ∧ t.lines[l].frameBuffer = []) ∧
      (∀ (offset : BitVec 6) (enables : BitVec 4), readRegister t offset enables = none) ∧
      exec .pciResetRelease t = .next u ∧ u.pciReset = false ∧ u.office = .standby ∧
      (∀ (offset : BitVec 6) (enables : BitVec 4), readRegister u offset enables = some
        (if offset.toNat < 4 then 0x24160001#32 else if 8 ≤ offset.toNat ∧ offset.toNat < 12 then 32#32 else 0#32)) ∧
      (storeValid s = true → u.start = some { cold := false, lost := false, seconds := 0#32 }) ∧
      (storeValid s = false → u.start = some { cold := true, lost := true, seconds := 0#32 })

/-! ### The Time Base (chapter 2) -/

/-- R24 and R25: an advance of the office clock; during a warm start it counts on, during a cold start its seconds count
from 0 (log 8). That the command advances the clock whatever the divider reads is the model's choice (log 5); R25 gives the
advance at the tick that finds 999. -/
def Obligations.OfficeClockAdvances : Prop :=
  ∀ s : State, ticking s = true →
    exec .officeClockAdvance s = .next (rewriteChecks s
      { s with
        time := { s.time with divider := 0 }
        lamp := if s.office = .hold ∨ s.office = .exchangeFault then !s.lamp else s.lamp
        settings := { s.settings with
          clock := if s.start.any StartInProgress.cold then s.settings.clock else s.settings.clock + 1#32 }
        start := s.start.map fun st => if st.cold = true then { st with seconds := st.seconds + 1#32 } else st })

/-- R25 to R29: which tick makes a sweep and that it makes one, which counts itself and takes its reload with it, what every
other tick counts in each office state, and that the tick that finds the divider at 999 advances the office clock. That an
empty queue lets a tick pass is the model's choice (log 4). -/
def Obligations.TickCounts : Prop :=
  (∀ (counter : BitVec 16) (period : Nat), period ≤ 255 →
    (sweepDue counter period = true ↔ counter = 0xFFFF#16 ∨ counter.toNat + 1 = period * 256)) ∧
  (∀ s : State, s.pending = [] → ticking s = true → s.time.reloadDue = false → s.time.divider ≠ 999 →
    (s.start ≠ none ∨ s.office = .standby ∨ s.office = .hold →
      step s = .next { s with time := { s.time with divider := s.time.divider + 1 } }) ∧
    (s.start = none → (s.office = .running ∨ s.office = .exchangeFault) →
      sweepDue s.time.sweepCounter s.settings.sweepPeriod = false →
      step s = .next { s with
        time := { s.time with divider := s.time.divider + 1, sweepCounter := s.time.sweepCounter + 1#16 } })) ∧
  (∀ s : State, s.pending = [] → ticking s = true → s.time.reloadDue = false → s.time.divider = 999 → s.start = none →
    (s.office = .standby ∨ s.office = .hold → step s = .next (rewriteChecks s { s with
      time := { s.time with divider := 0 }
      lamp := if s.office = .hold then !s.lamp else s.lamp
      settings := { s.settings with clock := s.settings.clock + 1#32 } })) ∧
    ((s.office = .running ∨ s.office = .exchangeFault) →
      sweepDue s.time.sweepCounter s.settings.sweepPeriod = false → step s = .next (rewriteChecks s { s with
        time := { s.time with divider := 0, sweepCounter := s.time.sweepCounter + 1#16 }
        lamp := if s.office = .exchangeFault then !s.lamp else s.lamp
        settings := { s.settings with clock := s.settings.clock + 1#32 } }))) ∧
  ∀ s : State, s.pending = [] → live s = true → (s.office = .running ∨ s.office = .exchangeFault) →
    sweepDue s.time.sweepCounter s.settings.sweepPeriod = true →
    let reload := s.settings.interval ≤ s.time.allowanceDivider + 1
    ∃ t : State, step s = .next t ∧
      t.time =
        { divider := if s.time.divider = 999 then 0 else s.time.divider + 1
          sweepCounter := 0#16
          sweepCount := s.time.sweepCount + 1#32
          allowanceDivider := if reload then 0 else s.time.allowanceDivider + 1
          reloadDue := false } ∧
      t.settings = (if s.time.divider = 999 then { s.settings with clock := s.settings.clock + 1#32 } else s.settings) ∧
      t.port.headerMark = true ∧ t.office = s.office ∧ t.arbiters = s.arbiters ∧ t.windows = s.windows ∧
      (reload → ∀ w : WindowId, t.express[w] = s.windows[w].allowance) ∧
      (¬reload → s.time.reloadDue = false → t.express = s.express)

/-- R26, R28, R29, R12 and R82: a sweep counts itself, advances the allowance divider with the reload due at N or above, and
sets the header mark; it leaves the office state, the settings, the retained configuration and the arbiters as they stand.
The reload sets every express count to its window's allowance and changes nothing else, and none occurs in STANDBY or
HOLD. That the SWEEP command leaves its own reload to ALLOWANCE_RELOAD, or to the next sweep, tick or HOLD, is the model's
choice (log 20), and so is that it sweeps whatever the sweep counter reads (log 5). -/
def Obligations.SweepCountsAndReload : Prop :=
  (∀ (s : State) (blocks windows printers : List Nat), live s = true → (s.office = .running ∨ s.office = .exchangeFault) →
    ∃ t : State, exec (.sweep blocks windows printers) s = .next t ∧
      t.time = { s.time with
        sweepCounter := 0#16
        sweepCount := s.time.sweepCount + 1#32
        allowanceDivider := if s.settings.interval ≤ s.time.allowanceDivider + 1 then 0 else s.time.allowanceDivider + 1
        reloadDue := decide (s.settings.interval ≤ s.time.allowanceDivider + 1) } ∧
      t.express = (if s.time.reloadDue then s.windows.map WindowRecord.allowance else s.express) ∧
      t.port.headerMark = true ∧ t.office = s.office ∧ t.lamp = s.lamp ∧ t.settings = s.settings ∧
      t.windows = s.windows ∧ t.routes = s.routes ∧ t.lineConfigs = s.lineConfigs ∧
      t.arbiters = s.arbiters ∧ t.start = s.start ∧ t.pending = s.pending) ∧
  (∀ (s : State) (blocks windows printers : List Nat), (s.office = .standby ∨ s.office = .hold) →
    exec (.sweep blocks windows printers) s = .next s ∧ exec .allowanceReload s = .next s) ∧
  ∀ s : State, live s = true → (s.office = .running ∨ s.office = .exchangeFault) →
    (s.time.reloadDue = true →
      (∃ t : State, exec .allowanceReload s = .next t ∧
        t = { s with time := { s.time with reloadDue := false }, express := t.express } ∧
        ∀ w : WindowId, t.express[w] = s.windows[w].allowance) ∧
      (s.pending = [] → ∃ t : State, step s = .next t ∧ t.time.reloadDue = false ∧
        ∀ w : WindowId, t.express[w] = s.windows[w].allowance)) ∧
    (s.time.reloadDue = false → exec .allowanceReload s = .next s)

/-- What a sweep does, in whatever order it works. R48 to R50: the exemption clears the aged flag of a window's head job, a
first sweep sets it, and a stale job falls back to the alternate group where route and window allow it or ends NO_PRINTER.
R125: each job in flight awaits its outcome, and one found waiting faults its printer NO_OUTCOME, which ends the jobs in
flight IN_DOUBT (R128). R88: each hold is judged idle, and an idle one is released at the second sweep. R110: a line in
WAITING or BETWEEN starts its round. The premises keep the duties apart: no outcome is owed for the others, no hold is
idle for aging, no head job is aged for holds, and for R128's in-doubt effects one printer alone owes and no head job is
aged. -/
def Obligations.AgingOfTheHeadJob : Prop :=
  ∀ (s : State) (blocks windows printers : List Nat), live s = true → (s.office = .running ∨ s.office = .exchangeFault) →
    PlaceLaw s → ∃ t : State, exec (.sweep blocks windows printers) s = .next t ∧
    ((∀ p : PrinterId, owedJobs s p = []) →
      ((∀ (p : PrinterId) (h : Hold), s.printers[p].hold = some h → h.idle = false) →
        ∀ (w : WindowId) (i : JobIx) (rest : List JobIx) (j : Job), s.queues[w] = i :: rest → jobAt s i = some j →
          let exempt := agingExempt s w = true
          let fallsBack := j.target = .home ∧ s.windows[w].alternateGroup ≠ none ∧ s.routes[j.ticketClass].valid = true ∧
            s.routes[j.ticketClass].fallback = true
          let reason : Word := if j.target = .home then 1#32 else 2#32
          (exempt → jobAt t i = some { j with aged := false } ∧ t.queues[w] = s.queues[w]) ∧
          (¬exempt → j.aged = false → jobAt t i = some { j with aged := true } ∧ t.queues[w] = s.queues[w]) ∧
          (¬exempt → j.aged = true → fallsBack →
            jobAt t i = some { j with target := .alternate, aged := false } ∧ t.queues[w] = s.queues[w]) ∧
          (¬exempt → j.aged = true → ¬fallsBack → jobAt t i = none ∧ t.queues[w] = rest ∧
            entryNow s j.slip j.tag .noPrinter (reason ||| clampedBit j.clamped) (jobResultBytes (tokenOf s i) j) ∈
              t.port.returns)) ∧
      (∀ (p : PrinterId) (i : JobIx) (j : Job), i ∈ s.printers[p].outstanding → jobAt s i = some j →
        (j.state = .sending ∨ j.state = .sent) → jobAt t i = some { j with outcomeWait := true }) ∧
      (HoldLaw s → RollLaw s →
        (∀ (w : WindowId) (i : JobIx) (j : Job), s.queues[w].head? = some i → jobAt s i = some j → j.aged = false) →
        ∀ p : PrinterId, t.printers[p].hold =
          match s.printers[p].hold with
          | none => none
          | some h =>
            if holdIdle s p h.window = true then if h.idle then none else some { h with idle := true }
            else some { h with idle := false }) ∧
      ∀ l : LineId,
        let old := s.lines[l]
        let starts (roll : RollCall) : Line :=
          let mask := roll.runningSet &&& ~~~roll.known
          if old.activity = .free then
            { old with roll := roll, activity := .recalling mask, frameBuffer := frameBytes 0#8 0x04#8 [mask],
                       replyTimer := none }
          else { old with roll := roll }
        t.lines[l] =
          match old.roll.phase with
          | .waiting => starts { phase := .round, number := 1, waitingSet := 0#8, runningSet := old.roll.waitingSet,
                                 pendingSet := 0#8, known := 0#8 }
          | .between => starts { old.roll with phase := .round, number := old.roll.number + 1 }
          | .none | .round => old) ∧
    ∀ (p : PrinterId) (i : JobIx) (later : List JobIx), owedJobs s p = i :: later →
      let record := s.printers[p].fault
      let ended := ∀ (k : JobIx) (j : Job), k ∈ s.printers[p].outstanding → jobAt s k = some j →
        (j.state = .sending ∨ j.state = .sent) → jobAt t k = none ∧
          entryNow s j.slip j.tag .inDoubt (clampedBit j.clamped) (jobResultBytes (tokenOf s k) j) ∈ t.port.returns
      ((s.printers[p].state = .ready ∨ s.printers[p].state = .empty ∨ s.printers[p].state = .recovering) →
        t.printers[p].state = .faulted ∧ t.printers[p].fault.state = .opened ∧
        t.printers[p].fault.first = some .noOutcome ∧ t.printers[p].fault.latest = some .noOutcome ∧
        t.printers[p].fault.clock = s.settings.clock ∧ t.printers[p].fault.further = 0 ∧
        t.printers[p].fault.token = some (tokenOf s i) ∧ t.printers[p].fault.serial = serialOf s i ∧
        t.port.printerMarks[p] = .withCause ∧ ended) ∧
      (s.printers[p].state = .faulted → t.printers[p].state = .faulted ∧
        t.printers[p].fault = { record with state := .opened, latest := some .noOutcome,
                                            further := min 255 (record.further + 1) } ∧
        t.port.printerMarks[p] = .withCause ∧ ended) ∧
      (s.printers[p].state ≠ .unconfigured → s.printers[p].state ≠ .offline →
        (∀ q : PrinterId, q ≠ p → owedJobs s q = []) →
        (∀ (w : WindowId) (k : JobIx) (j : Job), s.queues[w].head? = some k → jobAt s k = some j → j.aged = false) →
        ∀ l : List (JobIx × Job), InFlightInOrder s p l → InDoubtEffects s t p l)

/-! ### The Exchange Port (chapter 1) -/

/-- R7, R11, R12 and R17: the Slip Reader requests a fetch, and the free engine starts the first access that waits: the
recorded retry, the return at the head, a marked table entry, the header, the fetch. A table or header write clears its
mark and takes its content as the state then stands, in a retry too (that a retry takes it anew is log 22). -/
def Obligations.EngineStartsFirstWaiting : Prop :=
  ∀ s : State, live s = true → (s.office = .running ∨ s.office = .hold) →
    let engineRuns (a : Access) : State := { s with port := { s.port with engine := some a } }
    let headerStarts : State := { s with port := { s.port with
      engine := some (.header (headerBytes s)), headerMark := false } }
    let printerStarts (p : PrinterId) : State := { s with port := { s.port with
      engine := some (.printerEntry p (printerEntryBytes s p) (s.port.printerMarks[p] == .withCause))
      printerMarks := put s.port.printerMarks p .clear } }
    let stockStarts (k : KindId) : State := { s with port := { s.port with
      engine := some (.stockEntry k (stockEntryBytes s k) (s.port.stockMarks[k] == .withCause))
      stockMarks := put s.port.stockMarks k .clear } }
    (s.port.reader = .idle → s.port.intake ≠ [] →
      exec .fetchRequest s = .next { s with port := { s.port with reader := .fetching } }) ∧
    (s.port.engine = none →
      (∀ n, s.port.failed = some (.fetch n) → exec .engineAccessStart s = .next (engineRuns (.fetch n))) ∧
      (∀ e rest, s.port.returns = e :: rest → (s.port.failed = none ∨ s.port.failed = some .returning) →
        exec .engineAccessStart s = .next (engineRuns (.returnFields e))) ∧
      (s.port.failed = some .header → exec .engineAccessStart s = .next headerStarts) ∧
      (∀ p, s.port.failed = some (.printerEntry p) → exec .engineAccessStart s = .next (printerStarts p)) ∧
      (∀ k, s.port.failed = some (.stockEntry k) → exec .engineAccessStart s = .next (stockStarts k)) ∧
      (s.port.failed = none → s.port.returns = [] →
        (∀ p : PrinterId, s.port.printerMarks[p] ≠ .clear → (∀ q : PrinterId, q < p → s.port.printerMarks[q] = .clear) →
          exec .engineAccessStart s = .next (printerStarts p)) ∧
        ((∀ p : PrinterId, s.port.printerMarks[p] = .clear) →
          (∀ k : KindId, s.port.stockMarks[k] ≠ .clear → (∀ q : KindId, q < k → s.port.stockMarks[q] = .clear) →
            exec .engineAccessStart s = .next (stockStarts k)) ∧
          ((∀ k : KindId, s.port.stockMarks[k] = .clear) →
            (s.port.headerMark = true → exec .engineAccessStart s = .next headerStarts) ∧
            (∀ n rest, s.port.headerMark = false → s.port.reader = .fetching → s.port.intake = n :: rest →
              exec .engineAccessStart s = .next (engineRuns (.fetch n)))))))

/-- R10, R12, R13 and R17: a return's result fields are written before its Return Map byte, and the completion of that byte
removes the entry, frees the slip, counts it, and sets RET and the header mark. A completed write frees the engine and
clears a recorded failure; a table write then sets the cause it carried. -/
def Obligations.AccessesCompleteInOrder : Prop :=
  (∀ (s : State) (e : ReturnEntry), live s = true →
    (s.port.engine = some (.returnFields e) → exec .returnResultWritten s = .next
      { s with port := { s.port with engine := some (.returnMap e) } }) ∧
    (s.port.engine = some (.returnMap e) → ∃ t : State, exec .returnComplete s = .next t ∧
      t = { s with port := { s.port with
        engine := none, failed := none, returns := s.port.returns.drop 1, held := t.port.held,
        slipsReturned := s.port.slipsReturned + 1#32, attn := s.port.attn ||| 0b0000001#7, headerMark := true } } ∧
      ∀ m : SlipId, t.port.held.getLsbD m.val = (s.port.held.getLsbD m.val && m != e.slip))) ∧
  (∀ s : State, live s = true →
    (∀ content, s.port.engine = some (.header content) → exec .headerWriteComplete s = .next
      { s with port := { s.port with engine := none, failed := none } }) ∧
    (∀ p content cause, s.port.engine = some (.printerEntry p content cause) → exec .tableWriteComplete s = .next
      { s with port := { s.port with
        engine := none, failed := none, attn := if cause then s.port.attn ||| 0b0000010#7 else s.port.attn } }) ∧
    (∀ k content cause, s.port.engine = some (.stockEntry k content cause) → exec .tableWriteComplete s = .next
      { s with port := { s.port with
        engine := none, failed := none, attn := if cause then s.port.attn ||| 0b0000100#7 else s.port.attn } }))

/-- Table 1-2 and R10: what each access writes lies in its own region: a header write in the header's 256 bytes, a table
write in its entry's 32 or 16, a return in its slip outside the request area and the kind byte, then in its Return Map
byte. A fetch writes nothing. That every access the engine carries has these lengths is `AreaLaw`. -/
def Obligations.AccessesWriteTheirRegions : Prop :=
  (∀ (s : State) (p : PrinterId) (k : KindId) (area : List Byte), (headerBytes s).length = 256 ∧
    (printerEntryBytes s p).length = 32 ∧ (stockEntryBytes s k).length = 16 ∧ (resultArea area).length = 320) ∧
  ∀ (a : Access) (offset : Nat) (bytes : List Byte), (offset, bytes) ∈ accessWrites a →
    match a with
    | .fetch _ => False
    | .returnFields e => e.area.length = 320 → bytes ≠ [] ∧ 0x1000 + e.slip.val * 0x200 < offset ∧
        (offset + bytes.length ≤ 0x1000 + e.slip.val * 0x200 + 16 ∨
          offset = 0x1000 + e.slip.val * 0x200 + 192 ∧ bytes.length = 320)
    | .returnMap e => offset = 0x100 + e.slip.val ∧ bytes = [1#8]
    | .header content => offset = 0 ∧ bytes = content ∧ (content.length = 256 → offset + bytes.length = 0x100)
    | .printerEntry p content _ => offset = 0x200 + p.val * 32 ∧ bytes = content ∧
        (content.length = 32 → offset + bytes.length = 0x200 + (p.val + 1) * 32)
    | .stockEntry k content _ => offset = 0x400 + k.val * 16 ∧ bytes = content ∧
        (content.length = 16 → offset + bytes.length = 0x400 + (k.val + 1) * 16)

/-- R15, R23 and R24: a failed access is abandoned and recorded for retry, the office enters EXCHANGE_FAULT with its lamp
lit, and XERR is set; the intake, the held slips and the Return Hold list stand. -/
def Obligations.FailedAccessFaultsExchange : Prop :=
  ∀ (s : State) (a : Access), live s = true → s.port.engine = some a →
    ∃ t : State, exec .accessFail s = .next t ∧
      t = { s with
        office := .exchangeFault
        lamp := true
        port := { s.port with engine := none, failed := t.port.failed, attn := s.port.attn ||| 0b0010000#7,
                              headerMark := t.port.headerMark, printerMarks := t.port.printerMarks,
                              stockMarks := t.port.stockMarks } } ∧
      (match a with
      | .fetch n => t.port.failed = some (.fetch n) ∧ t.port.headerMark = s.port.headerMark
      | .returnFields _ | .returnMap _ => t.port.failed = some .returning ∧ t.port.headerMark = s.port.headerMark
      | .header _ => t.port.failed = some .header ∧ t.port.headerMark = true
      | .printerEntry p _ cause => t.port.failed = some (.printerEntry p) ∧
          (cause = true → t.port.printerMarks[p] = .withCause) ∧ t.port.printerMarks[p] ≠ .clear
      | .stockEntry k _ cause => t.port.failed = some (.stockEntry k) ∧
          (cause = true → t.port.stockMarks[k] = .withCause) ∧ t.port.stockMarks[k] ≠ .clear)

/-! ### Slips that make, withdraw or report (chapters 3, 4, 7, 8 and 9)

A slip command is the completion of the fetch that read the slip: `fetching s n`. -/

/-- R35 to R38, R54 and R6: an order in range, of an open window, on a valid route that admits the window, below the quota,
takes the top record with its next generation and joins the tail of its window's queue, and nothing else changes. -/
def Obligations.IssueIsAccepted : Prop :=
  ∀ (s : State) (n : SlipId) (tag : Word) (r : IssueRequest) (w : WindowId) (c : ClassId) (v : ServiceClass) (x : Tender)
    (i : JobIx) (rest : List JobIx),
    fetching s n → s.freeStack = i :: rest →
    r.window.toNat = w.val → r.ticketClass.toNat = c.val → serviceOf r.service = some v → tenderOf r.tender = some x →
    1 ≤ r.quantity.toNat → r.quantity.toNat ≤ 9 → r.baseFare.toNat ≤ 999999 → r.faceLength.toNat ≤ 96 →
    s.windows[w].enabled = true → s.routes[c].valid = true → s.routes[c].mask.getLsbD w.val = true →
    jobCount s w < s.windows[w].quota →
    let fare := passengerFare r.baseFare.toNat (min r.discount.toNat 10000) r.minimumFare s.settings.roundingStep
      s.settings.minimumFare
    let next := s.jobs[i].generation + 1
    let service : ServiceClass :=
      match s.routes[c].forcing with
      | .byOrder => v
      | .alwaysStandard => .standard
      | .alwaysExpress => .express
    let job : Job :=
      { slip := n, tag := tag, window := some w, sale := r.sale, lastInSale := r.lastInSale, ticketClass := c,
        kind := s.routes[c].kind, service := service, tender := some x, quantity := r.quantity.toNat, fare := fare,
        amount := fare * r.quantity.toNat, clamped := decide (10000 < r.discount.toNat),
        face := r.face.take r.faceLength.toNat, shift := s.current[w].shift, state := .queued, target := .home,
        aged := false, printer := none, serial := none, reprints := 0, outcomeWait := false }
    exec (.issue tag r) s = .next (rewriteChecks s { s with
      port := portAfterTaking s.port
      freeStack := rest
      jobs := put s.jobs i { generation := if i.val = 63 ∧ next = 3 then 0 else next, job := some job }
      current := put s.current w { s.current[w] with openJobs := s.current[w].openJobs + 1 }
      queues := put s.queues w (s.queues[w] ++ [i]) })

/-- R8 and R35: an empty Free Job Stack makes the slip wait; otherwise the first test that fails answers the slip, its
detail naming the first field in error or the reason, with CLAMPED after test 1 where the discount was clamped. -/
def Obligations.IssueWaitsOrIsRefused : Prop :=
  ∀ (s : State) (n : SlipId) (tag : Word) (r : IssueRequest), fetching s n →
    let badField : Option Nat :=
      if 24 ≤ r.window.toNat then some 0 else if 64 ≤ r.ticketClass.toNat then some 1
      else if 2 ≤ r.service.toNat then some 5 else if 4 ≤ r.tender.toNat then some 6
      else if r.quantity.toNat = 0 ∨ 9 < r.quantity.toNat then some 7
      else if 999999 < r.baseFare.toNat then some 8 else if 96 < r.faceLength.toNat then some 14 else none
    let clamped : Word := if 10000 < r.discount.toNat then 0x80000000#32 else 0#32
    (s.freeStack = [] → exec (.issue tag r) s = .next
      { s with port := { s.port with engine := none, failed := none, reader := .waitingRecord } }) ∧
    (s.freeStack ≠ [] →
      (∀ offset, badField = some offset →
        exec (.issue tag r) s = .next (answered s (entryNow s n tag .badField (BitVec.ofNat 32 offset) []))) ∧
      ∀ (w : WindowId) (c : ClassId), badField = none → r.window.toNat = w.val → r.ticketClass.toNat = c.val →
        let refused (code : ResultCode) (reason : Word) : Host.Outcome State Fault Refusal :=
          .next (answered s (entryNow s n tag code (reason ||| clamped) []))
        (s.windows[w].enabled = false → exec (.issue tag r) s = refused .windowClosed 0#32) ∧
        (s.windows[w].enabled = true →
          (s.routes[c].valid = false → exec (.issue tag r) s = refused .routeRefused 1#32) ∧
          (s.routes[c].valid = true →
            (s.routes[c].mask.getLsbD w.val = false → exec (.issue tag r) s = refused .routeRefused 2#32) ∧
            (s.routes[c].mask.getLsbD w.val = true → s.windows[w].quota ≤ jobCount s w →
              exec (.issue tag r) s = refused .windowFull 0#32))))

/-- R51 to R53: VOID withdraws the unsent jobs of the window's sale and no other job, each with its WITHDRAWN entry and, for
the last in the sale, the release of the SALE_END hold; it is answered DONE behind them with the counts of jobs withdrawn
and of jobs found printing. A window above 23 is BAD_FIELD (its result area of 0 is the model's choice, log 12). -/
def Obligations.VoidWithdrawsUnsentJobs : Prop :=
  ∀ (s : State) (n : SlipId) (tag : Word) (window : Byte) (sale : BitVec 16), fetching s n →
    (24 ≤ window.toNat →
      exec (.void tag window sale) s = .next (answered s (entryNow s n tag .badField 0#32 []))) ∧
    ∀ w : WindowId, window.toNat = w.val →
      let unsent := unsentJobs s w fun j => j.sale == sale
      let printing := printingJobs s w fun j => j.sale == sale
      ∃ t : State, exec (.void tag window sale) s = .next t ∧ still t = still s ∧
        (∀ i ∈ unsent, jobAt t i = none ∧ ∀ j : Job, jobAt s i = some j →
          entryNow s j.slip j.tag .withdrawn (clampedBit j.clamped) (jobResultBytes (tokenOf s i) j) ∈ t.port.returns ∧
          (j.window = some w → j.lastInSale = true → ∀ (p : PrinterId) (h : Hold), s.printers[p].hold = some h →
            h.window = w → h.kind = .saleEnd sale → t.printers[p].hold = none)) ∧
        (∀ i, i ∉ unsent → (jobAt t i).map (fun j => { j with aged := false }) =
          (jobAt s i).map fun j => { j with aged := false }) ∧
        t.magazines = s.magazines ∧ t.register = s.register ∧
        t.port.returns.getLast? =
          some (entryNow s n tag .done 0#32 [BitVec.ofNat 8 unsent.length, BitVec.ofNat 8 printing.length])

/-- R62 and R67: a REFUND raises the refund value and count of its tender in the window's CURRENT tally, each stopping at
its largest value with the saturated flag, and changes no other column or window. -/
def Obligations.RefundRaisesItsColumns : Prop :=
  ∀ (s : State) (n : SlipId) (tag : Word) (r : RefundRequest) (w : WindowId) (x : Tender), fetching s n →
    r.window.toNat = w.val → tenderOf r.tender = some x → 1 ≤ r.value.toNat → r.value.toNat ≤ 8999991 →
    ∃ t : State, exec (.refund tag r) s = .next t ∧
      t = { s with
        port := portWithReturn (portAfterTaking s.port)
          (entryNow s n tag .done 0#32 (refundArea t.current[w] x r))
        current := t.current
        checkWords := t.checkWords } ∧
      columnsOf t.current[w] x =
        { columnsOf s.current[w] x with
          refunds := min 4294967295 ((columnsOf s.current[w] x).refunds + r.value.toNat)
          refundCount := min 65535 ((columnsOf s.current[w] x).refundCount + 1) } ∧
      (∀ y : Tender, y ≠ x → columnsOf t.current[w] y = columnsOf s.current[w] y) ∧
      t.current[w].saturated = (s.current[w].saturated ||
        decide (4294967295 < (columnsOf s.current[w] x).refunds + r.value.toNat) ||
        decide (65535 < (columnsOf s.current[w] x).refundCount + 1)) ∧
      t.current[w].shift = s.current[w].shift ∧ t.current[w].openJobs = s.current[w].openJobs ∧
      t.current[w].float = s.current[w].float ∧ t.current[w].spoils = s.current[w].spoils ∧
      t.current[w].firstIssue = s.current[w].firstIssue ∧ t.current[w].lastIssue = s.current[w].lastIssue ∧
      ∀ v : WindowId, v ≠ w → t.current[v] = s.current[v]

/-- R68, R153, R7 and R178: READ TALLY, READ SPOILS and a slip of no known kind are answered at once and change nothing
else; a window above 23 or an index above 255 is BAD_FIELD, whose result area of 0 is the model's choice (log 12). -/
def Obligations.ReadingSlipsAreAnswered : Prop :=
  ∀ (s : State) (n : SlipId) (tag : Word), fetching s n →
    (∀ (window : Byte) (w : WindowId), window.toNat = w.val →
      exec (.readTally tag window) s = .next (answered s (entryNow s n tag .done 0#32 (readTallyArea s w)))) ∧
    (∀ window : Byte, 24 ≤ window.toNat →
      exec (.readTally tag window) s = .next (answered s (entryNow s n tag .badField 0#32 []))) ∧
    (∀ index : BitVec 16, exec (.readSpoils tag index) s = .next
      (if index.toNat ≤ 255 then answered s (entryNow s n tag .done 0#32 (readSpoilsBytes s.register index.toNat))
      else answered s (entryNow s n tag .badField 0#32 []))) ∧
    ∀ kind : Byte, (kind.toNat = 0 ∨ 18 < kind.toNat) →
      exec (.badKind tag kind) s = .next (answered s (entryNow s n tag .badKind (BitVec.ofNat 32 kind.toNat) []))

/-- R147 and R148: a LOAD STOCK taken replaces the printer's magazine with an unused one of the range, and an EMPTY printer
becomes RECOVERING and is named in a roll-call request; an UNLOAD STOCK taken clears the magazine record, and is refused
NOT_ALLOWED with its reason where the printer or the magazine does not allow it (that refusal's result area of 0 is the
model's choice, log 12). LOAD STOCK's refusals are not stated here; the totals of R149 are in `LowStockLaw`. -/
def Obligations.LoadAndUnloadReplaceMagazine : Prop :=
  (∀ (s : State) (n : SlipId) (tag : Word) (r : LoadStockRequest) (p : PrinterId) (k : KindId), fetching s n →
    r.printer.toNat = p.val → r.kind.toNat = k.val → 1 ≤ r.first.toNat → 1 ≤ r.count.toNat → r.count.toNat ≤ 2000 →
    r.first.toNat + r.count.toNat - 1 ≤ 999999 →
    (s.printers[p].state = .offline ∨ s.printers[p].state = .empty) → s.printers[p].outstanding = [] →
    (∀ q : PrinterId, q ≠ p → s.magazines[q].loaded = true → s.magazines[q].kind = k →
      s.magazines[q].last < r.first.toNat ∨ r.first.toNat + r.count.toNat - 1 < s.magazines[q].first) →
    let magazine : Magazine :=
      { loaded := true, kind := k, first := r.first.toNat, last := r.first.toNat + r.count.toNat - 1,
        next := r.first.toNat, issued := 0, spoiled := 0, inDoubt := 0, notes := [], unverified := none,
        frozen := false }
    ∃ t : State, exec (.loadStock tag r) s = .next t ∧ still t = still s ∧
      t.magazines = put s.magazines p magazine ∧
      t.printers = (if s.printers[p].state = .empty then put s.printers p { s.printers[p] with state := .recovering }
        else s.printers) ∧
      (s.printers[p].state = .empty → isSelected t p = true) ∧ (s.printers[p].state = .offline → t.lines = s.lines) ∧
      t.port.returns = s.port.returns ++ [entryNow s n tag .done 0#32 (loadBytes magazine s.magazines[p])] ∧
      t.jobs = s.jobs ∧ t.queues = s.queues ∧ t.freeStack = s.freeStack ∧ t.register = s.register ∧
      t.current = s.current ∧ t.closing = s.closing ∧ t.dayTotals = s.dayTotals) ∧
  (∀ (s : State) (n : SlipId) (tag : Word) (printer : Byte) (p : PrinterId), fetching s n → printer.toNat = p.val →
    let open_ := (s.printers[p].state = .offline ∨ s.printers[p].state = .empty) ∧ s.printers[p].outstanding = []
    (¬open_ → exec (.unloadStock tag printer) s = .next (answered s (entryNow s n tag .notAllowed 1#32 []))) ∧
    (open_ → s.magazines[p].loaded = false →
      exec (.unloadStock tag printer) s = .next (answered s (entryNow s n tag .notAllowed 3#32 []))) ∧
    (open_ → s.magazines[p].loaded = true → ∃ t : State, exec (.unloadStock tag printer) s = .next t ∧ still t = still s ∧
      t.magazines = put s.magazines p
        { loaded := false, kind := 0, first := 0, last := 0, next := 0, issued := 0, spoiled := 0, inDoubt := 0,
          notes := [], unverified := none, frozen := false } ∧
      t.port.returns = s.port.returns ++ [entryNow s n tag .done 0#32 (unloadBytes s.magazines[p])] ∧
      t.printers = s.printers ∧ t.lines = s.lines ∧ t.jobs = s.jobs ∧ t.queues = s.queues ∧ t.freeStack = s.freeStack ∧
      t.register = s.register ∧ t.current = s.current ∧ t.closing = s.closing ∧ t.dayTotals = s.dayTotals))

/-- R109 and R114: a ROLL CALL taken is held on its line and puts its printers in the waiting set; a printer out of service
refuses it NOT_ALLOWED, and a running roll call or a held slip BUSY (the result areas of 0 are the model's choice, log
12). -/
def Obligations.RollCallIsHeld : Prop :=
  ∀ (s : State) (n : SlipId) (tag : Word) (line mask : Byte) (l : LineId), fetching s n → line.toNat = l.val →
    mask ≠ 0#8 →
    let outOfUse := ∃ a : AddressIx, mask.getLsbD a.val = true ∧
      (s.printers[printerAt l a].state = .unconfigured ∨ s.printers[printerAt l a].state = .offline ∨
        s.printers[printerAt l a].state = .faulted)
    let running := s.lines[l].rollSlip ≠ none ∨ s.lines[l].roll.phase = .round ∨ s.lines[l].roll.phase = .between
    (outOfUse → exec (.rollCall tag line mask) s = .next (answered s (entryNow s n tag .notAllowed 0#32 []))) ∧
    (¬outOfUse → running → exec (.rollCall tag line mask) s = .next (answered s (entryNow s n tag .busy 0#32 []))) ∧
    (¬outOfUse → ¬running → exec (.rollCall tag line mask) s = .next { s with
      port := portAfterTaking s.port
      lines := put s.lines l { s.lines[l] with
        rollSlip := some { slip := n, tag := tag, mask := mask, results := Vector.replicate 8 none }
        roll := { s.lines[l].roll with
          phase := .waiting
          waitingSet := if s.lines[l].roll.phase = .none then mask else s.lines[l].roll.waitingSet ||| mask } } })

/-- R132, R40, R37 and R8: a TEST PRINT waits for a job record; a field out of range is BAD_FIELD naming it, and the printer's
state or load refuses it NOT_ALLOWED or BUSY (the result areas of 0 are the model's choice, log 12). Taken, it joins its
printer's outstanding list as GRANTED with a record of its own, and the printer's entry is marked; no queue, tally, hold
or arbiter changes. -/
def Obligations.TestPrintIsAccepted : Prop :=
  (∀ (s : State) (n : SlipId) (tag : Word) (r : TestPrintRequest), fetching s n →
    (s.freeStack = [] → exec (.testPrint tag r) s = .next
      { s with port := { s.port with engine := none, failed := none, reader := .waitingRecord } }) ∧
    (s.freeStack ≠ [] → 16 ≤ r.printer.toNat →
      exec (.testPrint tag r) s = .next (answered s (entryNow s n tag .badField 0#32 []))) ∧
    (s.freeStack ≠ [] → r.printer.toNat < 16 → 96 < r.faceLength.toNat →
      exec (.testPrint tag r) s = .next (answered s (entryNow s n tag .badField 1#32 [])))) ∧
  ∀ (s : State) (n : SlipId) (tag : Word) (r : TestPrintRequest) (p : PrinterId) (i : JobIx) (rest : List JobIx),
    fetching s n → s.freeStack = i :: rest → r.printer.toNat = p.val → r.faceLength.toNat ≤ 96 →
    let allowed := s.printers[p].state = .ready ∧ s.magazines[p].loaded = true ∧ s.magazines[p].frozen = false
    let idle := s.printers[p].outstanding.length < 2 ∧ s.printers[p].hold = none ∧ isSelected s p = false ∧
      transmitted s.magazines[p] + reserved s p < remaining s.magazines[p]
    let next := s.jobs[i].generation + 1
    (¬allowed → exec (.testPrint tag r) s = .next (answered s (entryNow s n tag .notAllowed 0#32 []))) ∧
    (allowed → ¬idle → exec (.testPrint tag r) s = .next (answered s (entryNow s n tag .busy 0#32 []))) ∧
    (allowed → idle → ∃ (t : State) (j : Job), exec (.testPrint tag r) s = .next t ∧
      t = { s with
        port := { portAfterTaking s.port with printerMarks := t.port.printerMarks }
        freeStack := rest
        jobs := put s.jobs i { generation := if i.val = 63 ∧ next = 3 then 0 else next, job := some j }
        printers := put s.printers p { s.printers[p] with outstanding := s.printers[p].outstanding ++ [i] } } ∧
      t.port.printerMarks[p] ≠ .clear ∧
      j.slip = n ∧ j.tag = tag ∧ j.window = none ∧ j.kind = s.magazines[p].kind ∧ j.service = .standard ∧ j.amount = 0 ∧
      j.face = r.face.take r.faceLength.toNat ∧ j.state = .granted ∧ j.printer = some p ∧ j.serial = none)

/-- R118 and R119: ENTER takes an OFFLINE printer to RECOVERING and names it in a roll-call request; LEAVE takes a READY,
EMPTY or FAULTED printer with no job outstanding to OFFLINE, out of every roll-call set; elsewhere the slip is answered
NOT_ALLOWED, or BUSY for a LEAVE with jobs outstanding. -/
def Obligations.ServiceEntersAndLeaves : Prop :=
  ∀ (s : State) (n : SlipId) (tag : Word) (printer : Byte) (p : PrinterId), fetching s n → printer.toNat = p.val →
    let answer (code : ResultCode) : Host.Outcome State Fault Refusal :=
      .next (answered s (entryNow s n tag code 0#32 (printerEntryBytes s p)))
    let inUse := s.printers[p].state = .ready ∨ s.printers[p].state = .empty ∨ s.printers[p].state = .faulted
    (s.printers[p].state ≠ .offline → exec (.printerServiceEnter tag printer) s = answer .notAllowed) ∧
    (s.printers[p].state = .offline → ∃ t : State, exec (.printerServiceEnter tag printer) s = .next t ∧
      still t = still s ∧ t.printers = put s.printers p { s.printers[p] with state := .recovering } ∧
      isSelected t p = true ∧ t.port.printerMarks[p] ≠ .clear ∧ t.magazines = s.magazines ∧ t.jobs = s.jobs ∧
      t.queues = s.queues ∧ t.freeStack = s.freeStack ∧
      t.port.returns = s.port.returns ++ [entryNow s n tag .done 0#32 (printerEntryBytes t p)]) ∧
    (¬inUse → exec (.printerServiceLeave tag printer) s = answer .notAllowed) ∧
    (inUse → s.printers[p].outstanding ≠ [] → exec (.printerServiceLeave tag printer) s = answer .busy) ∧
    (inUse → s.printers[p].outstanding = [] → ∃ t : State, exec (.printerServiceLeave tag printer) s = .next t ∧
      still t = still s ∧ t.printers[p].state = .offline ∧ t.printers[p].notReady = none ∧
      (s.printers[p].state = .ready → t.printers[p].hold = none) ∧
      (s.printers[p].state = .faulted → t.printers[p].fault = .clear ∧ t.port.printerMarks[p] = .withCause) ∧
      (s.printers[p].state ≠ .faulted → t.printers[p].fault = s.printers[p].fault) ∧
      isSelected t p = false ∧ t.lineRecords[p].clearRequest = false ∧
      (∀ q : PrinterId, q ≠ p → t.printers[q] = s.printers[q]) ∧ t.magazines = s.magazines ∧ t.jobs = s.jobs ∧
      t.queues = s.queues ∧ t.freeStack = s.freeStack ∧
      t.port.returns = s.port.returns ++ [entryNow s n tag .done 0#32 (printerEntryBytes t p)])

/-- R118 and R120: ACKNOWLEDGE of a FAULTED printer's OPEN record makes it ACKNOWLEDGED and marks the entry with PFLT; a
record acknowledged already stands; elsewhere NOT_ALLOWED; an unknown action is BAD_FIELD naming the action. -/
def Obligations.AcknowledgeMovesOpenRecord : Prop :=
  ∀ (s : State) (n : SlipId) (tag : Word) (printer action : Byte) (p : PrinterId), fetching s n → printer.toNat = p.val →
    action ≠ 1#8 → action ≠ 2#8 →
    let answer (code : ResultCode) (detail : Word) : Host.Outcome State Fault Refusal :=
      .next (answered s (entryNow s n tag code detail (printerEntryBytes s p)))
    (action ≠ 3#8 → exec (.printerServiceAcknowledge tag printer action) s = answer .badField 1#32) ∧
    (action = 3#8 → s.printers[p].state ≠ .faulted →
      exec (.printerServiceAcknowledge tag printer action) s = answer .notAllowed 0#32) ∧
    (action = 3#8 → s.printers[p].state = .faulted → s.printers[p].fault.state ≠ .opened →
      exec (.printerServiceAcknowledge tag printer action) s = answer .done 0#32) ∧
    (action = 3#8 → s.printers[p].state = .faulted → s.printers[p].fault.state = .opened →
      ∃ t : State, exec (.printerServiceAcknowledge tag printer action) s = .next t ∧
        t = { s with
          printers := put s.printers p
            { s.printers[p] with fault := { s.printers[p].fault with state := .acknowledged } }
          checkWords := t.checkWords
          port := { portWithReturn (portAfterTaking s.port)
                      (entryNow s n tag .done 0#32 (printerEntryBytes t p)) with
                    printerMarks := put s.port.printerMarks p .withCause } })

/-- R156 to R161, R59 and R61: a CASH-UP closes the CURRENT shift and waits while its window has jobs, is stated at once with
none, is refused BUSY while a closed shift still waits, and states a closed shift whose jobs have all ended, classed by the
exact variance and the tolerance in force. With withdraw-unsent set the shift's unsent jobs are withdrawn first, and the
statement follows them where no job is left (R158). R159: the end of a closed shift's last job brings the statement,
behind that job's entry, shown for the job a VOID withdraws. BUSY's result area of 0 is the model's choice (log 12). -/
def Obligations.CashUpClosesShift : Prop :=
  (∀ (s : State) (n : SlipId) (tag : Word) (r : CashUpRequest) (w : WindowId), fetching s n → r.window.toNat = w.val →
    (r.withdrawUnsent = 0#8 ∨ r.withdrawUnsent = 1#8) →
    let cashUp : PendingCashUp :=
      { slip := n, tag := tag, declaredCash := r.declaredCash.toNat, declaredWarrants := r.declaredWarrants.toNat }
    let next := if s.current[w].shift = 65535 then 1 else s.current[w].shift + 1
    let stated (c : Tally) (currentShift : Nat) := statementOf s w c currentShift cashUp
    (s.closing[w] = none → r.withdrawUnsent = 0#8 →
      (0 < jobCount s w → exec (.cashUp tag r) s = .next (rewriteChecks s { s with
        port := portAfterTaking s.port
        closing := put s.closing w (some { s.current[w] with openJobs := jobCount s w })
        current := put s.current w (.opened next s.windows[w].float)
        cashUps := put s.cashUps w (some cashUp) })) ∧
      (jobCount s w = 0 →
        let closed : Tally := { s.current[w] with openJobs := 0 }
        exec (.cashUp tag r) s = .next (rewriteChecks s { s with
          port := portWithReturn (portAfterTaking s.port) (stated closed next).1
          current := put s.current w (.opened next s.windows[w].float)
          cashUps := put s.cashUps w none
          dayTotals := (stated closed next).2 }))) ∧
    (s.closing[w] = none → r.withdrawUnsent = 1#8 → PlaceLaw s → CashUpLaw s →
      let unsent := unsentJobs s w fun j => j.shift == s.current[w].shift
      let closed (count : Nat) : Tally := { s.current[w] with openJobs := count }
      ∃ t : State, exec (.cashUp tag r) s = .next t ∧ still t = still s ∧
        (∀ i ∈ unsent, jobAt t i = none ∧ ∀ j : Job, jobAt s i = some j →
          entryNow s j.slip j.tag .withdrawn (clampedBit j.clamped) (jobResultBytes (tokenOf s i) j) ∈ t.port.returns) ∧
        (∀ i, i ∉ unsent → (jobAt t i).map (fun j => { j with aged := false }) =
          (jobAt s i).map fun j => { j with aged := false }) ∧
        t.current = put s.current w (.opened next s.windows[w].float) ∧
        (unsent.length < jobCount s w → t.closing = put s.closing w (some (closed (jobCount s w - unsent.length))) ∧
          t.cashUps = put s.cashUps w (some cashUp) ∧ t.dayTotals = s.dayTotals) ∧
        (unsent.length = jobCount s w → t.closing = s.closing ∧ t.cashUps = s.cashUps ∧
          t.port.returns.getLast? = some (stated (closed 0) next).1 ∧ t.dayTotals = (stated (closed 0) next).2)) ∧
    (∀ c : Tally, s.closing[w] = some c → 0 < c.openJobs → exec (.cashUp tag r) s = .next
      (answered s (entryNow s n tag .busy (BitVec.ofNat 32 (c.shift + 65536 * c.openJobs)) []))) ∧
    (∀ c : Tally, s.closing[w] = some c → c.openJobs = 0 → exec (.cashUp tag r) s = .next (rewriteChecks s { s with
      port := portWithReturn (portAfterTaking s.port) (stated c s.current[w].shift).1
      closing := put s.closing w none
      cashUps := put s.cashUps w none
      dayTotals := (stated c s.current[w].shift).2 }))) ∧
  ∀ (s : State) (n : SlipId) (tag : Word) (window : Byte) (sale : BitVec 16) (w : WindowId) (i : JobIx) (j : Job)
    (c : Tally) (d : PendingCashUp), fetching s n → window.toNat = w.val →
    unsentJobs s w (fun j => j.sale == sale) = [i] → jobAt s i = some j → j.window = some w → j.shift = c.shift →
    s.current[w].shift ≠ c.shift → s.closing[w] = some c → c.openJobs = 1 → s.cashUps[w] = some d →
    let stated := statementOf s w { c with openJobs := 0 } s.current[w].shift d
    let printing := printingJobs s w fun j => j.sale == sale
    ∃ t : State, exec (.void tag window sale) s = .next t ∧ jobAt t i = none ∧
      t.closing = put s.closing w none ∧ t.cashUps = put s.cashUps w none ∧ t.current = s.current ∧
      t.dayTotals = stated.2 ∧
      t.port.returns = s.port.returns ++
        [entryNow s j.slip j.tag .withdrawn (clampedBit j.clamped) (jobResultBytes (tokenOf s i) j), stated.1,
          entryNow s n tag .done 0#32 [1#8, BitVec.ofNat 8 printing.length]]

/-- R166, R25 and R154: END OF DAY is refused BUSY naming the lowest window with a closed shift (its result area of 0 is the
model's choice, log 12); otherwise it reports and
clears the Day Totals under the next day number, sets the office clock and the millisecond divider to 0, and leaves in the
register the entries a roll call may still turn UNUSED. -/
def Obligations.EndOfDayClosesTheDay : Prop :=
  ∀ (s : State) (n : SlipId) (tag : Word), fetching s n →
    (∀ w : WindowId, s.closing[w] ≠ none → (∀ v : WindowId, v < w → s.closing[v] = none) →
      exec (.endOfDay tag) s = .next (answered s (entryNow s n tag .busy (BitVec.ofNat 32 w.val) []))) ∧
    ((∀ w : WindowId, s.closing[w] = none) →
      let kept := s.register.entries.filter (isProtected s)
      exec (.endOfDay tag) s = .next (rewriteChecks s { s with
        port := portWithReturn (portAfterTaking s.port) (entryNow s n tag .done 0#32
          (dayBytes s.dayTotals (s.register.entries.length - kept.length) kept.length))
        dayTotals := .cleared (if s.dayTotals.day = 65535 then 1 else s.dayTotals.day + 1)
        settings := { s.settings with clock := 0#32 }
        time := { s.time with divider := 0 }
        register := { entries := kept, lost := 0, overflow := false } }))

/-! ### Slips that write configuration (chapters 2, 3, 5, 6 and 8) -/

/-- R30 and Table 2-4: a SET OFFICE in range writes all seven settings as one event with the check word of their record
(R167; the bytes it is computed over are left open, log 7) and keeps the clock; otherwise it changes none and
names the first field out of range, in the table's order. Either way it reports the settings in force. -/
def Obligations.SetOfficeWritesSettings : Prop :=
  ∀ (s : State) (n : SlipId) (tag : Word) (r : OfficeRequest), fetching s n →
    let bad : Option Nat :=
      if ¬(r.roundingStep.toNat = 1 ∨ r.roundingStep.toNat = 5 ∨ r.roundingStep.toNat = 10) then some 6
      else if 99999 < r.minimumFare.toNat then some 0 else if 9999 < r.tolerance.toNat then some 4
      else if r.interval.toNat = 0 ∨ 16 < r.interval.toNat then some 8 else if 3 < r.reprintLimit.toNat then some 9
      else if r.spoilRunLimit.toNat < 2 ∨ 9 < r.spoilRunLimit.toNat then some 10 else none
    let settings : OfficeSettings :=
      { roundingStep := r.roundingStep.toNat, minimumFare := r.minimumFare.toNat, tolerance := r.tolerance.toNat,
        sweepPeriod := r.sweepPeriod.toNat, interval := r.interval.toNat, reprintLimit := r.reprintLimit.toNat,
        spoilRunLimit := r.spoilRunLimit.toNat, clock := s.settings.clock, startCount := s.settings.startCount }
    exec (.setOffice tag r) s = .next
      (match bad with
      | some offset => answered s (entryNow s n tag .badField (BitVec.ofNat 32 offset) (settingsBytes s.settings))
      | none => rewriteChecks s
          { answered s (entryNow s n tag .done 0#32 (settingsBytes settings)) with settings := settings })

/-- R33, R34, R90 and R83: a SET WINDOW in range writes the window's record; one that leaves the window enabled changes
nothing else but its answer, and one that disables it leaves the window holding no printer. -/
def Obligations.SetWindowWritesRecord : Prop :=
  ∀ (s : State) (n : SlipId) (tag : Word) (r : WindowRequest) (w : WindowId) (x : WindowRecord), fetching s n →
    r.window.toNat = w.val → windowBad r = none → windowRecordOf r = some x →
    (x.enabled = true → exec (.setWindow tag r) s = .next (rewriteChecks s
      { answered s (entryNow s n tag .done 0#32 (windowRecordBytes w x)) with windows := put s.windows w x })) ∧
    (x.enabled = false → ∃ t : State, exec (.setWindow tag r) s = .next t ∧ t.windows = put s.windows w x ∧
      (∀ p : PrinterId, holds t w p = false ∧ t.printers[p].outstanding = s.printers[p].outstanding ∧
        (holds s w p = false → t.printers[p] = s.printers[p])) ∧
      t.jobs = s.jobs ∧ t.queues = s.queues ∧ t.current = s.current ∧ t.express = s.express ∧
      t.port.returns = s.port.returns ++ [entryNow s n tag .done 0#32 (windowRecordBytes w x)])

/-- R70 and R71: a SET ROUTE in range writes its class's entry and changes nothing else but its answer; refused, it changes
nothing and reports the entry in force. -/
def Obligations.SetRouteWritesEntry : Prop :=
  ∀ (s : State) (n : SlipId) (tag : Word) (r : RouteRequest) (c : ClassId), fetching s n → r.ticketClass.toNat = c.val →
    (∀ offset, routeBad r = some offset → exec (.setRoute tag r) s = .next
      (answered s (entryNow s n tag .badField (BitVec.ofNat 32 offset) (routeEntryBytes c s.routes[c])))) ∧
    ∀ (k : KindId) (f : Forcing), r.valid.toNat ≤ 1 → r.kind.toNat = k.val → r.fallback.toNat ≤ 1 →
      r.windowMask.toNat < 16777216 → forcingOf r.forcing = some f →
      let entry : RouteEntry :=
        { valid := r.valid == 1#8, kind := k, fallback := r.fallback == 1#8, mask := r.windowMask.setWidth 24,
          forcing := f }
      exec (.setRoute tag r) s = .next (rewriteChecks s
        { answered s (entryNow s n tag .done 0#32 (routeEntryBytes c entry)) with routes := put s.routes c entry })

/-- R93 and R98: a SET PRINTER of a printer out of service writes its configuration; the state follows the configured
field, and a change of state gives the line record its start values. A printer in service refuses it NOT_ALLOWED. -/
def Obligations.SetPrinterConfigures : Prop :=
  ∀ (s : State) (n : SlipId) (tag : Word) (printer configured group : Byte) (p : PrinterId) (g : GroupId), fetching s n →
    printer.toNat = p.val → configured.toNat ≤ 1 → group.toNat = g.val →
    (s.printers[p].state ≠ .offline → s.printers[p].state ≠ .unconfigured →
      exec (.setPrinter tag printer configured group) s = .next
        (answered s (entryNow s n tag .notAllowed 0#32 (printerConfigBytes p s.printers[p])))) ∧
    (s.printers[p].state = .offline ∨ s.printers[p].state = .unconfigured →
      let state : PrinterState := if configured = 1#8 then .offline else .unconfigured
      ∃ t : State, exec (.setPrinter tag printer configured group) s = .next t ∧ still t = still s ∧
        t.printers = put s.printers p { s.printers[p] with configured := configured == 1#8, group := g, state := state } ∧
        t.lineRecords = (if state = s.printers[p].state then s.lineRecords else put s.lineRecords p .start) ∧
        t.magazines = s.magazines ∧ t.jobs = s.jobs ∧ t.queues = s.queues ∧ t.arbiters = s.arbiters ∧
        t.port.returns = s.port.returns ++ [entryNow s n tag .done 0#32 (printerConfigBytes p t.printers[p])])

/-- R91 and R92: a SET LINE with every printer of the line out of service writes the line's configuration and sets its
printers' failure counts to 0; otherwise NOT_ALLOWED. -/
def Obligations.SetLineConfigures : Prop :=
  ∀ (s : State) (n : SlipId) (tag : Word) (line rate window limit : Byte) (l : LineId) (b : BitRate), fetching s n →
    line.toNat = l.val → rateOf rate = some b → 2 ≤ window.toNat → 1 ≤ limit.toNat → limit.toNat ≤ 7 →
    let idle := ∀ p : PrinterId, lineOfPrinter p = l →
      s.printers[p].state = .offline ∨ s.printers[p].state = .unconfigured
    let config : LineConfig := { rate := b, window := window.toNat, retryLimit := limit.toNat }
    (¬idle → exec (.setLine tag line rate window limit) s = .next
      (answered s (entryNow s n tag .notAllowed 0#32 (lineConfigBytes l s.lineConfigs[l])))) ∧
    (idle → ∃ t : State, exec (.setLine tag line rate window limit) s = .next t ∧
      t = { answered s (entryNow s n tag .done 0#32 (lineConfigBytes l config)) with
        lineConfigs := put s.lineConfigs l config, lineRecords := t.lineRecords, checkWords := t.checkWords } ∧
      ∀ p : PrinterId, t.lineRecords[p] =
        if lineOfPrinter p = l then { s.lineRecords[p] with failures := 0 } else s.lineRecords[p])

/-- R150 and R151: a SET STOCK KIND in range writes the low mark and the band and judges the flags at once against the
total; a change of a flag marks the entry with STK. -/
def Obligations.SetStockKindJudgesFlags : Prop :=
  ∀ (s : State) (n : SlipId) (tag : Word) (kind : Byte) (lowMark band : BitVec 16) (k : KindId), fetching s n →
    kind.toNat = k.val → lowMark.toNat ≤ 9999 → 1 ≤ band.toNat → band.toNat ≤ 9999 →
    let low := if s.kinds[k].total ≤ lowMark.toNat then true
      else if lowMark.toNat + band.toNat ≤ s.kinds[k].total then false else s.kinds[k].low
    let exhausted := decide (s.kinds[k].total = 0)
    ∃ t : State, exec (.setStockKind tag kind lowMark band) s = .next t ∧
      t = { s with
        kinds := put s.kinds k { s.kinds[k] with
          lowMark := lowMark.toNat, band := band.toNat, low := low, exhausted := exhausted }
        checkWords := t.checkWords
        port := { portWithReturn (portAfterTaking s.port) (entryNow s n tag .done 0#32 (stockEntryBytes t k)) with
          stockMarks := t.port.stockMarks } } ∧
      t.port.stockMarks[k] ≠ .clear ∧
      (low ≠ s.kinds[k].low ∨ exhausted ≠ s.kinds[k].exhausted → t.port.stockMarks[k] = .withCause) ∧
      ∀ q : KindId, q ≠ k → t.port.stockMarks[q] = s.port.stockMarks[q]

/-! ### Grants (chapter 5) -/

/-- R76, R81, R74 and R136's law of serials: in RUNNING and EXCHANGE_FAULT an arbiter acts until its group has neither a
requester nor a claimant of an ON_DEMAND hold. It only adds jobs at the tails of the lists of READY printers, and leaves
every magazine, tally and line as it stands. The bound on the queues holds wherever every queued job has a record of its
own (R41). -/
def Obligations.ArbiterActsUntilDone : Prop :=
  ∀ (s : State) (g : GroupId), live s = true → (s.office = .running ∨ s.office = .exchangeFault) →
    ((every 24).map fun w => s.queues[w].length).sum ≤ 64 →
    ∃ t : State, exec (.arbiterAction g) s = .next t ∧
      (∀ w : WindowId, isRequester t g w = false) ∧ claimedPrinters t g = [] ∧ still t = still s ∧
      (∀ p : PrinterId, s.printers[p].outstanding <+: t.printers[p].outstanding ∧
        t.printers[p].state = s.printers[p].state ∧
        (t.printers[p].outstanding ≠ s.printers[p].outstanding → s.printers[p].state = .ready)) ∧
      t.magazines = s.magazines ∧ t.kinds = s.kinds ∧ t.register = s.register ∧ t.current = s.current ∧
      t.closing = s.closing ∧ t.lines = s.lines ∧ t.lineRecords = s.lineRecords ∧ t.freeStack = s.freeStack ∧
      t.port.returns = s.port.returns

/-- R78 and R79: an express grant goes to the first window of the express ring after the last winner, wrapping with the
last winner itself last, and costs it one of its express count. A standard grant goes to the token window if it is in the
standard ring, and otherwise to the first after it, which takes the token; a burst that reaches the window's weight passes
the token to the first other window then in the ring, or to the next number. -/
def Obligations.RingGrantsInCyclicOrder : Prop :=
  ∀ (s : State) (g : GroupId) (w : WindowId),
    let after (a b : WindowId) : Nat := (b.val + 23 - a.val) % 24
    let old := s.arbiters[g]
    let t := grantOnce g s
    (expressWinner s g = some w ↔ inExpressRing s g w = true ∧
      ∀ v : WindowId, inExpressRing s g v = true → after old.lastExpress w ≤ after old.lastExpress v) ∧
    (expressWinner s g = some w →
      t.arbiters = put s.arbiters g { old with lastExpress := w } ∧ t.express = put s.express w (s.express[w] - 1)) ∧
    (inStandardRing s g old.token = true → standardWinner s g = some old.token) ∧
    (inStandardRing s g old.token = false → (standardWinner s g = some w ↔ inStandardRing s g w = true ∧
      ∀ v : WindowId, inStandardRing s g v = true → after old.token w ≤ after old.token v)) ∧
    (expressWinner s g = none → standardWinner s g = some w →
      let count := if old.token = w then old.burst + 1 else 1
      t.express = s.express ∧ (∀ h : GroupId, h ≠ g → t.arbiters[h] = s.arbiters[h]) ∧
        t.arbiters[g].lastExpress = old.lastExpress ∧
        (count < s.windows[w].weight → t.arbiters[g].token = w ∧ t.arbiters[g].burst = count) ∧
        (s.windows[w].weight ≤ count → t.arbiters[g].burst = 0 ∧
          ((∀ v : WindowId, v ≠ w → inStandardRing t g v = false) → t.arbiters[g].token.val = (w.val + 1) % 24) ∧
          ∀ v : WindowId, v ≠ w → inStandardRing t g v = true →
            (∀ u : WindowId, u ≠ w → inStandardRing t g u = true → after w v ≤ after w u) →
            t.arbiters[g].token = v))

/-! ### The printer lines (chapter 6) -/

/-- R99, R100, R102 and R136: a free line's turn goes to the first configured address after the pointer, with the first
that applies of CLEAR where one is requested; of a READY printer the PRINT of its repeat job, which claims no blank; of
a READY printer that is not selected the PRINT of its oldest granted job, which claims the blank next + t, becomes
SENDING, and forgets an earlier outcome of its token; and POLL. -/
def Obligations.LineTurnSendsOneFrame : Prop :=
  ∀ (s : State) (l : LineId) (a : AddressIx), live s = true → s.lines[l].activity = .free →
    let after (b : AddressIx) : Nat := (b.val + 7 - s.lines[l].pointer.val) % 8
    let p := printerAt l a
    s.printers[p].state ≠ .unconfigured →
    (∀ b : AddressIx, after b < after a → s.printers[printerAt l b].state = .unconfigured) →
    let ack := s.lineRecords[p].ackToken
    let sent (command : CommandKind) (kind : Byte) (payload : List Byte) : Vector Line 2 :=
      put s.lines l { s.lines[l] with
        pointer := a
        activity := .sending { printer := p, command := command, window := s.lineConfigs[l].window,
                               rate := s.lineConfigs[l].rate, void := false }
        frameBuffer := frameBytes (BitVec.ofNat 8 (a.val + 1)) kind payload
        replyTimer := none }
    (s.lineRecords[p].clearRequest = true →
      exec (.lineTurn l) s = .next { s with lines := sent .clear 0x03#8 [ack] }) ∧
    let noRepeat := ∀ k ∈ s.printers[p].outstanding, s.lineRecords[p].repeatJob ≠ some (tokenOf s k)
    let frame (token : Byte) (serial : Nat) (j : Job) : Vector Line 2 :=
      sent (.print token) 0x02#8
        ([ack, token] ++ be 4 serial ++
          [BitVec.ofNat 8 j.kind.val, if j.window = none then 1#8 else 0#8, BitVec.ofNat 8 j.face.length] ++ j.face)
    (s.lineRecords[p].clearRequest = false →
      (s.printers[p].state ≠ .ready ∨
        noRepeat ∧ (isSelected s p = true ∨ ∀ k ∈ s.printers[p].outstanding, isGranted s k = false)) →
      exec (.lineTurn l) s = .next { s with lines := sent .poll 0x01#8 [ack] }) ∧
    (∀ (i : JobIx) (j : Job), s.lineRecords[p].clearRequest = false → s.printers[p].state = .ready →
      i ∈ s.printers[p].outstanding → s.lineRecords[p].repeatJob = some (tokenOf s i) → jobAt s i = some j →
      exec (.lineTurn l) s = .next { s with lines := frame (tokenOf s i) (j.serial.getD 0) j }) ∧
    ∀ (before : List JobIx) (i : JobIx) (rest : List JobIx) (j : Job), s.lineRecords[p].clearRequest = false →
      s.printers[p].state = .ready → noRepeat → isSelected s p = false →
      s.printers[p].outstanding = before ++ i :: rest → (∀ k ∈ before, isGranted s k = false) →
      jobAt s i = some j → j.state = .granted →
      let m := s.magazines[p]
      let serial := m.next + m.notes.length
      let token := tokenOf s i
      let record := s.lineRecords[p]
      exec (.lineTurn l) s = .next (rewriteChecks s { s with
        lines := frame token serial j
        jobs := put s.jobs i { s.jobs[i] with job := some { j with state := .sending, serial := some serial } }
        magazines := put s.magazines p { m with
          notes := m.notes ++ [{ serial := serial, token := token, window := j.window, shift := j.shift,
                                 tender := j.tender, amount := j.amount }] }
        lineRecords := put s.lineRecords p { record with
          reported := record.reported.filter (· != token)
          ackToken := if record.ackToken = token then 0xFF#8 else record.ackToken } })

/-- R97 and R111: at the end of a command frame the reply timer starts with the window the exchange began under; at the end
of RECALL the first slot begins, for the lowest address in the mask. A RETRY, an expiry, a gap and a bad answer each end
the slot with no result, and the next begins for the lowest address left. R113 and R114: the end of the last slot frees
the line; the roll call goes on BETWEEN rounds while a printer is unresolved before round 3, and otherwise ends, the slip
returned with its results and the pending set waiting. After round 3 an unresolved printer is UNANSWERED: in RECOVERING it
is faulted LINE_SILENT, in READY and EMPTY nothing of it changes (R130). That the slip's entry comes behind the IN_DOUBT entries of those printers
is log 38, and that their own requests stay is log 31. -/
def Obligations.FrameEndsAndSlots : Prop :=
  (∀ (s : State) (l : LineId), live s = true →
    (∀ x : Exchange, s.lines[l].activity = .sending x → exec (.commandFrameEnd l) s = .next { s with
      lines := put s.lines l { s.lines[l] with activity := .awaiting x, replyTimer := some x.window } }) ∧
    (∀ (mask : BitVec 8) (a : AddressIx), s.lines[l].activity = .recalling mask → mask.getLsbD a.val = true →
      (∀ b : AddressIx, b < a → mask.getLsbD b.val = false) →
      exec (.commandFrameEnd l) s = .next { s with
        lines := put s.lines l { s.lines[l] with
          activity := .slot a (mask &&& ~~~(1#8 <<< a.val)), replyTimer := some s.lineConfigs[l].window } })) ∧
  (∀ (s : State) (l : LineId) (a b : AddressIx) (later : BitVec 8) (bytes : List Byte) (address : Byte), live s = true →
    s.lines[l].activity = .slot a later → later.getLsbD b.val = true →
    (∀ d : AddressIx, d < b → later.getLsbD d.val = false) → receiveBytes bytes = .discarded →
    ∀ c : Instr, c ∈ [.retry l address, .slotExpiry l, .characterGapTimeout l, .badAnswer l bytes] →
      exec c s = .next { s with
        lines := put s.lines l { s.lines[l] with
          activity := .slot b (later &&& ~~~(1#8 <<< b.val)), replyTimer := some s.lineConfigs[l].window } }) ∧
  ∀ (s : State) (l : LineId) (a : AddressIx) (bytes : List Byte) (address : Byte), live s = true →
    s.lines[l].activity = .slot a 0#8 → receiveBytes bytes = .discarded →
    ∀ c : Instr, c ∈ [.retry l address, .slotExpiry l, .characterGapTimeout l, .badAnswer l bytes] →
      let roll := s.lines[l].roll
      let open_ := roll.runningSet &&& ~~~roll.known
      let ended : RollCall :=
        { phase := if roll.pendingSet = 0#8 then .none else .waiting, number := 0, waitingSet := roll.pendingSet,
          runningSet := 0#8, pendingSet := 0#8, known := 0#8 }
      let answerOf (x : RollSlip) (result : AddressIx → Option RollResult) : ReturnEntry :=
        entryNow s x.slip x.tag .done 0#32 ((List.finRange 8).flatMap fun b => rollRecord (result b))
      (open_ ≠ 0#8 → roll.number < 3 → exec c s = .next { s with
        lines := put s.lines l { lineFreed s.lines[l] with roll := { roll with phase := .between } } }) ∧
      (open_ = 0#8 → exec c s = .next { s with
        lines := put s.lines l { lineFreed s.lines[l] with roll := ended, rollSlip := none }
        port := match s.lines[l].rollSlip with
          | none => s.port
          | some x => portWithReturn s.port (answerOf x fun b => x.results[b]) }) ∧
      (open_ ≠ 0#8 → 3 ≤ roll.number → ∃ t : State, exec c s = .next t ∧ t.lines[l].activity = .free ∧
        t.lines[l].roll = ended ∧ t.lines[l].rollSlip = none ∧
        (∀ x : RollSlip, s.lines[l].rollSlip = some x → t.port.returns.getLast? = some (answerOf x fun b =>
          if open_.getLsbD b.val = true ∧ x.mask.getLsbD b.val = true ∧ x.results[b] = none then some .unanswered
          else x.results[b])) ∧
        ∀ b : AddressIx, open_.getLsbD b.val = true →
          let p := printerAt l b
          (s.printers[p].state = .recovering → t.printers[p].state = .faulted ∧ t.printers[p].fault.state = .opened ∧
            t.printers[p].fault.first = some .lineSilent ∧ t.printers[p].fault.latest = some .lineSilent ∧
            t.printers[p].fault.clock = s.settings.clock ∧ t.printers[p].fault.further = 0 ∧
            t.printers[p].fault.token = none ∧ t.printers[p].fault.serial = none ∧
            t.port.printerMarks[p] = .withCause ∧
            ∀ i ∈ s.printers[p].outstanding, inFlight s i = true → jobAt t i = none) ∧
          (s.printers[p].state = .ready ∨ s.printers[p].state = .empty →
            t.printers[p].state = s.printers[p].state ∧ t.printers[p].fault = s.printers[p].fault ∧
            (PlaceLaw s → t.printers[p].outstanding = s.printers[p].outstanding)))

/-- R95, R97 and R101: an exchange that ends with no reply, a gap or a bad frame raises the failure count and frees the
line; a failed PRINT whose job is still SENDING becomes the repeat job, and a failed CLEAR keeps its request. The failure
that reaches the retry limit faults the printer LINE_SILENT, involving the repeat job or else the oldest in flight, and
ends its jobs in flight IN_DOUBT, with what that does to magazine, register, Day Totals and tallies (R128, R142, R64). Past
the limit the count stays and no further fault is raised, and in OFFLINE none is recorded (R116); that this holds after
ENTER of a count that reached the limit in OFFLINE is log 43. What arrives outside a window or slot has no effect. -/
def Obligations.FailedExchangeCounts : Prop :=
  (∀ (s : State) (l : LineId) (bytes : List Byte), exec (.frameDiscarded l bytes) s = .next s) ∧
  ∀ (s : State) (l : LineId) (x : Exchange) (bytes : List Byte) (c : Instr), awaiting s l x →
    receiveBytes bytes = .discarded → c ∈ [.replyWindowExpiry l, .characterGapTimeout l, .badReply l bytes] →
    let p := x.printer
    let record := s.lineRecords[p]
    let limit := s.lineConfigs[l].retryLimit
    let failed (keeps : Option Byte) : State := { s with
      lineRecords := put s.lineRecords p { record with
        failures := if record.failures < limit then record.failures + 1 else record.failures
        repeatJob := keeps }
      lines := put s.lines l (lineFreed s.lines[l]) }
    let unrecorded := record.failures + 1 ≠ limit ∨ s.printers[p].state = .offline
    let silent (t : State) (token : Option Byte) (serial : Option Nat) : Prop :=
      t.lines[l].activity = .free ∧ t.lineRecords[p].failures = limit ∧
        t.lineRecords[p].clearRequest = record.clearRequest ∧ t.printers[p].state = .faulted ∧
        t.printers[p].fault.state = .opened ∧ t.printers[p].fault.first = some .lineSilent ∧
        t.printers[p].fault.clock = s.settings.clock ∧ t.printers[p].fault.token = token ∧
        t.printers[p].fault.serial = serial ∧ t.port.printerMarks[p] = .withCause ∧
        (∀ i ∈ s.printers[p].outstanding, inFlight s i = true → jobAt t i = none) ∧
        (PlaceLaw s → ∀ l : List (JobIx × Job), InFlightInOrder s p l → InDoubtEffects s t p l)
    let inService := s.printers[p].state = .ready ∨ s.printers[p].state = .empty ∨ s.printers[p].state = .recovering
    (x.command = .poll ∨ x.command = .clear →
      (unrecorded → exec c s = .next (failed record.repeatJob)) ∧
      (record.failures + 1 = limit → inService → record.repeatJob = none →
        (∀ (i : JobIx) (rest : List JobIx), flightList s p = i :: rest →
          ∃ t : State, exec c s = .next t ∧ silent t (some (tokenOf s i)) (serialOf s i)) ∧
        (flightList s p = [] → ∃ t : State, exec c s = .next t ∧ silent t none none))) ∧
    ∀ token : Byte, x.command = .print token →
      (∀ (i : JobIx) (j : Job), jobOfToken s token = some i → i ∈ s.printers[p].outstanding → jobAt s i = some j →
        j.state = .sending →
        (unrecorded → exec c s = .next (failed (some token))) ∧
        (record.failures + 1 = limit → inService →
          ∃ t : State, exec c s = .next t ∧ silent t (some token) j.serial)) ∧
      ((∀ (i : JobIx) (j : Job), jobOfToken s token = some i → i ∈ s.printers[p].outstanding → jobAt s i = some j →
          j.state ≠ .sending) →
        unrecorded → exec c s = .next (failed record.repeatJob))

/-- R103, R104 and R122: the answers to a PRINT whose job is still SENDING. ACCEPT makes the job SENT; BUFFER_FULL keeps it
for a repeat; NOT_READY sets the not-ready mark; a wrong stock or serial faults the printer STOCK_MISMATCH and requests a
CLEAR (R128). Each frees the line and sets the failure count to 0. -/
def Obligations.AcceptAndRefuseAnswerPrint : Prop :=
  ∀ (s : State) (l : LineId) (x : Exchange) (token : Byte) (i : JobIx) (j : Job), live s = true →
    s.lines[l].activity = .awaiting x → x.void = false → x.command = .print token → lineOfPrinter x.printer = l →
    s.lines[l].roll.phase ≠ .round → token ≠ 0xFF#8 → jobOfToken s token = some i →
    i ∈ s.printers[x.printer].outstanding → jobAt s i = some j → j.state = .sending →
    let p := x.printer
    let address := BitVec.ofNat 8 (p.val % 8 + 1)
    let freed := put s.lines l { s.lines[l] with activity := .free, frameBuffer := [], replyTimer := none }
    exec (.accept l address token) s = .next { s with
      lines := freed
      jobs := put s.jobs i { s.jobs[i] with job := some { j with state := .sent } }
      lineRecords := put s.lineRecords p { s.lineRecords[p] with failures := 0, repeatJob := none } } ∧
    exec (.refuse l address token 1#8) s = .next { s with
      lines := freed
      lineRecords := put s.lineRecords p { s.lineRecords[p] with failures := 0, repeatJob := some token } } ∧
    exec (.refuse l address token 4#8) s = .next { s with
      lines := freed
      printers := put s.printers p { s.printers[p] with notReady := some token }
      lineRecords := put s.lineRecords p { s.lineRecords[p] with failures := 0, repeatJob := none } } ∧
    ∀ reason : Byte, (reason = 2#8 ∨ reason = 3#8) →
      (s.printers[p].state = .ready ∨ s.printers[p].state = .empty ∨ s.printers[p].state = .recovering) →
      ∃ t : State, exec (.refuse l address token reason) s = .next t ∧ t.lines[l].activity = .free ∧
        t.printers[p].state = .faulted ∧ t.printers[p].fault.state = .opened ∧
        t.printers[p].fault.first = some .stockMismatch ∧ t.printers[p].fault.token = some token ∧
        t.lineRecords[p].clearRequest = true ∧ t.lineRecords[p].failures = 0 ∧
        (jobAt t i).map (·.state) = some .sending

/-- R105's order for a good STATUS, clause by clause: no entry; PRINTED, with the last blank's entry to EMPTY (R139, R63,
R144, R117); SPOILED with and without reprints left and at the spoil-run limit (R140, R65, R124, R165; that the result too
carries the clamped k is log 16, and that SPOIL_RUN involves the serial the job had is log 44); CANCELLED with the note behind it moved (R141); these for a job of the CURRENT or a
CLOSING shift, and for a test print (R133, R143); an outcome of a serial not next, STOCK_MISMATCH (R138); a stray and a
repeat (R106); the implied cancel (R107); flag faults, and those of a FAULTED printer only where newly shown (R121; that
flag bits 5 to 7 are ignored is log 15); the not-ready mark (R122); recovery (R129); the answer to CLEAR. The flags the
record takes are those of the reply (log 25 says what other faults record). -/
def Obligations.StatusTakesPrintedOutcome : Prop :=
  ∀ (s : State) (l : LineId) (x : Exchange), awaiting s l x →
    let p := x.printer
    let address := BitVec.ofNat 8 (p.val % 8 + 1)
    let m := s.magazines[p]
    let record := s.lineRecords[p]
    let status (flags waiting : Byte) (entries : List OutcomeEntry) : Host.Outcome State Fault Refusal :=
      exec (.status l address flags waiting entries) s
    let entry (token outcome k cause : Byte) : OutcomeEntry := { token := token, outcome := outcome, k := k, cause := cause }
    let base (flags : BitVec 5) (r : LineRecord) : State := { s with
      lines := put s.lines l (lineFreed s.lines[l])
      printers := put s.printers p { s.printers[p] with lastFlags := flags }
      lineRecords := put s.lineRecords p { r with failures := 0 } }
    let clean := s.printers[p].state = .ready ∧ s.printers[p].notReady = none
    let acknowledges (t : State) (token : Byte) : Prop :=
      t.lineRecords[p].ackToken = token ∧ t.lineRecords[p].reported = [token] ∧ t.lines[l].activity = .free
    let faulted (t : State) (cause : FaultCause) (flags : BitVec 5) (token : Option Byte) (serial : Option Nat) : Prop :=
      t.printers[p].state = .faulted ∧ t.printers[p].fault.state = .opened ∧ t.printers[p].fault.first = some cause ∧
        t.printers[p].fault.flags = flags ∧ t.printers[p].fault.clock = s.settings.clock ∧
        t.printers[p].fault.token = token ∧ t.printers[p].fault.serial = serial ∧ t.printers[p].notReady = none ∧
        (s.printers[p].state = .ready → t.printers[p].hold = none) ∧ t.lineRecords[p].clearRequest = true ∧
        t.port.printerMarks[p] = .withCause ∧ isSelected t p = false
    let spoiledEntries (count : Nat) (cause : SpoilCause) (window : Option WindowId) (shift : Nat) : SpoilRegister :=
      (List.range count).foldl (fun r d => addEntry
        { serial := m.next + d, kind := m.kind, printer := p, window := window, shift := shift, cause := cause,
          disposition := .spoiled, clock := s.settings.clock } r) s.register
    let inService := s.printers[p].state = .ready ∨ s.printers[p].state = .empty ∨ s.printers[p].state = .recovering
    -- the answer to CLEAR
    (x.command = .clear → clean → ∀ waiting : Byte, waiting.toNat ≤ 2 →
      status 1#8 waiting [] = .next (base 1#5 { record with clearRequest := false })) ∧
    (x.command = .poll →
      (∀ waiting : Byte, waiting.toNat ≤ 2 → clean → status 1#8 waiting [] = .next (base 1#5 record)) ∧
      -- entries taken for a job of a window, of its shift's tally
      (∀ (token waiting : Byte) (i : JobIx) (j : Job) (w : WindowId) (y : Tender) (c : Tally), clean → waiting.toNat ≤ 2 →
        inFlightAs s p token i j → j.window = some w → j.tender = some y → tallyOf s w j.shift = some c →
        (j.shift = s.current[w].shift ∨ 1 < c.openJobs) →
        -- PRINTED
        (m.loaded = true → j.serial = some m.next → m.next ≤ m.last →
          (m.next < m.last ∨ 1 ≤ waiting.toNat ∨ s.printers[p].outstanding = [i]) →
          ∃ t : State, status 1#8 waiting [entry token 1#8 0#8 0#8] = .next t ∧ acknowledges t token ∧
            t.magazines = put s.magazines p
              { m with next := m.next + 1, issued := m.issued + 1, notes := m.notes.filter (·.token != token) } ∧
            tallyOf t w j.shift = some { addPrinted y j.amount j.quantity s.settings.clock c with
              openJobs := c.openJobs - 1 } ∧
            t.current[w].shift = s.current[w].shift ∧ (∀ v : WindowId, v ≠ w → t.current[v] = s.current[v]) ∧
            jobAt t i = none ∧ i ∉ t.printers[p].outstanding ∧ i ∈ t.freeStack ∧ t.printers[p].spoilRun = 0 ∧
            t.register = s.register ∧
            entryNow s j.slip j.tag .printed (clampedBit j.clamped) (jobResultBytes token j) ∈ t.port.returns ∧
            (m.next < m.last → t.printers[p].state = .ready) ∧
            (m.next = m.last → t.printers[p].state = .empty ∧ t.printers[p].hold = none ∧
              (PlaceLaw s → ∀ k ∈ s.printers[p].outstanding, isGranted s k = true → k ∉ t.printers[p].outstanding))) ∧
        -- SPOILED
        (∀ (k causeByte : Byte) (cause : SpoilCause) (note : Note), PlaceLaw s → s.printers[p].outstanding = [i] →
          1 ≤ k.toNat → k.toNat ≤ 4 → spoilCauseOf causeByte = some cause → m.loaded = true → j.serial = some m.next →
          m.next ≤ m.last → m.notes = [note] → note.token = token →
          let used := min k.toNat (m.last + 1 - m.next)
          let run := s.printers[p].spoilRun + 1
          let charged := addSpoils used c
          ∃ t : State, status 1#8 waiting [entry token 2#8 k causeByte] = .next t ∧ acknowledges t token ∧
            t.magazines = put s.magazines p { m with next := m.next + used, spoiled := m.spoiled + used, notes := [] } ∧
            t.register = spoiledEntries used cause (some w) j.shift ∧
            spoilsCount t.dayTotals cause = min 65535 (spoilsCount s.dayTotals cause + used) ∧
            t.printers[p].outstanding = [] ∧
            t.current[w].shift = s.current[w].shift ∧ (∀ v : WindowId, v ≠ w → t.current[v] = s.current[v]) ∧
            (j.reprints < s.settings.reprintLimit →
              jobAt t i = some (backInQueue { j with reprints := j.reprints + 1 }) ∧
              t.queues[w] = i :: s.queues[w] ∧ tallyOf t w j.shift = some charged ∧ t.port.returns = s.port.returns) ∧
            (s.settings.reprintLimit ≤ j.reprints → jobAt t i = none ∧ i ∈ t.freeStack ∧
              tallyOf t w j.shift = some { charged with openJobs := charged.openJobs - 1 } ∧
              entryNow s j.slip j.tag .spoiled
                (BitVec.ofNat 32 (spoilCauseCode cause + 256 * used) ||| clampedBit j.clamped)
                (jobResultBytes token j) ∈ t.port.returns) ∧
            (run < s.settings.spoilRunLimit → t.printers[p].spoilRun = run ∧
              t.printers[p].state = if m.next + used ≤ m.last then .ready else .empty) ∧
            (s.settings.spoilRunLimit ≤ run →
              faulted t .spoilRun 1#5 (some token) j.serial ∧ t.printers[p].spoilRun = 0)) ∧
        -- CANCELLED
        (∀ (k causeByte : Byte), PlaceLaw s → s.printers[p].outstanding = [i] → m.notes.map (·.token) = [token] →
          ∃ t : State, status 1#8 waiting [entry token 3#8 k causeByte] = .next t ∧ acknowledges t token ∧
            t.magazines = put s.magazines p { m with notes := [] } ∧ jobAt t i = some (backInQueue j) ∧
            t.queues[w] = i :: s.queues[w] ∧ t.printers[p].outstanding = [] ∧ t.printers[p].state = .ready ∧
            t.printers[p].spoilRun = s.printers[p].spoilRun ∧ t.register = s.register ∧ t.current = s.current ∧
            t.port.returns = s.port.returns) ∧
        (∀ (k causeByte : Byte) (first second : Note) (i' : JobIx), m.notes = [first, second] → first.token = token →
          second.token ≠ token → jobOfToken s second.token = some i' →
          ∃ t : State, status 1#8 waiting [entry token 3#8 k causeByte] = .next t ∧
            t.magazines = put s.magazines p { m with notes := [{ second with serial := second.serial - 1 }] } ∧
            serialOf t i' = some (second.serial - 1)) ∧
        -- a serial not next
        (∀ (outcome k causeByte : Byte), outcome ≠ 3#8 → entryInRange (entry token outcome k causeByte) = true →
          j.state = .sent → ¬(m.loaded = true ∧ j.serial = some m.next) →
          ∃ t : State, status 1#8 waiting [entry token outcome k causeByte] = .next t ∧ acknowledges t token ∧
            faulted t .stockMismatch 1#5 (some token) j.serial ∧ t.current = s.current ∧ t.register = s.register ∧
            (1 ≤ waiting.toNat ∨ s.printers[p].outstanding = [i] → jobAt t i = some j))) ∧
      -- entries taken for a test print
      (∀ (token waiting : Byte) (i : JobIx) (j : Job), clean → waiting.toNat ≤ 2 → inFlightAs s p token i j →
        j.window = none →
        let ended (t : State) (code : ResultCode) (detail : Word) : Prop :=
          acknowledges t token ∧ jobAt t i = none ∧ i ∈ t.freeStack ∧ i ∉ t.printers[p].outstanding ∧
            t.current = s.current ∧ t.closing = s.closing ∧
            entryNow s j.slip j.tag code (detail ||| clampedBit j.clamped) (jobResultBytes token j) ∈ t.port.returns
        (m.loaded = true → j.serial = some m.next → m.next < m.last →
          ∃ t : State, status 1#8 waiting [entry token 1#8 0#8 0#8] = .next t ∧ ended t .printed 0#32 ∧
            t.magazines = put s.magazines p
              { m with next := m.next + 1, spoiled := m.spoiled + 1, notes := m.notes.filter (·.token != token) } ∧
            t.register = spoiledEntries 1 .test none 0 ∧
            spoilsCount t.dayTotals .test = min 65535 (spoilsCount s.dayTotals .test + 1) ∧
            t.printers[p].spoilRun = 0 ∧ t.printers[p].state = .ready) ∧
        (∀ (k causeByte : Byte) (cause : SpoilCause) (note : Note), PlaceLaw s → s.printers[p].outstanding = [i] →
          1 ≤ k.toNat → k.toNat ≤ 4 → spoilCauseOf causeByte = some cause → m.loaded = true → j.serial = some m.next →
          m.next ≤ m.last → m.notes = [note] → note.token = token →
          let used := min k.toNat (m.last + 1 - m.next)
          ∃ t : State, status 1#8 waiting [entry token 2#8 k causeByte] = .next t ∧
            ended t .spoiled (BitVec.ofNat 32 (spoilCauseCode cause + 256 * used)) ∧
            t.magazines = put s.magazines p { m with next := m.next + used, spoiled := m.spoiled + used, notes := [] } ∧
            t.register = spoiledEntries used cause none j.shift ∧
            spoilsCount t.dayTotals cause = min 65535 (spoilsCount s.dayTotals cause + used) ∧
            (s.printers[p].spoilRun + 1 < s.settings.spoilRunLimit →
              t.printers[p].spoilRun = s.printers[p].spoilRun + 1)) ∧
        (∀ (k causeByte : Byte), PlaceLaw s → s.printers[p].outstanding = [i] → m.notes.map (·.token) = [token] →
          ∃ t : State, status 1#8 waiting [entry token 3#8 k causeByte] = .next t ∧ ended t .withdrawn 1#32 ∧
            t.magazines = put s.magazines p { m with notes := [] } ∧ t.register = s.register ∧
            t.dayTotals = s.dayTotals ∧ t.printers[p].state = .ready)) ∧
      -- a stray, and a repeat
      (∀ (e : OutcomeEntry) (waiting : Byte), clean → waiting.toNat ≤ 2 → entryInRange e = true →
        (e.token ∈ record.reported →
          status 1#8 waiting [e] = .next (base 1#5 { record with reported := [e.token] })) ∧
        (e.token ∉ record.reported →
          (∀ i : JobIx, jobOfToken s e.token = some i → i ∉ s.printers[p].outstanding ∨ inFlight s i = false) →
          ∃ t : State, status 1#8 waiting [e] = .next t ∧
            t = { base 1#5 { record with reported := [e.token], ackToken := e.token,
                                         strays := min 255 (record.strays + 1) } with
              port := { s.port with printerMarks := t.port.printerMarks } } ∧
            (record.strays < 255 → t.port.printerMarks[p] ≠ .clear) ∧
            ∀ q : PrinterId, q ≠ p → t.port.printerMarks[q] = s.port.printerMarks[q])) ∧
      -- the implied cancel
      (∀ (i : JobIx) (j : Job), PlaceLaw s → s.printers[p].state = .faulted →
        s.printers[p].fault.state = .opened → s.printers[p].notReady = none → s.printers[p].outstanding = [i] →
        jobAt s i = some j →
        (j.state = .sending → ∃ t : State, status 1#8 0#8 [] = .next t ∧
          t.printers[p].outstanding = [] ∧ t.printers[p].state = .faulted ∧
          (∀ note ∈ t.magazines[p].notes, note.token ≠ tokenOf s i) ∧
          t.lineRecords[p].ackToken = record.ackToken ∧ t.lineRecords[p].strays = record.strays ∧
          (∀ w : WindowId, j.window = some w →
            jobAt t i = some (backInQueue j) ∧ t.queues[w] = i :: s.queues[w]) ∧
          (j.window = none → jobAt t i = none ∧ entryNow s j.slip j.tag .withdrawn (1#32 ||| clampedBit j.clamped)
            (jobResultBytes (tokenOf s i) j) ∈ t.port.returns)) ∧
        (j.state = .sent → status 1#8 0#8 [] = .next (base 1#5 record))) ∧
      -- the flags
      (∀ (flags waiting : Byte), waiting.toNat ≤ 2 → inService →
        let error := flags.getLsbD 1 = true ∨ flags.getLsbD 2 = true ∨ flags.getLsbD 3 = true
        let cause : FaultCause := if flags.getLsbD 1 then .jam else if flags.getLsbD 2 then .coverOpen else .overheat
        (error → ∃ t : State, status flags waiting [] = .next t ∧ t.printers[p].lastFlags = flags.setWidth 5 ∧
          faulted t cause (flags.setWidth 5) ((flightList s p).head?.map (tokenOf s))
            ((flightList s p).head?.bind (serialOf s))) ∧
        (¬error → flags.getLsbD 4 = true → m.loaded = true → m.next ≤ m.last →
          ∃ t : State, status flags waiting [] = .next t ∧ t.printers[p].lastFlags = flags.setWidth 5 ∧
            faulted t .stockMismatch (flags.setWidth 5) none (some m.next))) ∧
      (∀ (flags waiting : Byte), 1 ≤ waiting.toNat → waiting.toNat ≤ 2 → s.printers[p].state = .faulted →
        s.printers[p].fault.state = .opened → s.printers[p].notReady = none →
        ((∀ b : Fin 5, 1 ≤ b.val → flags.getLsbD b.val = true → s.printers[p].lastFlags.getLsbD b.val = true) →
          status flags waiting [] = .next (base (flags.setWidth 5) record)) ∧
        (flags = 2#8 → s.printers[p].lastFlags.getLsbD 1 = false → ∃ t : State, status flags waiting [] = .next t ∧
          t.printers[p].fault = { s.printers[p].fault with
            latest := some .jam, further := min 255 (s.printers[p].fault.further + 1) } ∧
          t.lineRecords[p].clearRequest = true ∧ t.port.printerMarks[p] = .withCause)) ∧
      -- the not-ready mark
      (∀ (token waiting : Byte), waiting.toNat ≤ 2 → inService → s.printers[p].notReady = some token →
        ∃ t : State, status 1#8 waiting [] = .next t ∧ t.printers[p].lastFlags = 1#5 ∧
          faulted t .jam 1#5 (some token) ((jobOfToken s token).bind (serialOf s))) ∧
      -- recovery
      ∀ waiting : Byte, waiting.toNat ≤ 2 → s.printers[p].state = .faulted →
        s.printers[p].fault.state = .acknowledged → s.printers[p].notReady = none →
        ∃ t : State, status 1#8 waiting [] = .next t ∧ t.printers[p].state = .recovering ∧
          t.printers[p].fault = s.printers[p].fault ∧ isSelected t p = true ∧ t.printers[p].lastFlags = 1#5 ∧
          t.port.printerMarks[p] ≠ .clear)

/-- R112, R145, R146, R130 and Table 8-2: the answer of a selected printer with no job in flight, whatever its magazine, its
serial and its stock kind. VERIFIED and ROLLED_BACK return a RECOVERING printer to READY, or to EMPTY where no blank
remains, with its record cleared; a rollback moves the blanks and turns their register entries UNUSED; MISMATCH freezes
the magazine and faults the printer. VERIFIED changes nothing of a READY or EMPTY printer, and no result moves a FAULTED
one (log 45). The result is kept for the line's slip. The register and tallies are stated where this answer alone can change them: not where it ends a roll call
that leaves another printer UNANSWERED. -/
def Obligations.SerialJudgesMagazine : Prop :=
  ∀ (s : State) (l : LineId) (a : AddressIx) (later : BitVec 8) (serial : Word) (kind : KindId), live s = true →
    s.lines[l].activity = .slot a later →
    s.lines[l].roll.runningSet.getLsbD a.val = true → s.lines[l].roll.known.getLsbD a.val = false →
    s.lines[l].roll.waitingSet.getLsbD a.val = false → s.lines[l].roll.pendingSet.getLsbD a.val = false →
    let p := printerAt l a
    let m := s.magazines[p]
    let old := s.printers[p]
    (∀ i ∈ old.outstanding, inFlight s i = false) →
    (old.state = .recovering ∨ old.state = .ready ∨ old.state = .empty ∨ old.state = .faulted) →
    let result : RollResult :=
      if m.loaded = false then .verified
      else if m.frozen = true ∨ kind ≠ m.kind then .mismatch serial.toNat
      else if serial.toNat = m.next then .verified
      else match m.unverified with
        | none => .mismatch serial.toNat
        | some v =>
          if v ≤ serial.toNat ∧ serial.toNat < m.next then .rolledBack (m.next - serial.toNat)
          else .mismatch serial.toNat
    let alone := later ≠ 0#8 ∨ s.lines[l].roll.number < 3 ∨
      ∀ b : AddressIx, b ≠ a → s.lines[l].roll.runningSet.getLsbD b.val = true → s.lines[l].roll.known.getLsbD b.val = true
    ∃ t : State, exec (.serial l (BitVec.ofNat 8 (a.val + 1)) serial (BitVec.ofNat 8 kind.val)) s = .next t ∧
      isSelected t p = false ∧
      (later ≠ 0#8 → ∀ x : RollSlip, s.lines[l].rollSlip = some x → x.mask.getLsbD a.val = true → x.results[a] = none →
        t.lines[l].rollSlip = some { x with results := put x.results a (some result) }) ∧
      (alone → t.current = s.current ∧ t.closing = s.closing) ∧
      (old.state = .faulted → t.printers[p].state = .faulted ∧ t.printers[p].fault = old.fault) ∧
      match result with
      | .verified =>
        t.magazines[p] = (if m.loaded = true then { m with unverified := none } else m) ∧
          (alone → t.register = s.register) ∧
          (old.state = .recovering → t.printers[p].fault = .clear ∧
            (m.loaded = true ∧ m.next ≤ m.last → t.printers[p].state = .ready ∧ t.printers[p].spoilRun = 0) ∧
            (¬(m.loaded = true ∧ m.next ≤ m.last) → t.printers[p].state = .empty)) ∧
          (old.state ≠ .recovering → t.printers[p].state = old.state ∧ t.printers[p].fault = old.fault ∧
            (PlaceLaw s → t.printers[p].outstanding = old.outstanding))
      | .rolledBack n =>
        t.magazines[p] = { m with next := serial.toNat, inDoubt := m.inDoubt - n, unverified := none } ∧
          (alone → t.register = { s.register with entries := s.register.entries.map fun e =>
            if e.printer = p ∧ e.kind = m.kind ∧ serial.toNat ≤ e.serial ∧ e.serial < m.next ∧ e.disposition = .inDoubt
            then { e with disposition := .unused } else e }) ∧
          (old.state = .recovering → t.printers[p].fault = .clear ∧
            (serial.toNat ≤ m.last → t.printers[p].state = .ready ∧ t.printers[p].spoilRun = 0) ∧
            (m.last < serial.toNat → t.printers[p].state = .empty))
      | .mismatch _ =>
        t.magazines[p] = { m with frozen := true } ∧ (alone → t.register = s.register) ∧
          (old.state ≠ .faulted →
            t.printers[p].state = .faulted ∧ t.printers[p].fault.state = .opened ∧
            t.printers[p].fault.first = some .stockMismatch ∧ t.printers[p].fault.latest = some .stockMismatch ∧
            t.printers[p].fault.clock = s.settings.clock ∧ t.printers[p].fault.further = 0 ∧
            t.printers[p].fault.token = none ∧ t.printers[p].fault.serial = some serial.toNat ∧
            t.lineRecords[p].clearRequest = true ∧ t.port.printerMarks[p] = .withCause ∧
            (old.state = .ready → t.printers[p].hold = none))
      | .unanswered => False
end

