-- ==== Sys2Proof/Laws/State.lean ====
section
/-! SUPPORT. One lemma for each field of State under each update of Machine/Ops.lean and each writing of check words, and what a table reads after an
entry is replaced. -/

namespace Sys2Proof.Machine

/-! ### Tables -/

@[simp] theorem put_get_self {α : Type} {n : Nat} (v : Vector α n) (i : Fin n) (x : α) : (put v i x)[i] = x := by
  simp [put]

theorem put_get_other {α : Type} {n : Nat} (v : Vector α n) (i j : Fin n) (x : α) (h : i ≠ j) :
    (put v i x)[j] = v[j] := by
  have h' : i.val ≠ j.val := fun e => h (Fin.ext e)
  simp [put, h']

theorem put_get {α : Type} {n : Nat} (v : Vector α n) (i j : Fin n) (x : α) :
    (put v i x)[j] = if i = j then x else v[j] := by
  split
  · next h => subst h; exact put_get_self v i x
  · next h => exact put_get_other v i j x h

@[simp] theorem upd_get_self {α : Type} {n : Nat} (v : Vector α n) (i : Fin n) (f : α → α) :
    (upd v i f)[i] = f v[i] := put_get_self v i (f v[i])

theorem upd_get_other {α : Type} {n : Nat} (v : Vector α n) (i j : Fin n) (f : α → α) (h : i ≠ j) :
    (upd v i f)[j] = v[j] := put_get_other v i j (f v[i]) h

theorem upd_get {α : Type} {n : Nat} (v : Vector α n) (i j : Fin n) (f : α → α) :
    (upd v i f)[j] = if i = j then f v[j] else v[j] := by
  split
  · next h => subst h; exact upd_get_self v i f
  · next h => exact upd_get_other v i j f h

/-! ### Fields under each update -/

@[simp] theorem modPort_powered (f : ExchangePort → ExchangePort) (s : State) : (modPort f s).powered = s.powered := rfl
@[simp] theorem modPort_pciReset (f : ExchangePort → ExchangePort) (s : State) : (modPort f s).pciReset = s.pciReset := rfl
@[simp] theorem modPort_start (f : ExchangePort → ExchangePort) (s : State) : (modPort f s).start = s.start := rfl
@[simp] theorem modPort_checkWords (f : ExchangePort → ExchangePort) (s : State) : (modPort f s).checkWords = s.checkWords := rfl
@[simp] theorem modPort_office (f : ExchangePort → ExchangePort) (s : State) : (modPort f s).office = s.office := rfl
@[simp] theorem modPort_lamp (f : ExchangePort → ExchangePort) (s : State) : (modPort f s).lamp = s.lamp := rfl
@[simp] theorem modPort_time (f : ExchangePort → ExchangePort) (s : State) : (modPort f s).time = s.time := rfl
@[simp] theorem modPort_settings (f : ExchangePort → ExchangePort) (s : State) : (modPort f s).settings = s.settings := rfl
@[simp] theorem modPort_port (f : ExchangePort → ExchangePort) (s : State) :
    (modPort f s).port = f s.port := rfl
@[simp] theorem modPort_windows (f : ExchangePort → ExchangePort) (s : State) : (modPort f s).windows = s.windows := rfl
@[simp] theorem modPort_queues (f : ExchangePort → ExchangePort) (s : State) : (modPort f s).queues = s.queues := rfl
@[simp] theorem modPort_jobs (f : ExchangePort → ExchangePort) (s : State) : (modPort f s).jobs = s.jobs := rfl
@[simp] theorem modPort_freeStack (f : ExchangePort → ExchangePort) (s : State) : (modPort f s).freeStack = s.freeStack := rfl
@[simp] theorem modPort_routes (f : ExchangePort → ExchangePort) (s : State) : (modPort f s).routes = s.routes := rfl
@[simp] theorem modPort_arbiters (f : ExchangePort → ExchangePort) (s : State) : (modPort f s).arbiters = s.arbiters := rfl
@[simp] theorem modPort_express (f : ExchangePort → ExchangePort) (s : State) : (modPort f s).express = s.express := rfl
@[simp] theorem modPort_printers (f : ExchangePort → ExchangePort) (s : State) : (modPort f s).printers = s.printers := rfl
@[simp] theorem modPort_lineConfigs (f : ExchangePort → ExchangePort) (s : State) : (modPort f s).lineConfigs = s.lineConfigs := rfl
@[simp] theorem modPort_lines (f : ExchangePort → ExchangePort) (s : State) : (modPort f s).lines = s.lines := rfl
@[simp] theorem modPort_lineRecords (f : ExchangePort → ExchangePort) (s : State) : (modPort f s).lineRecords = s.lineRecords := rfl
@[simp] theorem modPort_magazines (f : ExchangePort → ExchangePort) (s : State) : (modPort f s).magazines = s.magazines := rfl
@[simp] theorem modPort_kinds (f : ExchangePort → ExchangePort) (s : State) : (modPort f s).kinds = s.kinds := rfl
@[simp] theorem modPort_register (f : ExchangePort → ExchangePort) (s : State) : (modPort f s).register = s.register := rfl
@[simp] theorem modPort_current (f : ExchangePort → ExchangePort) (s : State) : (modPort f s).current = s.current := rfl
@[simp] theorem modPort_closing (f : ExchangePort → ExchangePort) (s : State) : (modPort f s).closing = s.closing := rfl
@[simp] theorem modPort_cashUps (f : ExchangePort → ExchangePort) (s : State) : (modPort f s).cashUps = s.cashUps := rfl
@[simp] theorem modPort_dayTotals (f : ExchangePort → ExchangePort) (s : State) : (modPort f s).dayTotals = s.dayTotals := rfl
@[simp] theorem modPort_pending (f : ExchangePort → ExchangePort) (s : State) : (modPort f s).pending = s.pending := rfl
@[simp] theorem modTime_powered (f : TimeBase → TimeBase) (s : State) : (modTime f s).powered = s.powered := rfl
@[simp] theorem modTime_pciReset (f : TimeBase → TimeBase) (s : State) : (modTime f s).pciReset = s.pciReset := rfl
@[simp] theorem modTime_start (f : TimeBase → TimeBase) (s : State) : (modTime f s).start = s.start := rfl
@[simp] theorem modTime_checkWords (f : TimeBase → TimeBase) (s : State) : (modTime f s).checkWords = s.checkWords := rfl
@[simp] theorem modTime_office (f : TimeBase → TimeBase) (s : State) : (modTime f s).office = s.office := rfl
@[simp] theorem modTime_lamp (f : TimeBase → TimeBase) (s : State) : (modTime f s).lamp = s.lamp := rfl
@[simp] theorem modTime_time (f : TimeBase → TimeBase) (s : State) :
    (modTime f s).time = f s.time := rfl
@[simp] theorem modTime_settings (f : TimeBase → TimeBase) (s : State) : (modTime f s).settings = s.settings := rfl
@[simp] theorem modTime_port (f : TimeBase → TimeBase) (s : State) : (modTime f s).port = s.port := rfl
@[simp] theorem modTime_windows (f : TimeBase → TimeBase) (s : State) : (modTime f s).windows = s.windows := rfl
@[simp] theorem modTime_queues (f : TimeBase → TimeBase) (s : State) : (modTime f s).queues = s.queues := rfl
@[simp] theorem modTime_jobs (f : TimeBase → TimeBase) (s : State) : (modTime f s).jobs = s.jobs := rfl
@[simp] theorem modTime_freeStack (f : TimeBase → TimeBase) (s : State) : (modTime f s).freeStack = s.freeStack := rfl
@[simp] theorem modTime_routes (f : TimeBase → TimeBase) (s : State) : (modTime f s).routes = s.routes := rfl
@[simp] theorem modTime_arbiters (f : TimeBase → TimeBase) (s : State) : (modTime f s).arbiters = s.arbiters := rfl
@[simp] theorem modTime_express (f : TimeBase → TimeBase) (s : State) : (modTime f s).express = s.express := rfl
@[simp] theorem modTime_printers (f : TimeBase → TimeBase) (s : State) : (modTime f s).printers = s.printers := rfl
@[simp] theorem modTime_lineConfigs (f : TimeBase → TimeBase) (s : State) : (modTime f s).lineConfigs = s.lineConfigs := rfl
@[simp] theorem modTime_lines (f : TimeBase → TimeBase) (s : State) : (modTime f s).lines = s.lines := rfl
@[simp] theorem modTime_lineRecords (f : TimeBase → TimeBase) (s : State) : (modTime f s).lineRecords = s.lineRecords := rfl
@[simp] theorem modTime_magazines (f : TimeBase → TimeBase) (s : State) : (modTime f s).magazines = s.magazines := rfl
@[simp] theorem modTime_kinds (f : TimeBase → TimeBase) (s : State) : (modTime f s).kinds = s.kinds := rfl
@[simp] theorem modTime_register (f : TimeBase → TimeBase) (s : State) : (modTime f s).register = s.register := rfl
@[simp] theorem modTime_current (f : TimeBase → TimeBase) (s : State) : (modTime f s).current = s.current := rfl
@[simp] theorem modTime_closing (f : TimeBase → TimeBase) (s : State) : (modTime f s).closing = s.closing := rfl
@[simp] theorem modTime_cashUps (f : TimeBase → TimeBase) (s : State) : (modTime f s).cashUps = s.cashUps := rfl
@[simp] theorem modTime_dayTotals (f : TimeBase → TimeBase) (s : State) : (modTime f s).dayTotals = s.dayTotals := rfl
@[simp] theorem modTime_pending (f : TimeBase → TimeBase) (s : State) : (modTime f s).pending = s.pending := rfl
@[simp] theorem modSettings_powered (f : OfficeSettings → OfficeSettings) (s : State) : (modSettings f s).powered = s.powered := rfl
@[simp] theorem modSettings_pciReset (f : OfficeSettings → OfficeSettings) (s : State) : (modSettings f s).pciReset = s.pciReset := rfl
@[simp] theorem modSettings_start (f : OfficeSettings → OfficeSettings) (s : State) : (modSettings f s).start = s.start := rfl
@[simp] theorem modSettings_checkWords (f : OfficeSettings → OfficeSettings) (s : State) : (modSettings f s).checkWords = s.checkWords := rfl
@[simp] theorem modSettings_office (f : OfficeSettings → OfficeSettings) (s : State) : (modSettings f s).office = s.office := rfl
@[simp] theorem modSettings_lamp (f : OfficeSettings → OfficeSettings) (s : State) : (modSettings f s).lamp = s.lamp := rfl
@[simp] theorem modSettings_time (f : OfficeSettings → OfficeSettings) (s : State) : (modSettings f s).time = s.time := rfl
@[simp] theorem modSettings_settings (f : OfficeSettings → OfficeSettings) (s : State) :
    (modSettings f s).settings = f s.settings := rfl
@[simp] theorem modSettings_port (f : OfficeSettings → OfficeSettings) (s : State) : (modSettings f s).port = s.port := rfl
@[simp] theorem modSettings_windows (f : OfficeSettings → OfficeSettings) (s : State) : (modSettings f s).windows = s.windows := rfl
@[simp] theorem modSettings_queues (f : OfficeSettings → OfficeSettings) (s : State) : (modSettings f s).queues = s.queues := rfl
@[simp] theorem modSettings_jobs (f : OfficeSettings → OfficeSettings) (s : State) : (modSettings f s).jobs = s.jobs := rfl
@[simp] theorem modSettings_freeStack (f : OfficeSettings → OfficeSettings) (s : State) : (modSettings f s).freeStack = s.freeStack := rfl
@[simp] theorem modSettings_routes (f : OfficeSettings → OfficeSettings) (s : State) : (modSettings f s).routes = s.routes := rfl
@[simp] theorem modSettings_arbiters (f : OfficeSettings → OfficeSettings) (s : State) : (modSettings f s).arbiters = s.arbiters := rfl
@[simp] theorem modSettings_express (f : OfficeSettings → OfficeSettings) (s : State) : (modSettings f s).express = s.express := rfl
@[simp] theorem modSettings_printers (f : OfficeSettings → OfficeSettings) (s : State) : (modSettings f s).printers = s.printers := rfl
@[simp] theorem modSettings_lineConfigs (f : OfficeSettings → OfficeSettings) (s : State) : (modSettings f s).lineConfigs = s.lineConfigs := rfl
@[simp] theorem modSettings_lines (f : OfficeSettings → OfficeSettings) (s : State) : (modSettings f s).lines = s.lines := rfl
@[simp] theorem modSettings_lineRecords (f : OfficeSettings → OfficeSettings) (s : State) : (modSettings f s).lineRecords = s.lineRecords := rfl
@[simp] theorem modSettings_magazines (f : OfficeSettings → OfficeSettings) (s : State) : (modSettings f s).magazines = s.magazines := rfl
@[simp] theorem modSettings_kinds (f : OfficeSettings → OfficeSettings) (s : State) : (modSettings f s).kinds = s.kinds := rfl
@[simp] theorem modSettings_register (f : OfficeSettings → OfficeSettings) (s : State) : (modSettings f s).register = s.register := rfl
@[simp] theorem modSettings_current (f : OfficeSettings → OfficeSettings) (s : State) : (modSettings f s).current = s.current := rfl
@[simp] theorem modSettings_closing (f : OfficeSettings → OfficeSettings) (s : State) : (modSettings f s).closing = s.closing := rfl
@[simp] theorem modSettings_cashUps (f : OfficeSettings → OfficeSettings) (s : State) : (modSettings f s).cashUps = s.cashUps := rfl
@[simp] theorem modSettings_dayTotals (f : OfficeSettings → OfficeSettings) (s : State) : (modSettings f s).dayTotals = s.dayTotals := rfl
@[simp] theorem modSettings_pending (f : OfficeSettings → OfficeSettings) (s : State) : (modSettings f s).pending = s.pending := rfl
@[simp] theorem modWindow_powered (w : WindowId) (f : WindowRecord → WindowRecord) (s : State) : (modWindow w f s).powered = s.powered := rfl
@[simp] theorem modWindow_pciReset (w : WindowId) (f : WindowRecord → WindowRecord) (s : State) : (modWindow w f s).pciReset = s.pciReset := rfl
@[simp] theorem modWindow_start (w : WindowId) (f : WindowRecord → WindowRecord) (s : State) : (modWindow w f s).start = s.start := rfl
@[simp] theorem modWindow_checkWords (w : WindowId) (f : WindowRecord → WindowRecord) (s : State) : (modWindow w f s).checkWords = s.checkWords := rfl
@[simp] theorem modWindow_office (w : WindowId) (f : WindowRecord → WindowRecord) (s : State) : (modWindow w f s).office = s.office := rfl
@[simp] theorem modWindow_lamp (w : WindowId) (f : WindowRecord → WindowRecord) (s : State) : (modWindow w f s).lamp = s.lamp := rfl
@[simp] theorem modWindow_time (w : WindowId) (f : WindowRecord → WindowRecord) (s : State) : (modWindow w f s).time = s.time := rfl
@[simp] theorem modWindow_settings (w : WindowId) (f : WindowRecord → WindowRecord) (s : State) : (modWindow w f s).settings = s.settings := rfl
@[simp] theorem modWindow_port (w : WindowId) (f : WindowRecord → WindowRecord) (s : State) : (modWindow w f s).port = s.port := rfl
@[simp] theorem modWindow_windows (w : WindowId) (f : WindowRecord → WindowRecord) (s : State) :
    (modWindow w f s).windows = upd s.windows w f := rfl
@[simp] theorem modWindow_queues (w : WindowId) (f : WindowRecord → WindowRecord) (s : State) : (modWindow w f s).queues = s.queues := rfl
@[simp] theorem modWindow_jobs (w : WindowId) (f : WindowRecord → WindowRecord) (s : State) : (modWindow w f s).jobs = s.jobs := rfl
@[simp] theorem modWindow_freeStack (w : WindowId) (f : WindowRecord → WindowRecord) (s : State) : (modWindow w f s).freeStack = s.freeStack := rfl
@[simp] theorem modWindow_routes (w : WindowId) (f : WindowRecord → WindowRecord) (s : State) : (modWindow w f s).routes = s.routes := rfl
@[simp] theorem modWindow_arbiters (w : WindowId) (f : WindowRecord → WindowRecord) (s : State) : (modWindow w f s).arbiters = s.arbiters := rfl
@[simp] theorem modWindow_express (w : WindowId) (f : WindowRecord → WindowRecord) (s : State) : (modWindow w f s).express = s.express := rfl
@[simp] theorem modWindow_printers (w : WindowId) (f : WindowRecord → WindowRecord) (s : State) : (modWindow w f s).printers = s.printers := rfl
@[simp] theorem modWindow_lineConfigs (w : WindowId) (f : WindowRecord → WindowRecord) (s : State) : (modWindow w f s).lineConfigs = s.lineConfigs := rfl
@[simp] theorem modWindow_lines (w : WindowId) (f : WindowRecord → WindowRecord) (s : State) : (modWindow w f s).lines = s.lines := rfl
@[simp] theorem modWindow_lineRecords (w : WindowId) (f : WindowRecord → WindowRecord) (s : State) : (modWindow w f s).lineRecords = s.lineRecords := rfl
@[simp] theorem modWindow_magazines (w : WindowId) (f : WindowRecord → WindowRecord) (s : State) : (modWindow w f s).magazines = s.magazines := rfl
@[simp] theorem modWindow_kinds (w : WindowId) (f : WindowRecord → WindowRecord) (s : State) : (modWindow w f s).kinds = s.kinds := rfl
@[simp] theorem modWindow_register (w : WindowId) (f : WindowRecord → WindowRecord) (s : State) : (modWindow w f s).register = s.register := rfl
@[simp] theorem modWindow_current (w : WindowId) (f : WindowRecord → WindowRecord) (s : State) : (modWindow w f s).current = s.current := rfl
@[simp] theorem modWindow_closing (w : WindowId) (f : WindowRecord → WindowRecord) (s : State) : (modWindow w f s).closing = s.closing := rfl
@[simp] theorem modWindow_cashUps (w : WindowId) (f : WindowRecord → WindowRecord) (s : State) : (modWindow w f s).cashUps = s.cashUps := rfl
@[simp] theorem modWindow_dayTotals (w : WindowId) (f : WindowRecord → WindowRecord) (s : State) : (modWindow w f s).dayTotals = s.dayTotals := rfl
@[simp] theorem modWindow_pending (w : WindowId) (f : WindowRecord → WindowRecord) (s : State) : (modWindow w f s).pending = s.pending := rfl
@[simp] theorem modRoute_powered (c : ClassId) (f : RouteEntry → RouteEntry) (s : State) : (modRoute c f s).powered = s.powered := rfl
@[simp] theorem modRoute_pciReset (c : ClassId) (f : RouteEntry → RouteEntry) (s : State) : (modRoute c f s).pciReset = s.pciReset := rfl
@[simp] theorem modRoute_start (c : ClassId) (f : RouteEntry → RouteEntry) (s : State) : (modRoute c f s).start = s.start := rfl
@[simp] theorem modRoute_checkWords (c : ClassId) (f : RouteEntry → RouteEntry) (s : State) : (modRoute c f s).checkWords = s.checkWords := rfl
@[simp] theorem modRoute_office (c : ClassId) (f : RouteEntry → RouteEntry) (s : State) : (modRoute c f s).office = s.office := rfl
@[simp] theorem modRoute_lamp (c : ClassId) (f : RouteEntry → RouteEntry) (s : State) : (modRoute c f s).lamp = s.lamp := rfl
@[simp] theorem modRoute_time (c : ClassId) (f : RouteEntry → RouteEntry) (s : State) : (modRoute c f s).time = s.time := rfl
@[simp] theorem modRoute_settings (c : ClassId) (f : RouteEntry → RouteEntry) (s : State) : (modRoute c f s).settings = s.settings := rfl
@[simp] theorem modRoute_port (c : ClassId) (f : RouteEntry → RouteEntry) (s : State) : (modRoute c f s).port = s.port := rfl
@[simp] theorem modRoute_windows (c : ClassId) (f : RouteEntry → RouteEntry) (s : State) : (modRoute c f s).windows = s.windows := rfl
@[simp] theorem modRoute_queues (c : ClassId) (f : RouteEntry → RouteEntry) (s : State) : (modRoute c f s).queues = s.queues := rfl
@[simp] theorem modRoute_jobs (c : ClassId) (f : RouteEntry → RouteEntry) (s : State) : (modRoute c f s).jobs = s.jobs := rfl
@[simp] theorem modRoute_freeStack (c : ClassId) (f : RouteEntry → RouteEntry) (s : State) : (modRoute c f s).freeStack = s.freeStack := rfl
@[simp] theorem modRoute_routes (c : ClassId) (f : RouteEntry → RouteEntry) (s : State) :
    (modRoute c f s).routes = upd s.routes c f := rfl
@[simp] theorem modRoute_arbiters (c : ClassId) (f : RouteEntry → RouteEntry) (s : State) : (modRoute c f s).arbiters = s.arbiters := rfl
@[simp] theorem modRoute_express (c : ClassId) (f : RouteEntry → RouteEntry) (s : State) : (modRoute c f s).express = s.express := rfl
@[simp] theorem modRoute_printers (c : ClassId) (f : RouteEntry → RouteEntry) (s : State) : (modRoute c f s).printers = s.printers := rfl
@[simp] theorem modRoute_lineConfigs (c : ClassId) (f : RouteEntry → RouteEntry) (s : State) : (modRoute c f s).lineConfigs = s.lineConfigs := rfl
@[simp] theorem modRoute_lines (c : ClassId) (f : RouteEntry → RouteEntry) (s : State) : (modRoute c f s).lines = s.lines := rfl
@[simp] theorem modRoute_lineRecords (c : ClassId) (f : RouteEntry → RouteEntry) (s : State) : (modRoute c f s).lineRecords = s.lineRecords := rfl
@[simp] theorem modRoute_magazines (c : ClassId) (f : RouteEntry → RouteEntry) (s : State) : (modRoute c f s).magazines = s.magazines := rfl
@[simp] theorem modRoute_kinds (c : ClassId) (f : RouteEntry → RouteEntry) (s : State) : (modRoute c f s).kinds = s.kinds := rfl
@[simp] theorem modRoute_register (c : ClassId) (f : RouteEntry → RouteEntry) (s : State) : (modRoute c f s).register = s.register := rfl
@[simp] theorem modRoute_current (c : ClassId) (f : RouteEntry → RouteEntry) (s : State) : (modRoute c f s).current = s.current := rfl
@[simp] theorem modRoute_closing (c : ClassId) (f : RouteEntry → RouteEntry) (s : State) : (modRoute c f s).closing = s.closing := rfl
@[simp] theorem modRoute_cashUps (c : ClassId) (f : RouteEntry → RouteEntry) (s : State) : (modRoute c f s).cashUps = s.cashUps := rfl
@[simp] theorem modRoute_dayTotals (c : ClassId) (f : RouteEntry → RouteEntry) (s : State) : (modRoute c f s).dayTotals = s.dayTotals := rfl
@[simp] theorem modRoute_pending (c : ClassId) (f : RouteEntry → RouteEntry) (s : State) : (modRoute c f s).pending = s.pending := rfl
@[simp] theorem modArbiter_powered (g : GroupId) (f : Arbiter → Arbiter) (s : State) : (modArbiter g f s).powered = s.powered := rfl
@[simp] theorem modArbiter_pciReset (g : GroupId) (f : Arbiter → Arbiter) (s : State) : (modArbiter g f s).pciReset = s.pciReset := rfl
@[simp] theorem modArbiter_start (g : GroupId) (f : Arbiter → Arbiter) (s : State) : (modArbiter g f s).start = s.start := rfl
@[simp] theorem modArbiter_checkWords (g : GroupId) (f : Arbiter → Arbiter) (s : State) : (modArbiter g f s).checkWords = s.checkWords := rfl
@[simp] theorem modArbiter_office (g : GroupId) (f : Arbiter → Arbiter) (s : State) : (modArbiter g f s).office = s.office := rfl
@[simp] theorem modArbiter_lamp (g : GroupId) (f : Arbiter → Arbiter) (s : State) : (modArbiter g f s).lamp = s.lamp := rfl
@[simp] theorem modArbiter_time (g : GroupId) (f : Arbiter → Arbiter) (s : State) : (modArbiter g f s).time = s.time := rfl
@[simp] theorem modArbiter_settings (g : GroupId) (f : Arbiter → Arbiter) (s : State) : (modArbiter g f s).settings = s.settings := rfl
@[simp] theorem modArbiter_port (g : GroupId) (f : Arbiter → Arbiter) (s : State) : (modArbiter g f s).port = s.port := rfl
@[simp] theorem modArbiter_windows (g : GroupId) (f : Arbiter → Arbiter) (s : State) : (modArbiter g f s).windows = s.windows := rfl
@[simp] theorem modArbiter_queues (g : GroupId) (f : Arbiter → Arbiter) (s : State) : (modArbiter g f s).queues = s.queues := rfl
@[simp] theorem modArbiter_jobs (g : GroupId) (f : Arbiter → Arbiter) (s : State) : (modArbiter g f s).jobs = s.jobs := rfl
@[simp] theorem modArbiter_freeStack (g : GroupId) (f : Arbiter → Arbiter) (s : State) : (modArbiter g f s).freeStack = s.freeStack := rfl
@[simp] theorem modArbiter_routes (g : GroupId) (f : Arbiter → Arbiter) (s : State) : (modArbiter g f s).routes = s.routes := rfl
@[simp] theorem modArbiter_arbiters (g : GroupId) (f : Arbiter → Arbiter) (s : State) :
    (modArbiter g f s).arbiters = upd s.arbiters g f := rfl
@[simp] theorem modArbiter_express (g : GroupId) (f : Arbiter → Arbiter) (s : State) : (modArbiter g f s).express = s.express := rfl
@[simp] theorem modArbiter_printers (g : GroupId) (f : Arbiter → Arbiter) (s : State) : (modArbiter g f s).printers = s.printers := rfl
@[simp] theorem modArbiter_lineConfigs (g : GroupId) (f : Arbiter → Arbiter) (s : State) : (modArbiter g f s).lineConfigs = s.lineConfigs := rfl
@[simp] theorem modArbiter_lines (g : GroupId) (f : Arbiter → Arbiter) (s : State) : (modArbiter g f s).lines = s.lines := rfl
@[simp] theorem modArbiter_lineRecords (g : GroupId) (f : Arbiter → Arbiter) (s : State) : (modArbiter g f s).lineRecords = s.lineRecords := rfl
@[simp] theorem modArbiter_magazines (g : GroupId) (f : Arbiter → Arbiter) (s : State) : (modArbiter g f s).magazines = s.magazines := rfl
@[simp] theorem modArbiter_kinds (g : GroupId) (f : Arbiter → Arbiter) (s : State) : (modArbiter g f s).kinds = s.kinds := rfl
@[simp] theorem modArbiter_register (g : GroupId) (f : Arbiter → Arbiter) (s : State) : (modArbiter g f s).register = s.register := rfl
@[simp] theorem modArbiter_current (g : GroupId) (f : Arbiter → Arbiter) (s : State) : (modArbiter g f s).current = s.current := rfl
@[simp] theorem modArbiter_closing (g : GroupId) (f : Arbiter → Arbiter) (s : State) : (modArbiter g f s).closing = s.closing := rfl
@[simp] theorem modArbiter_cashUps (g : GroupId) (f : Arbiter → Arbiter) (s : State) : (modArbiter g f s).cashUps = s.cashUps := rfl
@[simp] theorem modArbiter_dayTotals (g : GroupId) (f : Arbiter → Arbiter) (s : State) : (modArbiter g f s).dayTotals = s.dayTotals := rfl
@[simp] theorem modArbiter_pending (g : GroupId) (f : Arbiter → Arbiter) (s : State) : (modArbiter g f s).pending = s.pending := rfl
@[simp] theorem modExpress_powered (w : WindowId) (f : Nat → Nat) (s : State) : (modExpress w f s).powered = s.powered := rfl
@[simp] theorem modExpress_pciReset (w : WindowId) (f : Nat → Nat) (s : State) : (modExpress w f s).pciReset = s.pciReset := rfl
@[simp] theorem modExpress_start (w : WindowId) (f : Nat → Nat) (s : State) : (modExpress w f s).start = s.start := rfl
@[simp] theorem modExpress_checkWords (w : WindowId) (f : Nat → Nat) (s : State) : (modExpress w f s).checkWords = s.checkWords := rfl
@[simp] theorem modExpress_office (w : WindowId) (f : Nat → Nat) (s : State) : (modExpress w f s).office = s.office := rfl
@[simp] theorem modExpress_lamp (w : WindowId) (f : Nat → Nat) (s : State) : (modExpress w f s).lamp = s.lamp := rfl
@[simp] theorem modExpress_time (w : WindowId) (f : Nat → Nat) (s : State) : (modExpress w f s).time = s.time := rfl
@[simp] theorem modExpress_settings (w : WindowId) (f : Nat → Nat) (s : State) : (modExpress w f s).settings = s.settings := rfl
@[simp] theorem modExpress_port (w : WindowId) (f : Nat → Nat) (s : State) : (modExpress w f s).port = s.port := rfl
@[simp] theorem modExpress_windows (w : WindowId) (f : Nat → Nat) (s : State) : (modExpress w f s).windows = s.windows := rfl
@[simp] theorem modExpress_queues (w : WindowId) (f : Nat → Nat) (s : State) : (modExpress w f s).queues = s.queues := rfl
@[simp] theorem modExpress_jobs (w : WindowId) (f : Nat → Nat) (s : State) : (modExpress w f s).jobs = s.jobs := rfl
@[simp] theorem modExpress_freeStack (w : WindowId) (f : Nat → Nat) (s : State) : (modExpress w f s).freeStack = s.freeStack := rfl
@[simp] theorem modExpress_routes (w : WindowId) (f : Nat → Nat) (s : State) : (modExpress w f s).routes = s.routes := rfl
@[simp] theorem modExpress_arbiters (w : WindowId) (f : Nat → Nat) (s : State) : (modExpress w f s).arbiters = s.arbiters := rfl
@[simp] theorem modExpress_express (w : WindowId) (f : Nat → Nat) (s : State) :
    (modExpress w f s).express = upd s.express w f := rfl
@[simp] theorem modExpress_printers (w : WindowId) (f : Nat → Nat) (s : State) : (modExpress w f s).printers = s.printers := rfl
@[simp] theorem modExpress_lineConfigs (w : WindowId) (f : Nat → Nat) (s : State) : (modExpress w f s).lineConfigs = s.lineConfigs := rfl
@[simp] theorem modExpress_lines (w : WindowId) (f : Nat → Nat) (s : State) : (modExpress w f s).lines = s.lines := rfl
@[simp] theorem modExpress_lineRecords (w : WindowId) (f : Nat → Nat) (s : State) : (modExpress w f s).lineRecords = s.lineRecords := rfl
@[simp] theorem modExpress_magazines (w : WindowId) (f : Nat → Nat) (s : State) : (modExpress w f s).magazines = s.magazines := rfl
@[simp] theorem modExpress_kinds (w : WindowId) (f : Nat → Nat) (s : State) : (modExpress w f s).kinds = s.kinds := rfl
@[simp] theorem modExpress_register (w : WindowId) (f : Nat → Nat) (s : State) : (modExpress w f s).register = s.register := rfl
@[simp] theorem modExpress_current (w : WindowId) (f : Nat → Nat) (s : State) : (modExpress w f s).current = s.current := rfl
@[simp] theorem modExpress_closing (w : WindowId) (f : Nat → Nat) (s : State) : (modExpress w f s).closing = s.closing := rfl
@[simp] theorem modExpress_cashUps (w : WindowId) (f : Nat → Nat) (s : State) : (modExpress w f s).cashUps = s.cashUps := rfl
@[simp] theorem modExpress_dayTotals (w : WindowId) (f : Nat → Nat) (s : State) : (modExpress w f s).dayTotals = s.dayTotals := rfl
@[simp] theorem modExpress_pending (w : WindowId) (f : Nat → Nat) (s : State) : (modExpress w f s).pending = s.pending := rfl
@[simp] theorem modPrinter_powered (p : PrinterId) (f : Printer → Printer) (s : State) : (modPrinter p f s).powered = s.powered := rfl
@[simp] theorem modPrinter_pciReset (p : PrinterId) (f : Printer → Printer) (s : State) : (modPrinter p f s).pciReset = s.pciReset := rfl
@[simp] theorem modPrinter_start (p : PrinterId) (f : Printer → Printer) (s : State) : (modPrinter p f s).start = s.start := rfl
@[simp] theorem modPrinter_checkWords (p : PrinterId) (f : Printer → Printer) (s : State) : (modPrinter p f s).checkWords = s.checkWords := rfl
@[simp] theorem modPrinter_office (p : PrinterId) (f : Printer → Printer) (s : State) : (modPrinter p f s).office = s.office := rfl
@[simp] theorem modPrinter_lamp (p : PrinterId) (f : Printer → Printer) (s : State) : (modPrinter p f s).lamp = s.lamp := rfl
@[simp] theorem modPrinter_time (p : PrinterId) (f : Printer → Printer) (s : State) : (modPrinter p f s).time = s.time := rfl
@[simp] theorem modPrinter_settings (p : PrinterId) (f : Printer → Printer) (s : State) : (modPrinter p f s).settings = s.settings := rfl
@[simp] theorem modPrinter_port (p : PrinterId) (f : Printer → Printer) (s : State) : (modPrinter p f s).port = s.port := rfl
@[simp] theorem modPrinter_windows (p : PrinterId) (f : Printer → Printer) (s : State) : (modPrinter p f s).windows = s.windows := rfl
@[simp] theorem modPrinter_queues (p : PrinterId) (f : Printer → Printer) (s : State) : (modPrinter p f s).queues = s.queues := rfl
@[simp] theorem modPrinter_jobs (p : PrinterId) (f : Printer → Printer) (s : State) : (modPrinter p f s).jobs = s.jobs := rfl
@[simp] theorem modPrinter_freeStack (p : PrinterId) (f : Printer → Printer) (s : State) : (modPrinter p f s).freeStack = s.freeStack := rfl
@[simp] theorem modPrinter_routes (p : PrinterId) (f : Printer → Printer) (s : State) : (modPrinter p f s).routes = s.routes := rfl
@[simp] theorem modPrinter_arbiters (p : PrinterId) (f : Printer → Printer) (s : State) : (modPrinter p f s).arbiters = s.arbiters := rfl
@[simp] theorem modPrinter_express (p : PrinterId) (f : Printer → Printer) (s : State) : (modPrinter p f s).express = s.express := rfl
@[simp] theorem modPrinter_printers (p : PrinterId) (f : Printer → Printer) (s : State) :
    (modPrinter p f s).printers = upd s.printers p f := rfl
@[simp] theorem modPrinter_lineConfigs (p : PrinterId) (f : Printer → Printer) (s : State) : (modPrinter p f s).lineConfigs = s.lineConfigs := rfl
@[simp] theorem modPrinter_lines (p : PrinterId) (f : Printer → Printer) (s : State) : (modPrinter p f s).lines = s.lines := rfl
@[simp] theorem modPrinter_lineRecords (p : PrinterId) (f : Printer → Printer) (s : State) : (modPrinter p f s).lineRecords = s.lineRecords := rfl
@[simp] theorem modPrinter_magazines (p : PrinterId) (f : Printer → Printer) (s : State) : (modPrinter p f s).magazines = s.magazines := rfl
@[simp] theorem modPrinter_kinds (p : PrinterId) (f : Printer → Printer) (s : State) : (modPrinter p f s).kinds = s.kinds := rfl
@[simp] theorem modPrinter_register (p : PrinterId) (f : Printer → Printer) (s : State) : (modPrinter p f s).register = s.register := rfl
@[simp] theorem modPrinter_current (p : PrinterId) (f : Printer → Printer) (s : State) : (modPrinter p f s).current = s.current := rfl
@[simp] theorem modPrinter_closing (p : PrinterId) (f : Printer → Printer) (s : State) : (modPrinter p f s).closing = s.closing := rfl
@[simp] theorem modPrinter_cashUps (p : PrinterId) (f : Printer → Printer) (s : State) : (modPrinter p f s).cashUps = s.cashUps := rfl
@[simp] theorem modPrinter_dayTotals (p : PrinterId) (f : Printer → Printer) (s : State) : (modPrinter p f s).dayTotals = s.dayTotals := rfl
@[simp] theorem modPrinter_pending (p : PrinterId) (f : Printer → Printer) (s : State) : (modPrinter p f s).pending = s.pending := rfl
@[simp] theorem modLineConfig_powered (l : LineId) (f : LineConfig → LineConfig) (s : State) : (modLineConfig l f s).powered = s.powered := rfl
@[simp] theorem modLineConfig_pciReset (l : LineId) (f : LineConfig → LineConfig) (s : State) : (modLineConfig l f s).pciReset = s.pciReset := rfl
@[simp] theorem modLineConfig_start (l : LineId) (f : LineConfig → LineConfig) (s : State) : (modLineConfig l f s).start = s.start := rfl
@[simp] theorem modLineConfig_checkWords (l : LineId) (f : LineConfig → LineConfig) (s : State) : (modLineConfig l f s).checkWords = s.checkWords := rfl
@[simp] theorem modLineConfig_office (l : LineId) (f : LineConfig → LineConfig) (s : State) : (modLineConfig l f s).office = s.office := rfl
@[simp] theorem modLineConfig_lamp (l : LineId) (f : LineConfig → LineConfig) (s : State) : (modLineConfig l f s).lamp = s.lamp := rfl
@[simp] theorem modLineConfig_time (l : LineId) (f : LineConfig → LineConfig) (s : State) : (modLineConfig l f s).time = s.time := rfl
@[simp] theorem modLineConfig_settings (l : LineId) (f : LineConfig → LineConfig) (s : State) : (modLineConfig l f s).settings = s.settings := rfl
@[simp] theorem modLineConfig_port (l : LineId) (f : LineConfig → LineConfig) (s : State) : (modLineConfig l f s).port = s.port := rfl
@[simp] theorem modLineConfig_windows (l : LineId) (f : LineConfig → LineConfig) (s : State) : (modLineConfig l f s).windows = s.windows := rfl
@[simp] theorem modLineConfig_queues (l : LineId) (f : LineConfig → LineConfig) (s : State) : (modLineConfig l f s).queues = s.queues := rfl
@[simp] theorem modLineConfig_jobs (l : LineId) (f : LineConfig → LineConfig) (s : State) : (modLineConfig l f s).jobs = s.jobs := rfl
@[simp] theorem modLineConfig_freeStack (l : LineId) (f : LineConfig → LineConfig) (s : State) : (modLineConfig l f s).freeStack = s.freeStack := rfl
@[simp] theorem modLineConfig_routes (l : LineId) (f : LineConfig → LineConfig) (s : State) : (modLineConfig l f s).routes = s.routes := rfl
@[simp] theorem modLineConfig_arbiters (l : LineId) (f : LineConfig → LineConfig) (s : State) : (modLineConfig l f s).arbiters = s.arbiters := rfl
@[simp] theorem modLineConfig_express (l : LineId) (f : LineConfig → LineConfig) (s : State) : (modLineConfig l f s).express = s.express := rfl
@[simp] theorem modLineConfig_printers (l : LineId) (f : LineConfig → LineConfig) (s : State) : (modLineConfig l f s).printers = s.printers := rfl
@[simp] theorem modLineConfig_lineConfigs (l : LineId) (f : LineConfig → LineConfig) (s : State) :
    (modLineConfig l f s).lineConfigs = upd s.lineConfigs l f := rfl
@[simp] theorem modLineConfig_lines (l : LineId) (f : LineConfig → LineConfig) (s : State) : (modLineConfig l f s).lines = s.lines := rfl
@[simp] theorem modLineConfig_lineRecords (l : LineId) (f : LineConfig → LineConfig) (s : State) : (modLineConfig l f s).lineRecords = s.lineRecords := rfl
@[simp] theorem modLineConfig_magazines (l : LineId) (f : LineConfig → LineConfig) (s : State) : (modLineConfig l f s).magazines = s.magazines := rfl
@[simp] theorem modLineConfig_kinds (l : LineId) (f : LineConfig → LineConfig) (s : State) : (modLineConfig l f s).kinds = s.kinds := rfl
@[simp] theorem modLineConfig_register (l : LineId) (f : LineConfig → LineConfig) (s : State) : (modLineConfig l f s).register = s.register := rfl
@[simp] theorem modLineConfig_current (l : LineId) (f : LineConfig → LineConfig) (s : State) : (modLineConfig l f s).current = s.current := rfl
@[simp] theorem modLineConfig_closing (l : LineId) (f : LineConfig → LineConfig) (s : State) : (modLineConfig l f s).closing = s.closing := rfl
@[simp] theorem modLineConfig_cashUps (l : LineId) (f : LineConfig → LineConfig) (s : State) : (modLineConfig l f s).cashUps = s.cashUps := rfl
@[simp] theorem modLineConfig_dayTotals (l : LineId) (f : LineConfig → LineConfig) (s : State) : (modLineConfig l f s).dayTotals = s.dayTotals := rfl
@[simp] theorem modLineConfig_pending (l : LineId) (f : LineConfig → LineConfig) (s : State) : (modLineConfig l f s).pending = s.pending := rfl
@[simp] theorem modLine_powered (l : LineId) (f : Line → Line) (s : State) : (modLine l f s).powered = s.powered := rfl
@[simp] theorem modLine_pciReset (l : LineId) (f : Line → Line) (s : State) : (modLine l f s).pciReset = s.pciReset := rfl
@[simp] theorem modLine_start (l : LineId) (f : Line → Line) (s : State) : (modLine l f s).start = s.start := rfl
@[simp] theorem modLine_checkWords (l : LineId) (f : Line → Line) (s : State) : (modLine l f s).checkWords = s.checkWords := rfl
@[simp] theorem modLine_office (l : LineId) (f : Line → Line) (s : State) : (modLine l f s).office = s.office := rfl
@[simp] theorem modLine_lamp (l : LineId) (f : Line → Line) (s : State) : (modLine l f s).lamp = s.lamp := rfl
@[simp] theorem modLine_time (l : LineId) (f : Line → Line) (s : State) : (modLine l f s).time = s.time := rfl
@[simp] theorem modLine_settings (l : LineId) (f : Line → Line) (s : State) : (modLine l f s).settings = s.settings := rfl
@[simp] theorem modLine_port (l : LineId) (f : Line → Line) (s : State) : (modLine l f s).port = s.port := rfl
@[simp] theorem modLine_windows (l : LineId) (f : Line → Line) (s : State) : (modLine l f s).windows = s.windows := rfl
@[simp] theorem modLine_queues (l : LineId) (f : Line → Line) (s : State) : (modLine l f s).queues = s.queues := rfl
@[simp] theorem modLine_jobs (l : LineId) (f : Line → Line) (s : State) : (modLine l f s).jobs = s.jobs := rfl
@[simp] theorem modLine_freeStack (l : LineId) (f : Line → Line) (s : State) : (modLine l f s).freeStack = s.freeStack := rfl
@[simp] theorem modLine_routes (l : LineId) (f : Line → Line) (s : State) : (modLine l f s).routes = s.routes := rfl
@[simp] theorem modLine_arbiters (l : LineId) (f : Line → Line) (s : State) : (modLine l f s).arbiters = s.arbiters := rfl
@[simp] theorem modLine_express (l : LineId) (f : Line → Line) (s : State) : (modLine l f s).express = s.express := rfl
@[simp] theorem modLine_printers (l : LineId) (f : Line → Line) (s : State) : (modLine l f s).printers = s.printers := rfl
@[simp] theorem modLine_lineConfigs (l : LineId) (f : Line → Line) (s : State) : (modLine l f s).lineConfigs = s.lineConfigs := rfl
@[simp] theorem modLine_lines (l : LineId) (f : Line → Line) (s : State) :
    (modLine l f s).lines = upd s.lines l f := rfl
@[simp] theorem modLine_lineRecords (l : LineId) (f : Line → Line) (s : State) : (modLine l f s).lineRecords = s.lineRecords := rfl
@[simp] theorem modLine_magazines (l : LineId) (f : Line → Line) (s : State) : (modLine l f s).magazines = s.magazines := rfl
@[simp] theorem modLine_kinds (l : LineId) (f : Line → Line) (s : State) : (modLine l f s).kinds = s.kinds := rfl
@[simp] theorem modLine_register (l : LineId) (f : Line → Line) (s : State) : (modLine l f s).register = s.register := rfl
@[simp] theorem modLine_current (l : LineId) (f : Line → Line) (s : State) : (modLine l f s).current = s.current := rfl
@[simp] theorem modLine_closing (l : LineId) (f : Line → Line) (s : State) : (modLine l f s).closing = s.closing := rfl
@[simp] theorem modLine_cashUps (l : LineId) (f : Line → Line) (s : State) : (modLine l f s).cashUps = s.cashUps := rfl
@[simp] theorem modLine_dayTotals (l : LineId) (f : Line → Line) (s : State) : (modLine l f s).dayTotals = s.dayTotals := rfl
@[simp] theorem modLine_pending (l : LineId) (f : Line → Line) (s : State) : (modLine l f s).pending = s.pending := rfl
@[simp] theorem modLineRecord_powered (p : PrinterId) (f : LineRecord → LineRecord) (s : State) : (modLineRecord p f s).powered = s.powered := rfl
@[simp] theorem modLineRecord_pciReset (p : PrinterId) (f : LineRecord → LineRecord) (s : State) : (modLineRecord p f s).pciReset = s.pciReset := rfl
@[simp] theorem modLineRecord_start (p : PrinterId) (f : LineRecord → LineRecord) (s : State) : (modLineRecord p f s).start = s.start := rfl
@[simp] theorem modLineRecord_checkWords (p : PrinterId) (f : LineRecord → LineRecord) (s : State) : (modLineRecord p f s).checkWords = s.checkWords := rfl
@[simp] theorem modLineRecord_office (p : PrinterId) (f : LineRecord → LineRecord) (s : State) : (modLineRecord p f s).office = s.office := rfl
@[simp] theorem modLineRecord_lamp (p : PrinterId) (f : LineRecord → LineRecord) (s : State) : (modLineRecord p f s).lamp = s.lamp := rfl
@[simp] theorem modLineRecord_time (p : PrinterId) (f : LineRecord → LineRecord) (s : State) : (modLineRecord p f s).time = s.time := rfl
@[simp] theorem modLineRecord_settings (p : PrinterId) (f : LineRecord → LineRecord) (s : State) : (modLineRecord p f s).settings = s.settings := rfl
@[simp] theorem modLineRecord_port (p : PrinterId) (f : LineRecord → LineRecord) (s : State) : (modLineRecord p f s).port = s.port := rfl
@[simp] theorem modLineRecord_windows (p : PrinterId) (f : LineRecord → LineRecord) (s : State) : (modLineRecord p f s).windows = s.windows := rfl
@[simp] theorem modLineRecord_queues (p : PrinterId) (f : LineRecord → LineRecord) (s : State) : (modLineRecord p f s).queues = s.queues := rfl
@[simp] theorem modLineRecord_jobs (p : PrinterId) (f : LineRecord → LineRecord) (s : State) : (modLineRecord p f s).jobs = s.jobs := rfl
@[simp] theorem modLineRecord_freeStack (p : PrinterId) (f : LineRecord → LineRecord) (s : State) : (modLineRecord p f s).freeStack = s.freeStack := rfl
@[simp] theorem modLineRecord_routes (p : PrinterId) (f : LineRecord → LineRecord) (s : State) : (modLineRecord p f s).routes = s.routes := rfl
@[simp] theorem modLineRecord_arbiters (p : PrinterId) (f : LineRecord → LineRecord) (s : State) : (modLineRecord p f s).arbiters = s.arbiters := rfl
@[simp] theorem modLineRecord_express (p : PrinterId) (f : LineRecord → LineRecord) (s : State) : (modLineRecord p f s).express = s.express := rfl
@[simp] theorem modLineRecord_printers (p : PrinterId) (f : LineRecord → LineRecord) (s : State) : (modLineRecord p f s).printers = s.printers := rfl
@[simp] theorem modLineRecord_lineConfigs (p : PrinterId) (f : LineRecord → LineRecord) (s : State) : (modLineRecord p f s).lineConfigs = s.lineConfigs := rfl
@[simp] theorem modLineRecord_lines (p : PrinterId) (f : LineRecord → LineRecord) (s : State) : (modLineRecord p f s).lines = s.lines := rfl
@[simp] theorem modLineRecord_lineRecords (p : PrinterId) (f : LineRecord → LineRecord) (s : State) :
    (modLineRecord p f s).lineRecords = upd s.lineRecords p f := rfl
@[simp] theorem modLineRecord_magazines (p : PrinterId) (f : LineRecord → LineRecord) (s : State) : (modLineRecord p f s).magazines = s.magazines := rfl
@[simp] theorem modLineRecord_kinds (p : PrinterId) (f : LineRecord → LineRecord) (s : State) : (modLineRecord p f s).kinds = s.kinds := rfl
@[simp] theorem modLineRecord_register (p : PrinterId) (f : LineRecord → LineRecord) (s : State) : (modLineRecord p f s).register = s.register := rfl
@[simp] theorem modLineRecord_current (p : PrinterId) (f : LineRecord → LineRecord) (s : State) : (modLineRecord p f s).current = s.current := rfl
@[simp] theorem modLineRecord_closing (p : PrinterId) (f : LineRecord → LineRecord) (s : State) : (modLineRecord p f s).closing = s.closing := rfl
@[simp] theorem modLineRecord_cashUps (p : PrinterId) (f : LineRecord → LineRecord) (s : State) : (modLineRecord p f s).cashUps = s.cashUps := rfl
@[simp] theorem modLineRecord_dayTotals (p : PrinterId) (f : LineRecord → LineRecord) (s : State) : (modLineRecord p f s).dayTotals = s.dayTotals := rfl
@[simp] theorem modLineRecord_pending (p : PrinterId) (f : LineRecord → LineRecord) (s : State) : (modLineRecord p f s).pending = s.pending := rfl
@[simp] theorem modKind_powered (k : KindId) (f : StockKind → StockKind) (s : State) : (modKind k f s).powered = s.powered := rfl
@[simp] theorem modKind_pciReset (k : KindId) (f : StockKind → StockKind) (s : State) : (modKind k f s).pciReset = s.pciReset := rfl
@[simp] theorem modKind_start (k : KindId) (f : StockKind → StockKind) (s : State) : (modKind k f s).start = s.start := rfl
@[simp] theorem modKind_checkWords (k : KindId) (f : StockKind → StockKind) (s : State) : (modKind k f s).checkWords = s.checkWords := rfl
@[simp] theorem modKind_office (k : KindId) (f : StockKind → StockKind) (s : State) : (modKind k f s).office = s.office := rfl
@[simp] theorem modKind_lamp (k : KindId) (f : StockKind → StockKind) (s : State) : (modKind k f s).lamp = s.lamp := rfl
@[simp] theorem modKind_time (k : KindId) (f : StockKind → StockKind) (s : State) : (modKind k f s).time = s.time := rfl
@[simp] theorem modKind_settings (k : KindId) (f : StockKind → StockKind) (s : State) : (modKind k f s).settings = s.settings := rfl
@[simp] theorem modKind_port (k : KindId) (f : StockKind → StockKind) (s : State) : (modKind k f s).port = s.port := rfl
@[simp] theorem modKind_windows (k : KindId) (f : StockKind → StockKind) (s : State) : (modKind k f s).windows = s.windows := rfl
@[simp] theorem modKind_queues (k : KindId) (f : StockKind → StockKind) (s : State) : (modKind k f s).queues = s.queues := rfl
@[simp] theorem modKind_jobs (k : KindId) (f : StockKind → StockKind) (s : State) : (modKind k f s).jobs = s.jobs := rfl
@[simp] theorem modKind_freeStack (k : KindId) (f : StockKind → StockKind) (s : State) : (modKind k f s).freeStack = s.freeStack := rfl
@[simp] theorem modKind_routes (k : KindId) (f : StockKind → StockKind) (s : State) : (modKind k f s).routes = s.routes := rfl
@[simp] theorem modKind_arbiters (k : KindId) (f : StockKind → StockKind) (s : State) : (modKind k f s).arbiters = s.arbiters := rfl
@[simp] theorem modKind_express (k : KindId) (f : StockKind → StockKind) (s : State) : (modKind k f s).express = s.express := rfl
@[simp] theorem modKind_printers (k : KindId) (f : StockKind → StockKind) (s : State) : (modKind k f s).printers = s.printers := rfl
@[simp] theorem modKind_lineConfigs (k : KindId) (f : StockKind → StockKind) (s : State) : (modKind k f s).lineConfigs = s.lineConfigs := rfl
@[simp] theorem modKind_lines (k : KindId) (f : StockKind → StockKind) (s : State) : (modKind k f s).lines = s.lines := rfl
@[simp] theorem modKind_lineRecords (k : KindId) (f : StockKind → StockKind) (s : State) : (modKind k f s).lineRecords = s.lineRecords := rfl
@[simp] theorem modKind_magazines (k : KindId) (f : StockKind → StockKind) (s : State) : (modKind k f s).magazines = s.magazines := rfl
@[simp] theorem modKind_kinds (k : KindId) (f : StockKind → StockKind) (s : State) :
    (modKind k f s).kinds = upd s.kinds k f := rfl
@[simp] theorem modKind_register (k : KindId) (f : StockKind → StockKind) (s : State) : (modKind k f s).register = s.register := rfl
@[simp] theorem modKind_current (k : KindId) (f : StockKind → StockKind) (s : State) : (modKind k f s).current = s.current := rfl
@[simp] theorem modKind_closing (k : KindId) (f : StockKind → StockKind) (s : State) : (modKind k f s).closing = s.closing := rfl
@[simp] theorem modKind_cashUps (k : KindId) (f : StockKind → StockKind) (s : State) : (modKind k f s).cashUps = s.cashUps := rfl
@[simp] theorem modKind_dayTotals (k : KindId) (f : StockKind → StockKind) (s : State) : (modKind k f s).dayTotals = s.dayTotals := rfl
@[simp] theorem modKind_pending (k : KindId) (f : StockKind → StockKind) (s : State) : (modKind k f s).pending = s.pending := rfl
@[simp] theorem modCurrent_powered (w : WindowId) (f : Tally → Tally) (s : State) : (modCurrent w f s).powered = s.powered := rfl
@[simp] theorem modCurrent_pciReset (w : WindowId) (f : Tally → Tally) (s : State) : (modCurrent w f s).pciReset = s.pciReset := rfl
@[simp] theorem modCurrent_start (w : WindowId) (f : Tally → Tally) (s : State) : (modCurrent w f s).start = s.start := rfl
@[simp] theorem modCurrent_checkWords (w : WindowId) (f : Tally → Tally) (s : State) : (modCurrent w f s).checkWords = s.checkWords := rfl
@[simp] theorem modCurrent_office (w : WindowId) (f : Tally → Tally) (s : State) : (modCurrent w f s).office = s.office := rfl
@[simp] theorem modCurrent_lamp (w : WindowId) (f : Tally → Tally) (s : State) : (modCurrent w f s).lamp = s.lamp := rfl
@[simp] theorem modCurrent_time (w : WindowId) (f : Tally → Tally) (s : State) : (modCurrent w f s).time = s.time := rfl
@[simp] theorem modCurrent_settings (w : WindowId) (f : Tally → Tally) (s : State) : (modCurrent w f s).settings = s.settings := rfl
@[simp] theorem modCurrent_port (w : WindowId) (f : Tally → Tally) (s : State) : (modCurrent w f s).port = s.port := rfl
@[simp] theorem modCurrent_windows (w : WindowId) (f : Tally → Tally) (s : State) : (modCurrent w f s).windows = s.windows := rfl
@[simp] theorem modCurrent_queues (w : WindowId) (f : Tally → Tally) (s : State) : (modCurrent w f s).queues = s.queues := rfl
@[simp] theorem modCurrent_jobs (w : WindowId) (f : Tally → Tally) (s : State) : (modCurrent w f s).jobs = s.jobs := rfl
@[simp] theorem modCurrent_freeStack (w : WindowId) (f : Tally → Tally) (s : State) : (modCurrent w f s).freeStack = s.freeStack := rfl
@[simp] theorem modCurrent_routes (w : WindowId) (f : Tally → Tally) (s : State) : (modCurrent w f s).routes = s.routes := rfl
@[simp] theorem modCurrent_arbiters (w : WindowId) (f : Tally → Tally) (s : State) : (modCurrent w f s).arbiters = s.arbiters := rfl
@[simp] theorem modCurrent_express (w : WindowId) (f : Tally → Tally) (s : State) : (modCurrent w f s).express = s.express := rfl
@[simp] theorem modCurrent_printers (w : WindowId) (f : Tally → Tally) (s : State) : (modCurrent w f s).printers = s.printers := rfl
@[simp] theorem modCurrent_lineConfigs (w : WindowId) (f : Tally → Tally) (s : State) : (modCurrent w f s).lineConfigs = s.lineConfigs := rfl
@[simp] theorem modCurrent_lines (w : WindowId) (f : Tally → Tally) (s : State) : (modCurrent w f s).lines = s.lines := rfl
@[simp] theorem modCurrent_lineRecords (w : WindowId) (f : Tally → Tally) (s : State) : (modCurrent w f s).lineRecords = s.lineRecords := rfl
@[simp] theorem modCurrent_magazines (w : WindowId) (f : Tally → Tally) (s : State) : (modCurrent w f s).magazines = s.magazines := rfl
@[simp] theorem modCurrent_kinds (w : WindowId) (f : Tally → Tally) (s : State) : (modCurrent w f s).kinds = s.kinds := rfl
@[simp] theorem modCurrent_register (w : WindowId) (f : Tally → Tally) (s : State) : (modCurrent w f s).register = s.register := rfl
@[simp] theorem modCurrent_current (w : WindowId) (f : Tally → Tally) (s : State) :
    (modCurrent w f s).current = upd s.current w f := rfl
@[simp] theorem modCurrent_closing (w : WindowId) (f : Tally → Tally) (s : State) : (modCurrent w f s).closing = s.closing := rfl
@[simp] theorem modCurrent_cashUps (w : WindowId) (f : Tally → Tally) (s : State) : (modCurrent w f s).cashUps = s.cashUps := rfl
@[simp] theorem modCurrent_dayTotals (w : WindowId) (f : Tally → Tally) (s : State) : (modCurrent w f s).dayTotals = s.dayTotals := rfl
@[simp] theorem modCurrent_pending (w : WindowId) (f : Tally → Tally) (s : State) : (modCurrent w f s).pending = s.pending := rfl
@[simp] theorem modDayTotals_powered (f : DayTotals → DayTotals) (s : State) : (modDayTotals f s).powered = s.powered := rfl
@[simp] theorem modDayTotals_pciReset (f : DayTotals → DayTotals) (s : State) : (modDayTotals f s).pciReset = s.pciReset := rfl
@[simp] theorem modDayTotals_start (f : DayTotals → DayTotals) (s : State) : (modDayTotals f s).start = s.start := rfl
@[simp] theorem modDayTotals_checkWords (f : DayTotals → DayTotals) (s : State) : (modDayTotals f s).checkWords = s.checkWords := rfl
@[simp] theorem modDayTotals_office (f : DayTotals → DayTotals) (s : State) : (modDayTotals f s).office = s.office := rfl
@[simp] theorem modDayTotals_lamp (f : DayTotals → DayTotals) (s : State) : (modDayTotals f s).lamp = s.lamp := rfl
@[simp] theorem modDayTotals_time (f : DayTotals → DayTotals) (s : State) : (modDayTotals f s).time = s.time := rfl
@[simp] theorem modDayTotals_settings (f : DayTotals → DayTotals) (s : State) : (modDayTotals f s).settings = s.settings := rfl
@[simp] theorem modDayTotals_port (f : DayTotals → DayTotals) (s : State) : (modDayTotals f s).port = s.port := rfl
@[simp] theorem modDayTotals_windows (f : DayTotals → DayTotals) (s : State) : (modDayTotals f s).windows = s.windows := rfl
@[simp] theorem modDayTotals_queues (f : DayTotals → DayTotals) (s : State) : (modDayTotals f s).queues = s.queues := rfl
@[simp] theorem modDayTotals_jobs (f : DayTotals → DayTotals) (s : State) : (modDayTotals f s).jobs = s.jobs := rfl
@[simp] theorem modDayTotals_freeStack (f : DayTotals → DayTotals) (s : State) : (modDayTotals f s).freeStack = s.freeStack := rfl
@[simp] theorem modDayTotals_routes (f : DayTotals → DayTotals) (s : State) : (modDayTotals f s).routes = s.routes := rfl
@[simp] theorem modDayTotals_arbiters (f : DayTotals → DayTotals) (s : State) : (modDayTotals f s).arbiters = s.arbiters := rfl
@[simp] theorem modDayTotals_express (f : DayTotals → DayTotals) (s : State) : (modDayTotals f s).express = s.express := rfl
@[simp] theorem modDayTotals_printers (f : DayTotals → DayTotals) (s : State) : (modDayTotals f s).printers = s.printers := rfl
@[simp] theorem modDayTotals_lineConfigs (f : DayTotals → DayTotals) (s : State) : (modDayTotals f s).lineConfigs = s.lineConfigs := rfl
@[simp] theorem modDayTotals_lines (f : DayTotals → DayTotals) (s : State) : (modDayTotals f s).lines = s.lines := rfl
@[simp] theorem modDayTotals_lineRecords (f : DayTotals → DayTotals) (s : State) : (modDayTotals f s).lineRecords = s.lineRecords := rfl
@[simp] theorem modDayTotals_magazines (f : DayTotals → DayTotals) (s : State) : (modDayTotals f s).magazines = s.magazines := rfl
@[simp] theorem modDayTotals_kinds (f : DayTotals → DayTotals) (s : State) : (modDayTotals f s).kinds = s.kinds := rfl
@[simp] theorem modDayTotals_register (f : DayTotals → DayTotals) (s : State) : (modDayTotals f s).register = s.register := rfl
@[simp] theorem modDayTotals_current (f : DayTotals → DayTotals) (s : State) : (modDayTotals f s).current = s.current := rfl
@[simp] theorem modDayTotals_closing (f : DayTotals → DayTotals) (s : State) : (modDayTotals f s).closing = s.closing := rfl
@[simp] theorem modDayTotals_cashUps (f : DayTotals → DayTotals) (s : State) : (modDayTotals f s).cashUps = s.cashUps := rfl
@[simp] theorem modDayTotals_dayTotals (f : DayTotals → DayTotals) (s : State) :
    (modDayTotals f s).dayTotals = f s.dayTotals := rfl
@[simp] theorem modDayTotals_pending (f : DayTotals → DayTotals) (s : State) : (modDayTotals f s).pending = s.pending := rfl
@[simp] theorem modJob_powered (i : JobIx) (f : Job → Job) (s : State) : (modJob i f s).powered = s.powered := rfl
@[simp] theorem modJob_pciReset (i : JobIx) (f : Job → Job) (s : State) : (modJob i f s).pciReset = s.pciReset := rfl
@[simp] theorem modJob_start (i : JobIx) (f : Job → Job) (s : State) : (modJob i f s).start = s.start := rfl
@[simp] theorem modJob_checkWords (i : JobIx) (f : Job → Job) (s : State) : (modJob i f s).checkWords = s.checkWords := rfl
@[simp] theorem modJob_office (i : JobIx) (f : Job → Job) (s : State) : (modJob i f s).office = s.office := rfl
@[simp] theorem modJob_lamp (i : JobIx) (f : Job → Job) (s : State) : (modJob i f s).lamp = s.lamp := rfl
@[simp] theorem modJob_time (i : JobIx) (f : Job → Job) (s : State) : (modJob i f s).time = s.time := rfl
@[simp] theorem modJob_settings (i : JobIx) (f : Job → Job) (s : State) : (modJob i f s).settings = s.settings := rfl
@[simp] theorem modJob_port (i : JobIx) (f : Job → Job) (s : State) : (modJob i f s).port = s.port := rfl
@[simp] theorem modJob_windows (i : JobIx) (f : Job → Job) (s : State) : (modJob i f s).windows = s.windows := rfl
@[simp] theorem modJob_queues (i : JobIx) (f : Job → Job) (s : State) : (modJob i f s).queues = s.queues := rfl
@[simp] theorem modJob_jobs (i : JobIx) (f : Job → Job) (s : State) :
    (modJob i f s).jobs = upd s.jobs i fun r => { r with job := r.job.map f } := rfl
@[simp] theorem modJob_freeStack (i : JobIx) (f : Job → Job) (s : State) : (modJob i f s).freeStack = s.freeStack := rfl
@[simp] theorem modJob_routes (i : JobIx) (f : Job → Job) (s : State) : (modJob i f s).routes = s.routes := rfl
@[simp] theorem modJob_arbiters (i : JobIx) (f : Job → Job) (s : State) : (modJob i f s).arbiters = s.arbiters := rfl
@[simp] theorem modJob_express (i : JobIx) (f : Job → Job) (s : State) : (modJob i f s).express = s.express := rfl
@[simp] theorem modJob_printers (i : JobIx) (f : Job → Job) (s : State) : (modJob i f s).printers = s.printers := rfl
@[simp] theorem modJob_lineConfigs (i : JobIx) (f : Job → Job) (s : State) : (modJob i f s).lineConfigs = s.lineConfigs := rfl
@[simp] theorem modJob_lines (i : JobIx) (f : Job → Job) (s : State) : (modJob i f s).lines = s.lines := rfl
@[simp] theorem modJob_lineRecords (i : JobIx) (f : Job → Job) (s : State) : (modJob i f s).lineRecords = s.lineRecords := rfl
@[simp] theorem modJob_magazines (i : JobIx) (f : Job → Job) (s : State) : (modJob i f s).magazines = s.magazines := rfl
@[simp] theorem modJob_kinds (i : JobIx) (f : Job → Job) (s : State) : (modJob i f s).kinds = s.kinds := rfl
@[simp] theorem modJob_register (i : JobIx) (f : Job → Job) (s : State) : (modJob i f s).register = s.register := rfl
@[simp] theorem modJob_current (i : JobIx) (f : Job → Job) (s : State) : (modJob i f s).current = s.current := rfl
@[simp] theorem modJob_closing (i : JobIx) (f : Job → Job) (s : State) : (modJob i f s).closing = s.closing := rfl
@[simp] theorem modJob_cashUps (i : JobIx) (f : Job → Job) (s : State) : (modJob i f s).cashUps = s.cashUps := rfl
@[simp] theorem modJob_dayTotals (i : JobIx) (f : Job → Job) (s : State) : (modJob i f s).dayTotals = s.dayTotals := rfl
@[simp] theorem modJob_pending (i : JobIx) (f : Job → Job) (s : State) : (modJob i f s).pending = s.pending := rfl
@[simp] theorem withPending_powered (s : State) (l : List Instr) : (s.withPending l).powered = s.powered := rfl
@[simp] theorem withPending_pciReset (s : State) (l : List Instr) : (s.withPending l).pciReset = s.pciReset := rfl
@[simp] theorem withPending_start (s : State) (l : List Instr) : (s.withPending l).start = s.start := rfl
@[simp] theorem withPending_checkWords (s : State) (l : List Instr) : (s.withPending l).checkWords = s.checkWords := rfl
@[simp] theorem withPending_office (s : State) (l : List Instr) : (s.withPending l).office = s.office := rfl
@[simp] theorem withPending_lamp (s : State) (l : List Instr) : (s.withPending l).lamp = s.lamp := rfl
@[simp] theorem withPending_time (s : State) (l : List Instr) : (s.withPending l).time = s.time := rfl
@[simp] theorem withPending_settings (s : State) (l : List Instr) : (s.withPending l).settings = s.settings := rfl
@[simp] theorem withPending_port (s : State) (l : List Instr) : (s.withPending l).port = s.port := rfl
@[simp] theorem withPending_windows (s : State) (l : List Instr) : (s.withPending l).windows = s.windows := rfl
@[simp] theorem withPending_queues (s : State) (l : List Instr) : (s.withPending l).queues = s.queues := rfl
@[simp] theorem withPending_jobs (s : State) (l : List Instr) : (s.withPending l).jobs = s.jobs := rfl
@[simp] theorem withPending_freeStack (s : State) (l : List Instr) : (s.withPending l).freeStack = s.freeStack := rfl
@[simp] theorem withPending_routes (s : State) (l : List Instr) : (s.withPending l).routes = s.routes := rfl
@[simp] theorem withPending_arbiters (s : State) (l : List Instr) : (s.withPending l).arbiters = s.arbiters := rfl
@[simp] theorem withPending_express (s : State) (l : List Instr) : (s.withPending l).express = s.express := rfl
@[simp] theorem withPending_printers (s : State) (l : List Instr) : (s.withPending l).printers = s.printers := rfl
@[simp] theorem withPending_lineConfigs (s : State) (l : List Instr) : (s.withPending l).lineConfigs = s.lineConfigs := rfl
@[simp] theorem withPending_lines (s : State) (l : List Instr) : (s.withPending l).lines = s.lines := rfl
@[simp] theorem withPending_lineRecords (s : State) (l : List Instr) : (s.withPending l).lineRecords = s.lineRecords := rfl
@[simp] theorem withPending_magazines (s : State) (l : List Instr) : (s.withPending l).magazines = s.magazines := rfl
@[simp] theorem withPending_kinds (s : State) (l : List Instr) : (s.withPending l).kinds = s.kinds := rfl
@[simp] theorem withPending_register (s : State) (l : List Instr) : (s.withPending l).register = s.register := rfl
@[simp] theorem withPending_current (s : State) (l : List Instr) : (s.withPending l).current = s.current := rfl
@[simp] theorem withPending_closing (s : State) (l : List Instr) : (s.withPending l).closing = s.closing := rfl
@[simp] theorem withPending_cashUps (s : State) (l : List Instr) : (s.withPending l).cashUps = s.cashUps := rfl
@[simp] theorem withPending_dayTotals (s : State) (l : List Instr) : (s.withPending l).dayTotals = s.dayTotals := rfl
@[simp] theorem rewriteChecks_powered (old new : State) : (rewriteChecks old new).powered = new.powered := rfl
@[simp] theorem rewriteChecks_pciReset (old new : State) : (rewriteChecks old new).pciReset = new.pciReset := rfl
@[simp] theorem rewriteChecks_start (old new : State) : (rewriteChecks old new).start = new.start := rfl
@[simp] theorem rewriteChecks_office (old new : State) : (rewriteChecks old new).office = new.office := rfl
@[simp] theorem rewriteChecks_lamp (old new : State) : (rewriteChecks old new).lamp = new.lamp := rfl
@[simp] theorem rewriteChecks_time (old new : State) : (rewriteChecks old new).time = new.time := rfl
@[simp] theorem rewriteChecks_settings (old new : State) : (rewriteChecks old new).settings = new.settings := rfl
@[simp] theorem rewriteChecks_port (old new : State) : (rewriteChecks old new).port = new.port := rfl
@[simp] theorem rewriteChecks_windows (old new : State) : (rewriteChecks old new).windows = new.windows := rfl
@[simp] theorem rewriteChecks_queues (old new : State) : (rewriteChecks old new).queues = new.queues := rfl
@[simp] theorem rewriteChecks_jobs (old new : State) : (rewriteChecks old new).jobs = new.jobs := rfl
@[simp] theorem rewriteChecks_freeStack (old new : State) : (rewriteChecks old new).freeStack = new.freeStack := rfl
@[simp] theorem rewriteChecks_routes (old new : State) : (rewriteChecks old new).routes = new.routes := rfl
@[simp] theorem rewriteChecks_arbiters (old new : State) : (rewriteChecks old new).arbiters = new.arbiters := rfl
@[simp] theorem rewriteChecks_express (old new : State) : (rewriteChecks old new).express = new.express := rfl
@[simp] theorem rewriteChecks_printers (old new : State) : (rewriteChecks old new).printers = new.printers := rfl
@[simp] theorem rewriteChecks_lineConfigs (old new : State) : (rewriteChecks old new).lineConfigs = new.lineConfigs := rfl
@[simp] theorem rewriteChecks_lines (old new : State) : (rewriteChecks old new).lines = new.lines := rfl
@[simp] theorem rewriteChecks_lineRecords (old new : State) : (rewriteChecks old new).lineRecords = new.lineRecords := rfl
@[simp] theorem rewriteChecks_magazines (old new : State) : (rewriteChecks old new).magazines = new.magazines := rfl
@[simp] theorem rewriteChecks_kinds (old new : State) : (rewriteChecks old new).kinds = new.kinds := rfl
@[simp] theorem rewriteChecks_register (old new : State) : (rewriteChecks old new).register = new.register := rfl
@[simp] theorem rewriteChecks_current (old new : State) : (rewriteChecks old new).current = new.current := rfl
@[simp] theorem rewriteChecks_closing (old new : State) : (rewriteChecks old new).closing = new.closing := rfl
@[simp] theorem rewriteChecks_cashUps (old new : State) : (rewriteChecks old new).cashUps = new.cashUps := rfl
@[simp] theorem rewriteChecks_dayTotals (old new : State) : (rewriteChecks old new).dayTotals = new.dayTotals := rfl
@[simp] theorem rewriteChecks_pending (old new : State) : (rewriteChecks old new).pending = new.pending := rfl
@[simp] theorem sealStore_powered (s : State) : (sealStore s).powered = s.powered := rfl
@[simp] theorem sealStore_pciReset (s : State) : (sealStore s).pciReset = s.pciReset := rfl
@[simp] theorem sealStore_start (s : State) : (sealStore s).start = s.start := rfl
@[simp] theorem sealStore_office (s : State) : (sealStore s).office = s.office := rfl
@[simp] theorem sealStore_lamp (s : State) : (sealStore s).lamp = s.lamp := rfl
@[simp] theorem sealStore_time (s : State) : (sealStore s).time = s.time := rfl
@[simp] theorem sealStore_settings (s : State) : (sealStore s).settings = s.settings := rfl
@[simp] theorem sealStore_port (s : State) : (sealStore s).port = s.port := rfl
@[simp] theorem sealStore_windows (s : State) : (sealStore s).windows = s.windows := rfl
@[simp] theorem sealStore_queues (s : State) : (sealStore s).queues = s.queues := rfl
@[simp] theorem sealStore_jobs (s : State) : (sealStore s).jobs = s.jobs := rfl
@[simp] theorem sealStore_freeStack (s : State) : (sealStore s).freeStack = s.freeStack := rfl
@[simp] theorem sealStore_routes (s : State) : (sealStore s).routes = s.routes := rfl
@[simp] theorem sealStore_arbiters (s : State) : (sealStore s).arbiters = s.arbiters := rfl
@[simp] theorem sealStore_express (s : State) : (sealStore s).express = s.express := rfl
@[simp] theorem sealStore_printers (s : State) : (sealStore s).printers = s.printers := rfl
@[simp] theorem sealStore_lineConfigs (s : State) : (sealStore s).lineConfigs = s.lineConfigs := rfl
@[simp] theorem sealStore_lines (s : State) : (sealStore s).lines = s.lines := rfl
@[simp] theorem sealStore_lineRecords (s : State) : (sealStore s).lineRecords = s.lineRecords := rfl
@[simp] theorem sealStore_magazines (s : State) : (sealStore s).magazines = s.magazines := rfl
@[simp] theorem sealStore_kinds (s : State) : (sealStore s).kinds = s.kinds := rfl
@[simp] theorem sealStore_register (s : State) : (sealStore s).register = s.register := rfl
@[simp] theorem sealStore_current (s : State) : (sealStore s).current = s.current := rfl
@[simp] theorem sealStore_closing (s : State) : (sealStore s).closing = s.closing := rfl
@[simp] theorem sealStore_cashUps (s : State) : (sealStore s).cashUps = s.cashUps := rfl
@[simp] theorem sealStore_dayTotals (s : State) : (sealStore s).dayTotals = s.dayTotals := rfl
@[simp] theorem sealStore_pending (s : State) : (sealStore s).pending = s.pending := rfl
@[simp] theorem loseStore_powered (s : State) : (loseStore s).powered = s.powered := rfl
@[simp] theorem loseStore_pciReset (s : State) : (loseStore s).pciReset = s.pciReset := rfl
@[simp] theorem loseStore_start (s : State) : (loseStore s).start = s.start := rfl
@[simp] theorem loseStore_office (s : State) : (loseStore s).office = s.office := rfl
@[simp] theorem loseStore_lamp (s : State) : (loseStore s).lamp = s.lamp := rfl
@[simp] theorem loseStore_time (s : State) : (loseStore s).time = s.time := rfl
@[simp] theorem loseStore_settings (s : State) : (loseStore s).settings = s.settings := rfl
@[simp] theorem loseStore_port (s : State) : (loseStore s).port = s.port := rfl
@[simp] theorem loseStore_windows (s : State) : (loseStore s).windows = s.windows := rfl
@[simp] theorem loseStore_queues (s : State) : (loseStore s).queues = s.queues := rfl
@[simp] theorem loseStore_jobs (s : State) : (loseStore s).jobs = s.jobs := rfl
@[simp] theorem loseStore_freeStack (s : State) : (loseStore s).freeStack = s.freeStack := rfl
@[simp] theorem loseStore_routes (s : State) : (loseStore s).routes = s.routes := rfl
@[simp] theorem loseStore_arbiters (s : State) : (loseStore s).arbiters = s.arbiters := rfl
@[simp] theorem loseStore_express (s : State) : (loseStore s).express = s.express := rfl
@[simp] theorem loseStore_printers (s : State) : (loseStore s).printers = s.printers := rfl
@[simp] theorem loseStore_lineConfigs (s : State) : (loseStore s).lineConfigs = s.lineConfigs := rfl
@[simp] theorem loseStore_lines (s : State) : (loseStore s).lines = s.lines := rfl
@[simp] theorem loseStore_lineRecords (s : State) : (loseStore s).lineRecords = s.lineRecords := rfl
@[simp] theorem loseStore_magazines (s : State) : (loseStore s).magazines = s.magazines := rfl
@[simp] theorem loseStore_kinds (s : State) : (loseStore s).kinds = s.kinds := rfl
@[simp] theorem loseStore_register (s : State) : (loseStore s).register = s.register := rfl
@[simp] theorem loseStore_current (s : State) : (loseStore s).current = s.current := rfl
@[simp] theorem loseStore_closing (s : State) : (loseStore s).closing = s.closing := rfl
@[simp] theorem loseStore_cashUps (s : State) : (loseStore s).cashUps = s.cashUps := rfl
@[simp] theorem loseStore_dayTotals (s : State) : (loseStore s).dayTotals = s.dayTotals := rfl
@[simp] theorem loseStore_pending (s : State) : (loseStore s).pending = s.pending := rfl
@[simp] theorem withPending_pending (s : State) (l : List Instr) : (s.withPending l).pending = l := rfl

end Sys2Proof.Machine
end

