-- ==== Sys2Proof/Laws/Frames.lean ====
section
/-! SUPPORT. What the part's shared operations leave alone: power, start, office state, lamp, Time Base, office settings,
window records, routes, line configurations and the queue of commands. -/

namespace Sys2Proof.Machine

set_option linter.unusedSimpArgs false
set_option linter.unreachableTactic false
set_option linter.unusedTactic false
set_option linter.unnecessarySeqFocus false

/-- Work done for each element keeps what each piece of it keeps. -/
theorem forEach_keeps {α β : Type} (view : State → β) (l : List α) (f : α → State → State)
    (h : ∀ a s, view (f a s) = view s) (s : State) : view (forEach l f s) = view s := by
  unfold forEach
  induction l generalizing s with
  | nil => rfl
  | cons a rest ih => simpa [h] using ih (f a s)

/-- Work done for each element keeps a property that each piece of it keeps. -/
theorem forEach_holds {α : Type} (P : State → Prop) (l : List α) (f : α → State → State)
    (h : ∀ a s, P s → P (f a s)) (s : State) (hs : P s) : P (forEach l f s) := by
  unfold forEach
  induction l generalizing s with
  | nil => exact hs
  | cons a rest ih => exact ih (f a s) (h a s hs)

@[simp] theorem forEach_still {α : Type} (l : List α) (f : α → State → State) (h : ∀ a s, still (f a s) = still s)
    (s : State) : still (forEach l f s) = still s := forEach_keeps still l f h s

theorem still_ite (c : Prop) [Decidable c] (a b : State) : still (if c then a else b) = if c then still a else still b := by
  split <;> rfl

@[simp] theorem rewriteChecks_still (old new : State) : still (rewriteChecks old new) = still new := rfl

@[simp] theorem modPort_still (f : ExchangePort → ExchangePort) (s : State) :
    still (modPort f s) = still s := rfl

@[simp] theorem modArbiter_still (g : GroupId) (f : Arbiter → Arbiter) (s : State) :
    still (modArbiter g f s) = still s := rfl

@[simp] theorem modExpress_still (w : WindowId) (f : Nat → Nat) (s : State) :
    still (modExpress w f s) = still s := rfl

@[simp] theorem modPrinter_still (p : PrinterId) (f : Printer → Printer) (s : State) :
    still (modPrinter p f s) = still s := rfl

@[simp] theorem modLine_still (l : LineId) (f : Line → Line) (s : State) :
    still (modLine l f s) = still s := rfl

@[simp] theorem modLineRecord_still (p : PrinterId) (f : LineRecord → LineRecord) (s : State) :
    still (modLineRecord p f s) = still s := rfl

@[simp] theorem modKind_still (k : KindId) (f : StockKind → StockKind) (s : State) :
    still (modKind k f s) = still s := rfl

@[simp] theorem modCurrent_still (w : WindowId) (f : Tally → Tally) (s : State) :
    still (modCurrent w f s) = still s := rfl

@[simp] theorem modDayTotals_still (f : DayTotals → DayTotals) (s : State) :
    still (modDayTotals f s) = still s := rfl

@[simp] theorem modJob_still (i : JobIx) (f : Job → Job) (s : State) :
    still (modJob i f s) = still s := rfl

@[simp] theorem setCause_still (cause : BitVec 7) (s : State) :
    still (setCause cause s) = still s := rfl

@[simp] theorem markPrinter_still (p : PrinterId) (cause : Bool) (s : State) :
    still (markPrinter p cause s) = still s := rfl

@[simp] theorem markStock_still (k : KindId) (cause : Bool) (s : State) :
    still (markStock k cause s) = still s := rfl

@[simp] theorem markHeader_still  (s : State) :
    still (markHeader s) = still s := rfl

@[simp] theorem markEverything_still  (s : State) :
    still (markEverything s) = still s := rfl

@[simp] theorem addReturn_still (slip : SlipId) (tag : Word) (code : ResultCode) (detail : Word) (area : List Byte) (s : State) :
    still (addReturn slip tag code detail area s) = still s := by
  unfold addReturn
  (repeat' split) <;> first | rfl | (simp [still_ite]; done) | (simp [still_ite]; rfl)

@[simp] theorem setQueue_still (w : WindowId) (q : List JobIx) (s : State) :
    still (setQueue w q s) = still s := by
  unfold setQueue
  (repeat' split) <;> first | rfl | (simp [still_ite]; done) | (simp [still_ite]; rfl)

@[simp] theorem joinTail_still (w : WindowId) (i : JobIx) (s : State) :
    still (joinTail w i s) = still s := by
  unfold joinTail
  (repeat' split) <;> first | rfl | (simp [still_ite]; done) | (simp [still_ite]; rfl)

@[simp] theorem leaveQueue_still (w : WindowId) (i : JobIx) (s : State) :
    still (leaveQueue w i s) = still s := by
  unfold leaveQueue
  (repeat' split) <;> first | rfl | (simp [still_ite]; done) | (simp [still_ite]; rfl)

@[simp] theorem joinFront_still (order : List JobIx) (w : WindowId) (i : JobIx) (s : State) :
    still (joinFront order w i s) = still s := by
  unfold joinFront
  (repeat' split) <;> first | rfl | (simp [still_ite]; done) | (simp [still_ite]; rfl)

@[simp] theorem leavePrinter_still (p : PrinterId) (i : JobIx) (s : State) :
    still (leavePrinter p i s) = still s := by
  unfold leavePrinter
  (repeat' split) <;> first | rfl | (simp [still_ite]; done) | (simp [still_ite]; rfl)

@[simp] theorem joinPrinter_still (p : PrinterId) (i : JobIx) (s : State) :
    still (joinPrinter p i s) = still s := by
  unfold joinPrinter
  (repeat' split) <;> first | rfl | (simp [still_ite]; done) | (simp [still_ite]; rfl)

@[simp] theorem leaveLists_still (i : JobIx) (j : Job) (s : State) :
    still (leaveLists i j s) = still s := by
  unfold leaveLists
  (repeat' split) <;> first | rfl | (simp [still_ite]; done) | (simp [still_ite]; rfl)

@[simp] theorem releaseHold_still (p : PrinterId) (s : State) :
    still (releaseHold p s) = still s := by
  unfold releaseHold
  (repeat' split) <;> first | rfl | (simp [still_ite]; done) | (simp [still_ite]; rfl)

@[simp] theorem releaseSaleEnd_still (j : Job) (s : State) :
    still (releaseSaleEnd j s) = still s := by
  unfold releaseSaleEnd
  (repeat' split) <;> first | rfl | (simp [still_ite]; done) | (simp [still_ite]; rfl)

@[simp] theorem freeRecord_still (i : JobIx) (s : State) :
    still (freeRecord i s) = still s := by
  unfold freeRecord
  (repeat' split) <;> first | rfl | (simp [still_ite]; done) | (simp [still_ite]; rfl)

@[simp] theorem takeRecord_still (i : JobIx) (rest : List JobIx) (j : Job) (s : State) :
    still (takeRecord i rest j s) = still s := rfl

@[simp] theorem modTally_still (w : WindowId) (shift : Nat) (f : Tally → Tally) (s : State) :
    still (modTally w shift f s) = still s := by
  unfold modTally
  (repeat' split) <;> first | rfl | (simp [still_ite]; done) | (simp [still_ite]; rfl)

@[simp] theorem produceStatement_still (w : WindowId) (c : PendingCashUp) (s : State) :
    still (produceStatement w c s) = still s := by
  unfold produceStatement
  (repeat' split) <;> first | rfl | (simp [still_ite]; done) | (simp [still_ite]; rfl)

@[simp] theorem statementIfDue_still (w : WindowId) (s : State) :
    still (statementIfDue w s) = still s := by
  unfold statementIfDue
  (repeat' split) <;> first | rfl | (simp [still_ite]; done) | (simp [still_ite]; rfl)

@[simp] theorem shiftOpen_still (w : WindowId) (s : State) :
    still (shiftOpen w s) = still s := by
  unfold shiftOpen
  (repeat' split) <;> first | rfl | (simp [still_ite]; done) | (simp [still_ite]; rfl)

@[simp] theorem returnJob_still (i : JobIx) (j : Job) (code : ResultCode) (reason : Nat) (s : State) :
    still (returnJob i j code reason s) = still s := by
  unfold returnJob
  (repeat' split) <;> first | rfl | (simp [still_ite]; done) | (simp [still_ite]; rfl)

@[simp] theorem lowerOpenJobs_still (j : Job) (s : State) :
    still (lowerOpenJobs j s) = still s := by
  unfold lowerOpenJobs
  (repeat' split) <;> first | rfl | (simp [still_ite]; done) | (simp [still_ite]; rfl)

@[simp] theorem statementAfter_still (j : Job) (s : State) :
    still (statementAfter j s) = still s := by
  unfold statementAfter
  (repeat' split) <;> first | rfl | (simp [still_ite]; done) | (simp [still_ite]; rfl)

@[simp] theorem finishJob_still (i : JobIx) (code : ResultCode) (reason : Nat) (s : State) :
    still (finishJob i code reason s) = still s := by
  unfold finishJob
  (repeat' split) <;> first | rfl | (simp [still_ite]; done) | (simp [still_ite]; rfl)

@[simp] theorem finishJobs_still (code : ResultCode) (reason : Nat) (l : List JobIx) (s : State) :
    still (finishJobs code reason l s) = still s := by
  unfold finishJobs; simp

@[simp] theorem requeue_still (order : List JobIx) (p : PrinterId) (w : WindowId) (i : JobIx) (s : State) :
    still (requeue order p w i s) = still s := by
  unfold requeue
  (repeat' split) <;> first | rfl | (simp [still_ite]; done) | (simp [still_ite]; rfl)

@[simp] theorem sendBack_still (order : List JobIx) (p : PrinterId) (testReason : Nat) (i : JobIx) (s : State) :
    still (sendBack order p testReason i s) = still s := by
  unfold sendBack
  (repeat' split) <;> first | rfl | (simp [still_ite]; done) | (simp [still_ite]; rfl)

@[simp] theorem sendBackGranted_still (order : List JobIx) (p : PrinterId) (s : State) :
    still (sendBackGranted order p s) = still s := by
  unfold sendBackGranted
  (repeat' split) <;> first | rfl | (simp [still_ite]; done) | (simp [still_ite]; rfl)

@[simp] theorem setMagazine_still (p : PrinterId) (m : Magazine) (s : State) :
    still (setMagazine p m s) = still s := by
  unfold setMagazine
  (repeat' split) <;> first | rfl | (simp [still_ite]; done) | (simp [still_ite]; rfl)

@[simp] theorem moveNote_still (p : PrinterId) (serial : Nat) (s : State) :
    still (moveNote p serial s) = still s := by
  unfold moveNote
  repeat' first | rfl | (simp [still_ite]; done) | split | simp [still_ite]

@[simp] theorem claimBlank_still (p : PrinterId) (i : JobIx) (s : State) :
    still (claimBlank p i s) = still s := by
  unfold claimBlank
  (repeat' split) <;> first | rfl | (simp [still_ite]; done) | (simp [still_ite]; rfl)

@[simp] theorem judgeFlags_still (k : KindId) (s : State) :
    still (judgeFlags k s) = still s := by
  unfold judgeFlags
  (repeat' split) <;> first | rfl | (simp [still_ite]; done) | (simp [still_ite]; rfl)

@[simp] theorem recomputeKind_still (k : KindId) (s : State) :
    still (recomputeKind k s) = still s := by
  unfold recomputeKind
  (repeat' split) <;> first | rfl | (simp [still_ite]; done) | (simp [still_ite]; rfl)

@[simp] theorem recomputeOf_still (p : PrinterId) (s : State) :
    still (recomputeOf p s) = still s := by
  unfold recomputeOf
  (repeat' split) <;> first | rfl | (simp [still_ite]; done) | (simp [still_ite]; rfl)

@[simp] theorem disposeBlank_still (p : PrinterId) (serial : Nat) (window : Option WindowId) (shift : Nat) (cause : SpoilCause) (disposition : Disposition) (s : State) :
    still (disposeBlank p serial window shift cause disposition s) = still s := by
  unfold disposeBlank
  (repeat' split) <;> first | rfl | (simp [still_ite]; done) | (simp [still_ite]; rfl)

@[simp] theorem dischargeRegister_still (s : State) :
    still (dischargeRegister s) = still s := by
  unfold dischargeRegister
  (repeat' split) <;> first | rfl | (simp [still_ite]; done) | (simp [still_ite]; rfl)

@[simp] theorem inDoubtBlank_still (p : PrinterId) (serial : Nat) (token : Byte) (window : Option WindowId) (shift : Nat) (s : State) :
    still (inDoubtBlank p serial token window shift s) = still s := by
  unfold inDoubtBlank
  (repeat' split) <;> first | rfl | (simp [still_ite]; done) | (simp [still_ite]; rfl)

@[simp] theorem rollRequest_still (l : LineId) (mask : BitVec 8) (s : State) :
    still (rollRequest l mask s) = still s := by
  unfold rollRequest
  (repeat' split) <;> first | rfl | (simp [still_ite]; done) | (simp [still_ite]; rfl)

@[simp] theorem keepResult_still (l : LineId) (a : AddressIx) (r : RollResult) (s : State) :
    still (keepResult l a r s) = still s := by
  unfold keepResult
  (repeat' split) <;> first | rfl | (simp [still_ite]; done) | (simp [still_ite]; rfl)

@[simp] theorem leaveSelection_still (p : PrinterId) (s : State) :
    still (leaveSelection p s) = still s := by
  unfold leaveSelection
  (repeat' split) <;> first | rfl | (simp [still_ite]; done) | (simp [still_ite]; rfl)

@[simp] theorem enterState_still (order : List JobIx) (p : PrinterId) (new : PrinterState) (s : State) :
    still (enterState order p new s) = still s := by
  unfold enterState
  (repeat' split) <;> first | rfl | (simp [still_ite]; done) | (simp [still_ite]; rfl)

@[simp] theorem breakReservation_still (order : List JobIx) (p : PrinterId) (l : List JobIx) (s : State) :
    still (breakReservation order p l s) = still s := by
  induction l generalizing s with
  | nil => rfl
  | cons i rest ih => unfold breakReservation; split <;> simp [ih]

@[simp] theorem magazineChanged_still (order : List JobIx) (p : PrinterId) (s : State) :
    still (magazineChanged order p s) = still s := by
  unfold magazineChanged
  repeat' first | rfl | (simp [still_ite]; done) | split | simp [still_ite]

@[simp] theorem endInDoubt_still (order : List JobIx) (p : PrinterId) (i : JobIx) (s : State) :
    still (endInDoubt order p i s) = still s := by
  unfold endInDoubt
  split
  · rfl
  · extract_lets a b
    have ha : still a = still s := by
      simp only [a]
      split <;> simp
    have hb : still b = still a := by
      simp only [b]
      split <;> simp
    simp only [finishJob_still, hb, ha]

@[simp] theorem causeEffects_still (order : List JobIx) (p : PrinterId) (cause : FaultCause) (s : State) :
    still (causeEffects order p cause s) = still s := by
  unfold causeEffects
  (repeat' split) <;> first | rfl | (simp [still_ite]; done) | (simp [still_ite]; rfl)

@[simp] theorem raiseFault_still (order : List JobIx) (p : PrinterId) (f : FaultInfo) (s : State) :
    still (raiseFault order p f s) = still s := by
  unfold raiseFault
  (repeat' split) <;> first | rfl | (simp [still_ite]; done) | (simp [still_ite]; rfl)

@[simp] theorem takeCancelled_still (order : List JobIx) (p : PrinterId) (i : JobIx) (s : State) :
    still (takeCancelled order p i s) = still s := by
  unfold takeCancelled
  repeat' first | rfl | (simp [still_ite]; done) | split | simp [still_ite]

@[simp] theorem takePrinted_still (order : List JobIx) (p : PrinterId) (i : JobIx) (j : Job) (s : State) :
    still (takePrinted order p i j s) = still s := by
  unfold takePrinted
  extract_lets m base used a b c
  have ha : still a = still s := by
    simp only [a]
    split <;> simp
  have hb : still b = still a := by simp only [b, magazineChanged_still]
  have hc : still c = still b := by
    simp only [c]
    split <;> simp
  simp only [modPrinter_still, finishJob_still, hc, hb, ha]

@[simp] theorem spoilBlanks_still (order : List JobIx) (p : PrinterId) (i : JobIx) (j : Job) (k : Nat) (cause : SpoilCause) (s : State) :
    still (spoilBlanks order p i j k cause s) = still s := by
  unfold spoilBlanks
  (repeat' split) <;> first | rfl | (simp [still_ite]; done) | (simp [still_ite]; rfl)

@[simp] theorem takeSpoiled_still (order : List JobIx) (p : PrinterId) (i : JobIx) (j : Job) (flags : BitVec 5) (asked : Nat) (cause : SpoilCause) (s : State) :
    still (takeSpoiled order p i j flags asked cause s) = still s := by
  unfold takeSpoiled
  extract_lets k token ended a b c
  have ha : still a = still s := by simp only [a, spoilBlanks_still]
  have hb : still b = still a := by
    simp only [b]
    split
    · split <;> simp [ended]
    · simp [ended]
  have hc : still c = still b := by simp only [c, modPrinter_still]
  split
  · simp only [modPrinter_still, raiseFault_still, hc, hb, ha]
  · simp only [hc, hb, ha]

@[simp] theorem takeOutcome_still (order : List JobIx) (p : PrinterId) (flags : BitVec 5) (e : OutcomeEntry) (i : JobIx) (j : Job) (s : State) :
    still (takeOutcome order p flags e i j s) = still s := by
  unfold takeOutcome
  (repeat' split) <;> first | rfl | (simp [still_ite]; done) | (simp [still_ite]; rfl)

@[simp] theorem countStray_still (p : PrinterId) (s : State) :
    still (countStray p s) = still s := by
  unfold countStray
  (repeat' split) <;> first | rfl | (simp [still_ite]; done) | (simp [still_ite]; rfl)

@[simp] theorem handleEntry_still (order : List JobIx) (p : PrinterId) (flags : BitVec 5) (reported : List Byte) (e : OutcomeEntry) (s : State) :
    still (handleEntry order p flags reported e s) = still s := by
  unfold handleEntry
  (repeat' split) <;> first | rfl | (simp [still_ite]; done) | (simp [still_ite]; rfl)

@[simp] theorem flagFault_still (order : List JobIx) (p : PrinterId) (flags : BitVec 5) (cause : FaultCause) (s : State) :
    still (flagFault order p flags cause s) = still s := by
  unfold flagFault
  (repeat' split) <;> first | rfl | (simp [still_ite]; done) | (simp [still_ite]; rfl)

@[simp] theorem judgeConditionFlags_still (order : List JobIx) (p : PrinterId) (flags : BitVec 5) (s : State) :
    still (judgeConditionFlags order p flags s) = still s := by
  unfold judgeConditionFlags
  (repeat' split) <;> first | rfl | (simp [still_ite]; done) | (simp [still_ite]; rfl)

@[simp] theorem judgeNotReady_still (order : List JobIx) (p : PrinterId) (flags : BitVec 5) (s : State) :
    still (judgeNotReady order p flags s) = still s := by
  unfold judgeNotReady
  (repeat' split) <;> first | rfl | (simp [still_ite]; done) | (simp [still_ite]; rfl)

@[simp] theorem judgeRecovery_still (order : List JobIx) (p : PrinterId) (flags : BitVec 5) (s : State) :
    still (judgeRecovery order p flags s) = still s := by
  unfold judgeRecovery
  (repeat' split) <;> first | rfl | (simp [still_ite]; done) | (simp [still_ite]; rfl)

@[simp] theorem impliedCancel_still (order : List JobIx) (p : PrinterId) (waiting : Nat) (s : State) :
    still (impliedCancel order p waiting s) = still s := by
  unfold impliedCancel
  (repeat' split) <;> first | rfl | (simp [still_ite]; done) | (simp [still_ite]; rfl)

@[simp] theorem modRoll_still (l : LineId) (f : RollCall → RollCall) (s : State) :
    still (modRoll l f s) = still s := by
  unfold modRoll
  (repeat' split) <;> first | rfl | (simp [still_ite]; done) | (simp [still_ite]; rfl)

@[simp] theorem sendRecall_still (l : LineId) (s : State) :
    still (sendRecall l s) = still s := by
  unfold sendRecall
  (repeat' split) <;> first | rfl | (simp [still_ite]; done) | (simp [still_ite]; rfl)

@[simp] theorem freeLine_still (l : LineId) (s : State) :
    still (freeLine l s) = still s := by
  unfold freeLine
  extract_lets a
  have ha : still a = still s := by simp only [a, modLine_still]
  split
  · simp only [sendRecall_still, ha]
  · exact ha

@[simp] theorem recallIfFree_still (l : LineId) (s : State) :
    still (recallIfFree l s) = still s := by
  unfold recallIfFree
  (repeat' split) <;> first | rfl | (simp [still_ite]; done) | (simp [still_ite]; rfl)

@[simp] theorem startRound_still (l : LineId) (s : State) :
    still (startRound l s) = still s := by
  unfold startRound
  (repeat' split) <;> first | rfl | (simp [still_ite]; done) | (simp [still_ite]; rfl)

@[simp] theorem settleResult_still (p : PrinterId) (r : RollResult) (s : State) :
    still (settleResult p r s) = still s := by
  unfold settleResult
  (repeat' split) <;> first | rfl | (simp [still_ite]; done) | (simp [still_ite]; rfl)

@[simp] theorem clearRecord_still (p : PrinterId) (s : State) :
    still (clearRecord p s) = still s := by
  unfold clearRecord
  (repeat' split) <;> first | rfl | (simp [still_ite]; done) | (simp [still_ite]; rfl)

@[simp] theorem returnToService_still (order : List JobIx) (p : PrinterId) (s : State) :
    still (returnToService order p s) = still s := by
  unfold returnToService
  (repeat' split) <;> first | rfl | (simp [still_ite]; done) | (simp [still_ite]; rfl)

@[simp] theorem handOver_still (p : PrinterId) (r : RollResult) (s : State) :
    still (handOver p r s) = still s := by
  unfold handOver
  (repeat' split) <;> first | rfl | (simp [still_ite]; done) | (simp [still_ite]; rfl)

@[simp] theorem applyJudgement_still (p : PrinterId) (r : RollResult) (s : State) :
    still (applyJudgement p r s) = still s := by
  unfold applyJudgement
  dsimp only
  split
  · have h : ∀ u : State, still u = still s → ∀ m', still (recomputeOf p (setMagazine p m' u)) = still s := by
      intro u hu m'
      simp only [recomputeOf_still, setMagazine_still, hu]
    apply h
    split <;> rfl
  · rfl

@[simp] theorem takeSerial_still (p : PrinterId) (serial kind : Nat) (s : State) :
    still (takeSerial p serial kind s) = still s := by
  unfold takeSerial
  (repeat' split) <;> first | rfl | (simp [still_ite]; done) | (simp [still_ite]; rfl)

@[simp] theorem returnRollSlip_still (l : LineId) (s : State) :
    still (returnRollSlip l s) = still s := by
  unfold returnRollSlip
  (repeat' split) <;> first | rfl | (simp [still_ite]; done) | (simp [still_ite]; rfl)

@[simp] theorem giveUnanswered_still (p : PrinterId) (s : State) :
    still (giveUnanswered p s) = still s := by
  unfold giveUnanswered
  (repeat' split) <;> first | rfl | (simp [still_ite]; done) | (simp [still_ite]; rfl)

@[simp] theorem endRollCall_still (l : LineId) (s : State) :
    still (endRollCall l s) = still s := by
  unfold endRollCall
  (repeat' split) <;> first | rfl | (simp [still_ite]; done) | (simp [still_ite]; rfl)

@[simp] theorem endRound_still (l : LineId) (s : State) :
    still (endRound l s) = still s := by
  unfold endRound
  (repeat' split) <;> first | rfl | (simp [still_ite]; done) | (simp [still_ite]; rfl)

@[simp] theorem nextSlot_still (l : LineId) (slots : BitVec 8) (s : State) :
    still (nextSlot l slots s) = still s := by
  unfold nextSlot
  (repeat' split) <;> first | rfl | (simp [still_ite]; done) | (simp [still_ite]; rfl)

@[simp] theorem endSlot_still (l : LineId) (s : State) :
    still (endSlot l s) = still s := by
  unfold endSlot
  (repeat' split) <;> first | rfl | (simp [still_ite]; done) | (simp [still_ite]; rfl)

@[simp] theorem takeAnswer_still (l : LineId) (a : AddressIx) (address : Byte) (reply : Reply) (s : State) :
    still (takeAnswer l a address reply s) = still s := by
  unfold takeAnswer
  repeat' first | rfl | (simp [still_ite]; done) | split | simp [still_ite]

@[simp] theorem sendFrame_still (l : LineId) (p : PrinterId) (command : CommandKind) (kind : Byte) (payload : List Byte) (s : State) :
    still (sendFrame l p command kind payload s) = still s := by
  unfold sendFrame
  (repeat' split) <;> first | rfl | (simp [still_ite]; done) | (simp [still_ite]; rfl)

@[simp] theorem sendPrint_still (l : LineId) (p : PrinterId) (i : JobIx) (s : State) :
    still (sendPrint l p i s) = still s := by
  unfold sendPrint
  (repeat' split) <;> first | rfl | (simp [still_ite]; done) | (simp [still_ite]; rfl)

@[simp] theorem forgetToken_still (p : PrinterId) (token : Byte) (s : State) :
    still (forgetToken p token s) = still s := by
  unfold forgetToken
  (repeat' split) <;> first | rfl | (simp [still_ite]; done) | (simp [still_ite]; rfl)

@[simp] theorem transmitFirst_still (l : LineId) (p : PrinterId) (i : JobIx) (s : State) :
    still (transmitFirst l p i s) = still s := by
  unfold transmitFirst
  (repeat' split) <;> first | rfl | (simp [still_ite]; done) | (simp [still_ite]; rfl)

@[simp] theorem takeTurn_still (l : LineId) (p : PrinterId) (s : State) :
    still (takeTurn l p s) = still s := by
  unfold takeTurn
  (repeat' split) <;> first | rfl | (simp [still_ite]; done) | (simp [still_ite]; rfl)

@[simp] theorem lineTurn_still (l : LineId) (s : State) :
    still (lineTurn l s) = still s := by
  unfold lineTurn
  (repeat' split) <;> first | rfl | (simp [still_ite]; done) | (simp [still_ite]; rfl)

@[simp] theorem keepForRepeat_still (p : PrinterId) (command : CommandKind) (s : State) :
    still (keepForRepeat p command s) = still s := by
  unfold keepForRepeat
  (repeat' split) <;> first | rfl | (simp [still_ite]; done) | (simp [still_ite]; rfl)

@[simp] theorem exchangeFailed_still (x : Exchange) (s : State) :
    still (exchangeFailed x s) = still s := by
  unfold exchangeFailed
  (repeat' split) <;> first | rfl | (simp [still_ite]; done) | (simp [still_ite]; rfl)

@[simp] theorem takeAccept_still (p : PrinterId) (token : Byte) (s : State) :
    still (takeAccept p token s) = still s := by
  unfold takeAccept
  (repeat' split) <;> first | rfl | (simp [still_ite]; done) | (simp [still_ite]; rfl)

@[simp] theorem takeRefuse_still (p : PrinterId) (token reason : Byte) (s : State) :
    still (takeRefuse p token reason s) = still s := by
  unfold takeRefuse
  (repeat' split) <;> first | rfl | (simp [still_ite]; done) | (simp [still_ite]; rfl)

@[simp] theorem noteReported_still (p : PrinterId) (entries : List OutcomeEntry) (s : State) :
    still (noteReported p entries s) = still s := by
  unfold noteReported
  (repeat' split) <;> first | rfl | (simp [still_ite]; done) | (simp [still_ite]; rfl)

@[simp] theorem answerClear_still (p : PrinterId) (command : CommandKind) (s : State) :
    still (answerClear p command s) = still s := by
  unfold answerClear
  (repeat' split) <;> first | rfl | (simp [still_ite]; done) | (simp [still_ite]; rfl)

@[simp] theorem takeStatus_still (p : PrinterId) (command : CommandKind) (flags : Byte) (waiting : Nat) (entries : List OutcomeEntry) (s : State) :
    still (takeStatus p command flags waiting entries s) = still s := by
  unfold takeStatus
  (repeat' split) <;> first | rfl | (simp [still_ite]; done) | (simp [still_ite]; rfl)

@[simp] theorem takeGoodReply_still (x : Exchange) (reply : Reply) (s : State) :
    still (takeGoodReply x reply s) = still s := by
  unfold takeGoodReply
  (repeat' split) <;> first | rfl | (simp [still_ite]; done) | (simp [still_ite]; rfl)

@[simp] theorem endExchange_still (l : LineId) (x : Exchange) (effect : State → State)
    (h : ∀ s, still (effect s) = still s) (s : State) : still (endExchange l x effect s) = still s := by
  unfold endExchange
  split <;> simp [h]

@[simp] theorem receiveReply_still (l : LineId) (address : Byte) (reply : Reply) (s : State) :
    still (receiveReply l address reply s) = still s := by
  unfold receiveReply
  repeat' first | rfl | (simp [still_ite]; done) | split | simp [still_ite]

@[simp] theorem receiveNothing_still (l : LineId) (s : State) :
    still (receiveNothing l s) = still s := by
  unfold receiveNothing
  repeat' first | rfl | (simp [still_ite]; done) | split | simp [still_ite]

@[simp] theorem receiveRaw_still (l : LineId) (bytes : List Byte) (s : State) :
    still (receiveRaw l bytes s) = still s := by
  unfold receiveRaw
  (repeat' split) <;> first | rfl | (simp [still_ite]; done) | (simp [still_ite]; rfl)

@[simp] theorem commandFrameEnd_still (l : LineId) (s : State) :
    still (commandFrameEnd l s) = still s := by
  unfold commandFrameEnd
  (repeat' split) <;> first | rfl | (simp [still_ite]; done) | (simp [still_ite]; rfl)

@[simp] theorem setHold_still (j : Job) (p : PrinterId) (s : State) :
    still (setHold j p s) = still s := by
  unfold setHold
  (repeat' split) <;> first | rfl | (simp [still_ite]; done) | (simp [still_ite]; rfl)

@[simp] theorem moveToPrinter_still (w : WindowId) (i : JobIx) (j : Job) (p : PrinterId) (s : State) :
    still (moveToPrinter w i j p s) = still s := by
  unfold moveToPrinter
  (repeat' split) <;> first | rfl | (simp [still_ite]; done) | (simp [still_ite]; rfl)

@[simp] theorem afterExpress_still (g : GroupId) (w : WindowId) (s : State) :
    still (afterExpress g w s) = still s := by
  unfold afterExpress
  (repeat' split) <;> first | rfl | (simp [still_ite]; done) | (simp [still_ite]; rfl)

@[simp] theorem passToken_still (g : GroupId) (s : State) :
    still (passToken g s) = still s := by
  unfold passToken
  (repeat' split) <;> first | rfl | (simp [still_ite]; done) | (simp [still_ite]; rfl)

@[simp] theorem afterStandard_still (g : GroupId) (w : WindowId) (s : State) :
    still (afterStandard g w s) = still s := by
  unfold afterStandard
  extract_lets a
  have ha : still a = still s := by simp only [a, modArbiter_still]
  split
  · simp only [passToken_still, ha]
  · exact ha

theorem grantTo_still (w : WindowId) (ring : State → State) (h : ∀ s, still (ring s) = still s) (s : State) :
    still (grantTo w ring s) = still s := by
  unfold grantTo
  (repeat' split) <;> simp [h]

@[simp] theorem grantOnce_still (g : GroupId) (s : State) :
    still (grantOnce g s) = still s := by
  unfold grantOnce
  split
  · rename_i w _
    exact grantTo_still w _ (afterExpress_still g w) s
  · split
    · rename_i w _
      exact grantTo_still w _ (afterStandard_still g w) s
    · rfl

@[simp] theorem handleStale_still (w : WindowId) (i : JobIx) (j : Job) (s : State) :
    still (handleStale w i j s) = still s := by
  unfold handleStale
  (repeat' split) <;> first | rfl | (simp [still_ite]; done) | (simp [still_ite]; rfl)

@[simp] theorem ageWindow_still (w : WindowId) (s : State) :
    still (ageWindow w s) = still s := by
  unfold ageWindow
  (repeat' split) <;> first | rfl | (simp [still_ite]; done) | (simp [still_ite]; rfl)

@[simp] theorem watchOutcomes_still (p : PrinterId) (s : State) :
    still (watchOutcomes p s) = still s := by
  unfold watchOutcomes
  have h : still (forEach (flightList s p) (fun i => modJob i fun j => { j with outcomeWait := true }) s) = still s :=
    forEach_still _ _ (fun i t => modJob_still i _ t) s
  extract_lets a
  split
  · exact h
  · simp only [raiseFault_still]
    exact h

@[simp] theorem watchHold_still (p : PrinterId) (s : State) :
    still (watchHold p s) = still s := by
  unfold watchHold
  (repeat' split) <;> first | rfl | (simp [still_ite]; done) | (simp [still_ite]; rfl)

@[simp] theorem watchPrinter_still (p : PrinterId) (s : State) :
    still (watchPrinter p s) = still s := by
  unfold watchPrinter
  (repeat' split) <;> first | rfl | (simp [still_ite]; done) | (simp [still_ite]; rfl)

@[simp] theorem blockWork_still (windows : List WindowId) (printers : List PrinterId) (block : Fin 4) (s : State) :
    still (blockWork windows printers block s) = still s := by
  unfold blockWork
  (repeat' split) <;> first | rfl | (simp [still_ite]; done) | (simp [still_ite]; rfl)

@[simp] theorem startAccess_still (a : Access) (s : State) :
    still (startAccess a s) = still s := by
  unfold startAccess
  (repeat' split) <;> first | rfl | (simp [still_ite]; done) | (simp [still_ite]; rfl)

@[simp] theorem startHeader_still (s : State) :
    still (startHeader s) = still s := by
  unfold startHeader
  (repeat' split) <;> first | rfl | (simp [still_ite]; done) | (simp [still_ite]; rfl)

@[simp] theorem startPrinterEntry_still (p : PrinterId) (s : State) :
    still (startPrinterEntry p s) = still s := by
  unfold startPrinterEntry
  (repeat' split) <;> first | rfl | (simp [still_ite]; done) | (simp [still_ite]; rfl)

@[simp] theorem startStockEntry_still (k : KindId) (s : State) :
    still (startStockEntry k s) = still s := by
  unfold startStockEntry
  (repeat' split) <;> first | rfl | (simp [still_ite]; done) | (simp [still_ite]; rfl)

@[simp] theorem startReturn_still (s : State) :
    still (startReturn s) = still s := by
  unfold startReturn
  (repeat' split) <;> first | rfl | (simp [still_ite]; done) | (simp [still_ite]; rfl)

@[simp] theorem startRetry_still (f : FailedAccess) (s : State) :
    still (startRetry f s) = still s := by
  unfold startRetry
  (repeat' split) <;> first | rfl | (simp [still_ite]; done) | (simp [still_ite]; rfl)

@[simp] theorem startFetch_still (s : State) :
    still (startFetch s) = still s := by
  unfold startFetch
  (repeat' split) <;> first | rfl | (simp [still_ite]; done) | (simp [still_ite]; rfl)

theorem startTableWrite_still (s t : State) (h : startTableWrite s = some t) : still t = still s := by
  unfold startTableWrite at h
  split at h
  · cases h; simp
  · cases h; simp
  · cases h

@[simp] theorem startFirstWaiting_still (s : State) :
    still (startFirstWaiting s) = still s := by
  unfold startFirstWaiting
  split
  · simp
  · split
    · simp
    · split
      · rename_i t h
        exact startTableWrite_still s t h
      · split <;> simp

@[simp] theorem accessDone_still  (s : State) :
    still (accessDone s) = still s := by
  unfold accessDone
  (repeat' split) <;> first | rfl | (simp [still_ite]; done) | (simp [still_ite]; rfl)

@[simp] theorem completeReturn_still (e : ReturnEntry) (s : State) :
    still (completeReturn e s) = still s := by
  unfold completeReturn
  (repeat' split) <;> first | rfl | (simp [still_ite]; done) | (simp [still_ite]; rfl)

@[simp] theorem remark_still (a : Access) (s : State) :
    still (remark a s) = still s := by
  unfold remark
  (repeat' split) <;> first | rfl | (simp [still_ite]; done) | (simp [still_ite]; rfl)

@[simp] theorem takeSlip_still (s : State) :
    still (takeSlip s) = still s := by
  unfold takeSlip
  (repeat' split) <;> first | rfl | (simp [still_ite]; done) | (simp [still_ite]; rfl)

@[simp] theorem waitForRecord_still (s : State) :
    still (waitForRecord s) = still s := by
  unfold waitForRecord
  (repeat' split) <;> first | rfl | (simp [still_ite]; done) | (simp [still_ite]; rfl)

@[simp] theorem refuseField_still (n : SlipId) (tag : Word) (offset : Nat) (area : List Byte) (s : State) :
    still (refuseField n tag offset area s) = still s := by
  unfold refuseField
  (repeat' split) <;> first | rfl | (simp [still_ite]; done) | (simp [still_ite]; rfl)

@[simp] theorem acceptJob_still (w : WindowId) (j : Job) (s : State) :
    still (acceptJob w j s) = still s := by
  unfold acceptJob
  (repeat' split) <;> first | rfl | (simp [still_ite]; done) | (simp [still_ite]; rfl)

@[simp] theorem issueWork_still (tag : Word) (r : IssueRequest) (n : SlipId) (s : State) :
    still (issueWork tag r n s) = still s := by
  unfold issueWork
  (repeat' split) <;> first | rfl | (simp [still_ite]; done) | (simp [still_ite]; rfl)

@[simp] theorem acceptTest_still (p : PrinterId) (j : Job) (s : State) :
    still (acceptTest p j s) = still s := by
  unfold acceptTest
  (repeat' split) <;> first | rfl | (simp [still_ite]; done) | (simp [still_ite]; rfl)

@[simp] theorem testPrintWork_still (tag : Word) (r : TestPrintRequest) (n : SlipId) (s : State) :
    still (testPrintWork tag r n s) = still s := by
  unfold testPrintWork
  (repeat' split) <;> first | rfl | (simp [still_ite]; done) | (simp [still_ite]; rfl)

@[simp] theorem withdrawUnsent_still (w : WindowId) (pick : Job → Bool) (s : State) :
    still (withdrawUnsent w pick s) = still s := by
  unfold withdrawUnsent
  (repeat' split) <;> first | rfl | (simp [still_ite]; done) | (simp [still_ite]; rfl)

@[simp] theorem voidWork_still (tag : Word) (window : Byte) (sale : BitVec 16) (n : SlipId) (s : State) :
    still (voidWork tag window sale n s) = still s := by
  unfold voidWork
  (repeat' split) <;> first | rfl | (simp [still_ite]; done) | (simp [still_ite]; rfl)

@[simp] theorem refundWork_still (tag : Word) (r : RefundRequest) (n : SlipId) (s : State) :
    still (refundWork tag r n s) = still s := by
  unfold refundWork
  (repeat' split) <;> first | rfl | (simp [still_ite]; done) | (simp [still_ite]; rfl)

@[simp] theorem readTallyWork_still (tag : Word) (window : Byte) (n : SlipId) (s : State) :
    still (readTallyWork tag window n s) = still s := by
  unfold readTallyWork
  (repeat' split) <;> first | rfl | (simp [still_ite]; done) | (simp [still_ite]; rfl)

@[simp] theorem countClosing_still (w : WindowId) (s : State) :
    still (countClosing w s) = still s := by
  unfold countClosing
  (repeat' split) <;> first | rfl | (simp [still_ite]; done) | (simp [still_ite]; rfl)

@[simp] theorem awaitStatement_still (w : WindowId) (c : PendingCashUp) (s : State) :
    still (awaitStatement w c s) = still s := by
  unfold awaitStatement
  (repeat' split) <;> first | rfl | (simp [still_ite]; done) | (simp [still_ite]; rfl)

@[simp] theorem closeShift_still (w : WindowId) (withdraw : Bool) (c : PendingCashUp) (s : State) :
    still (closeShift w withdraw c s) = still s := by
  unfold closeShift
  (repeat' split) <;> first | rfl | (simp [still_ite]; done) | (simp [still_ite]; rfl)

@[simp] theorem cashUpWork_still (tag : Word) (r : CashUpRequest) (n : SlipId) (s : State) :
    still (cashUpWork tag r n s) = still s := by
  unfold cashUpWork
  (repeat' split) <;> first | rfl | (simp [still_ite]; done) | (simp [still_ite]; rfl)

@[simp] theorem checkLoad_still (p : PrinterId) (s : State) :
    still (checkLoad p s) = still s := by
  unfold checkLoad
  (repeat' split) <;> first | rfl | (simp [still_ite]; done) | (simp [still_ite]; rfl)

@[simp] theorem replaceMagazine_still (p : PrinterId) (m : Magazine) (s : State) :
    still (replaceMagazine p m s) = still s := by
  unfold replaceMagazine
  (repeat' split) <;> first | rfl | (simp [still_ite]; done) | (simp [still_ite]; rfl)

@[simp] theorem loadStock_still (tag : Word) (n : SlipId) (p : PrinterId) (m : Magazine) (s : State) :
    still (loadStock tag n p m s) = still s := by
  unfold loadStock
  (repeat' split) <;> first | rfl | (simp [still_ite]; done) | (simp [still_ite]; rfl)

@[simp] theorem loadStockWork_still (tag : Word) (r : LoadStockRequest) (n : SlipId) (s : State) :
    still (loadStockWork tag r n s) = still s := by
  unfold loadStockWork
  (repeat' split) <;> first | rfl | (simp [still_ite]; done) | (simp [still_ite]; rfl)

@[simp] theorem unloadStockWork_still (tag : Word) (printer : Byte) (n : SlipId) (s : State) :
    still (unloadStockWork tag printer n s) = still s := by
  unfold unloadStockWork
  (repeat' split) <;> first | rfl | (simp [still_ite]; done) | (simp [still_ite]; rfl)

@[simp] theorem readSpoilsWork_still (tag : Word) (index : BitVec 16) (n : SlipId) (s : State) :
    still (readSpoilsWork tag index n s) = still s := by
  unfold readSpoilsWork
  (repeat' split) <;> first | rfl | (simp [still_ite]; done) | (simp [still_ite]; rfl)

@[simp] theorem writeStockKind_still (k : KindId) (lowMark band : Nat) (s : State) :
    still (writeStockKind k lowMark band s) = still s := by
  unfold writeStockKind
  (repeat' split) <;> first | rfl | (simp [still_ite]; done) | (simp [still_ite]; rfl)

@[simp] theorem setStockKindWork_still (tag : Word) (kind : Byte) (lowMark band : BitVec 16) (n : SlipId) (s : State) :
    still (setStockKindWork tag kind lowMark band n s) = still s := by
  unfold setStockKindWork
  (repeat' split) <;> first | rfl | (simp [still_ite]; done) | (simp [still_ite]; rfl)

@[simp] theorem holdRollSlip_still (n : SlipId) (tag : Word) (l : LineId) (mask : BitVec 8) (s : State) :
    still (holdRollSlip n tag l mask s) = still s := by
  unfold holdRollSlip
  (repeat' split) <;> first | rfl | (simp [still_ite]; done) | (simp [still_ite]; rfl)

@[simp] theorem rollCallWork_still (tag : Word) (line mask : Byte) (n : SlipId) (s : State) :
    still (rollCallWork tag line mask n s) = still s := by
  unfold rollCallWork
  (repeat' split) <;> first | rfl | (simp [still_ite]; done) | (simp [still_ite]; rfl)

@[simp] theorem enterService_still (p : PrinterId) (s : State) :
    still (enterService p s) = still s := by
  unfold enterService
  (repeat' split) <;> first | rfl | (simp [still_ite]; done) | (simp [still_ite]; rfl)

@[simp] theorem leaveService_still (p : PrinterId) (s : State) :
    still (leaveService p s) = still s := by
  unfold leaveService
  (repeat' split) <;> first | rfl | (simp [still_ite]; done) | (simp [still_ite]; rfl)

@[simp] theorem acknowledgeFault_still (p : PrinterId) (s : State) :
    still (acknowledgeFault p s) = still s := by
  unfold acknowledgeFault
  (repeat' split) <;> first | rfl | (simp [still_ite]; done) | (simp [still_ite]; rfl)

@[simp] theorem voidExchange_still (p : PrinterId) (s : State) :
    still (voidExchange p s) = still s := by
  unfold voidExchange
  (repeat' split) <;> first | rfl | (simp [still_ite]; done) | (simp [still_ite]; rfl)

@[simp] theorem changeConfigured_still (p : PrinterId) (new : PrinterState) (s : State) :
    still (changeConfigured p new s) = still s := by
  unfold changeConfigured
  (repeat' split) <;> first | rfl | (simp [still_ite]; done) | (simp [still_ite]; rfl)

@[simp] theorem writePrinter_still (p : PrinterId) (configured : Bool) (group : GroupId) (s : State) :
    still (writePrinter p configured group s) = still s := by
  unfold writePrinter
  (repeat' split) <;> first | rfl | (simp [still_ite]; done) | (simp [still_ite]; rfl)

@[simp] theorem setPrinterWork_still (tag : Word) (printer configured group : Byte) (n : SlipId) (s : State) :
    still (setPrinterWork tag printer configured group n s) = still s := by
  unfold setPrinterWork
  (repeat' split) <;> first | rfl | (simp [still_ite]; done) | (simp [still_ite]; rfl)

end Sys2Proof.Machine
end

