-- ==== Sys2Proof/Laws/Ops.lean ====
section
/-! SUPPORT. What each shared operation can do, said once: check words, gates, the taking of a slip, returns, marks, job records, tokens,
queues, holds, magazines, tallies, stock flags and the Spoil Register. Callers cite these and unfold nothing. -/

namespace Sys2Proof.Machine

/-! ### Check words (R58, R167) -/

/-- The contents of the store are these fields, and no others. -/
theorem contentOf_congr (s t : State) (hw : t.windows = s.windows) (hr : t.routes = s.routes)
    (hp : ∀ p : PrinterId, t.printers[p].configured = s.printers[p].configured ∧
      t.printers[p].group = s.printers[p].group ∧ t.printers[p].state = s.printers[p].state ∧
      t.printers[p].fault = s.printers[p].fault)
    (hl : t.lineConfigs = s.lineConfigs) (ho : t.settings = s.settings) (hm : t.magazines = s.magazines)
    (hk : t.kinds = s.kinds) (hg : t.register = s.register) (hc : t.current = s.current) (hz : t.closing = s.closing)
    (hd : t.dayTotals = s.dayTotals) (r : RetainedRecord) : contentOf t r = contentOf s r := by
  cases r with
  | printer p => obtain ⟨a, b, c, d⟩ := hp p; simp only [contentOf, a, b, c, d]
  | _ => simp only [contentOf, hw, hr, hl, ho, hm, hk, hg, hc, hz, hd]

theorem rewriteChecks_word (old new : State) (i : Fin 189) : (rewriteChecks old new).checkWords[i] =
    if contentOf new (recordAt i) = contentOf old (recordAt i) then new.checkWords[i] else checkOf new (recordAt i) := by
  unfold rewriteChecks wordsAfter
  simp

theorem sealStore_word (s : State) (i : Fin 189) : (sealStore s).checkWords[i] = checkOf s (recordAt i) := by
  unfold sealStore rightWords
  simp

/-- The contents do not depend on the check words. -/
@[simp] theorem contentOf_rewriteChecks (old new : State) (r : RetainedRecord) :
    contentOf (rewriteChecks old new) r = contentOf new r := by cases r <;> rfl

@[simp] theorem contentOf_sealStore (s : State) (r : RetainedRecord) : contentOf (sealStore s) r = contentOf s r := by
  cases r <;> rfl

@[simp] theorem contentOf_loseStore (s : State) (r : RetainedRecord) : contentOf (loseStore s) r = contentOf s r := by
  cases r <;> rfl

/-- An event that changes no retained record rewrites no check word. -/
theorem rewriteChecks_same (old new : State) (h : ∀ r, contentOf new r = contentOf old r) :
    rewriteChecks old new = new := by
  have hv : (rewriteChecks old new).checkWords = new.checkWords := by
    apply Vector.ext
    intro i hi
    have := rewriteChecks_word old new ⟨i, hi⟩
    rw [if_pos (h _)] at this
    exact this
  calc rewriteChecks old new = { new with checkWords := (rewriteChecks old new).checkWords } := rfl
    _ = new := by rw [hv]

theorem storeValid_iff (s : State) :
    storeValid s = true ↔ ∀ i : Fin 189, s.checkWords[i] = checkOf s (recordAt i) := by
  simp [storeValid, every]

theorem storeValid_sealStore (s : State) : storeValid (sealStore s) = true := by
  rw [storeValid_iff]
  intro i
  rw [sealStore_word]
  simp [checkOf]

/-- An event keeps a valid store valid. -/
theorem storeValid_rewriteChecks (old new : State) (h : storeValid old = true) (hw : new.checkWords = old.checkWords) :
    storeValid (rewriteChecks old new) = true := by
  rw [storeValid_iff] at h ⊢
  intro i
  rw [rewriteChecks_word]
  split
  · next he =>
    have hi : new.checkWords[i] = checkOf old (recordAt i) := by rw [hw]; exact h i
    rw [hi]
    simp [checkOf, he]
  · simp [checkOf]

theorem loseStore_word (s : State) (i : Fin 189) :
    (loseStore s).checkWords[i] ≠ checkOf (loseStore s) (recordAt i) := by
  have hn : ∀ x : BitVec 16, ~~~x ≠ x := fun x h => by
    have := congrArg (·.getLsbD 0) h
    simp at this
  have hc : checkOf (loseStore s) (recordAt i) = checkOf s (recordAt i) := by simp [checkOf]
  rw [hc]
  unfold loseStore lostWords
  simp only [Fin.getElem_fin, Vector.getElem_ofFn]
  split
  · exact hn _
  · assumption

theorem storeValid_loseStore (s : State) : storeValid (loseStore s) = false := by
  cases hv : storeValid (loseStore s) with
  | false => rfl
  | true =>
    rw [storeValid_iff] at hv
    exact absurd (hv 0) (loseStore_word s 0)

/-! ### Gates -/

theorem whenLive_eq_next (s t : State) (f : State → State) :
    whenLive s f = .next t ↔ t = if live s = true then rewriteChecks s (f s) else s := by
  unfold whenLive goOn
  exact ⟨fun h => (Host.Outcome.next.inj h).symm, fun h => congrArg _ h.symm⟩

theorem whenLive_live (s : State) (f : State → State) (h : live s = true) :
    whenLive s f = .next (rewriteChecks s (f s)) := by
  simp [whenLive, goOn, h]

/-- A command that changes no retained record. -/
theorem whenLive_volatile (s : State) (f : State → State) (h : live s = true)
    (hc : ∀ r, contentOf (f s) r = contentOf s r) : whenLive s f = .next (f s) := by
  rw [whenLive_live _ _ h, rewriteChecks_same _ _ hc]

theorem whenLive_ignored (s : State) (f : State → State) (h : live s = false) : whenLive s f = .next s := by
  simp [whenLive, goOn, h]

/-- While a start is in progress nothing is taken. -/
theorem live_of_start (s : State) (h : s.start ≠ none) : live s = false := by
  cases hs : s.start with
  | none => exact absurd hs h
  | some _ => simp [live, hs]

/-! ### The taking of a slip (R7, R8) -/

theorem takeSlip_eq (s : State) : takeSlip s = { s with port := portAfterTaking s.port } := rfl

theorem handOn_fetching (work : SlipId → State → State) (s : State) (n : SlipId) (h : fetching s n) :
    handOn work s = .next (rewriteChecks s (work n { s with port := portAfterTaking s.port })) := by
  simp only [handOn, whenLive_live _ _ h.1, h.2, takeSlip_eq]

theorem handOnForRecord_fetching (work : SlipId → State → State) (s : State) (n : SlipId) (h : fetching s n)
    (hs : s.freeStack ≠ []) :
    handOnForRecord work s = .next (rewriteChecks s (work n { s with port := portAfterTaking s.port })) := by
  have he : s.freeStack.isEmpty = false := by cases hf : s.freeStack with
    | nil => exact absurd hf hs
    | cons _ _ => rfl
  simp only [handOnForRecord, whenLive_live _ _ h.1, h.2, he, takeSlip_eq, Bool.false_eq_true, if_false]

theorem handOnForRecord_waits (work : SlipId → State → State) (s : State) (n : SlipId) (h : fetching s n)
    (hs : s.freeStack = []) : handOnForRecord work s =
      .next { s with port := { s.port with engine := none, failed := none, reader := .waitingRecord } } := by
  have he : s.freeStack.isEmpty = true := by rw [hs]; rfl
  simp only [handOnForRecord, whenLive_live _ _ h.1, h.2, he, if_true]
  rw [rewriteChecks_same]
  · rfl
  · exact fun r => by cases r <;> rfl

/-! ### Returns (R9) -/

theorem addReturn_eq (n : SlipId) (tag : Word) (code : ResultCode) (detail : Word) (area : List Byte) (s : State) :
    addReturn n tag code detail area s = { s with port := portWithReturn s.port (entryNow s n tag code detail area) } := rfl

/-- A slip taken and answered at once. -/
theorem addReturn_takeSlip (s : State) (n : SlipId) (tag : Word) (code : ResultCode) (detail : Word) (area : List Byte) :
    addReturn n tag code detail area { s with port := portAfterTaking s.port } =
      answered s (entryNow s n tag code detail area) := rfl

theorem resultArea_length (bytes : List Byte) : (resultArea bytes).length = 320 := by
  simp [resultArea]; omega

/-! ### Marks (R12, R131) -/

theorem markPrinter_marks (p q : PrinterId) (cause : Bool) (s : State) :
    (markPrinter p cause s).port.printerMarks[q] =
      if p = q then markSet s.port.printerMarks[q] cause else s.port.printerMarks[q] := upd_get _ _ _ _

theorem markStock_marks (k q : KindId) (cause : Bool) (s : State) :
    (markStock k cause s).port.stockMarks[q] =
      if k = q then markSet s.port.stockMarks[q] cause else s.port.stockMarks[q] := upd_get _ _ _ _

/-- A mark set is never clear, and one given a cause carries it. -/
theorem markSet_spec (m : WriteMark) (cause : Bool) :
    markSet m cause ≠ .clear ∧ (markSet m cause = .withCause ↔ m = .withCause ∨ cause = true) := by
  cases m <;> cases cause <;> decide

/-! ### Job records (R37, R41, R43) -/

theorem jobAt_modJob (i k : JobIx) (f : Job → Job) (s : State) :
    jobAt (modJob i f s) k = if i = k then (jobAt s k).map f else jobAt s k := by
  unfold jobAt modJob
  simp only [upd_get]
  split <;> rfl

theorem jobAt_takeRecord (i k : JobIx) (rest : List JobIx) (j : Job) (s : State) :
    jobAt (takeRecord i rest j s) k = if i = k then some j else jobAt s k := by
  unfold jobAt takeRecord
  simp only [upd_get]
  split <;> rfl

theorem jobAt_freeRecord (i k : JobIx) (s : State) :
    jobAt (freeRecord i s) k = if i = k then none else jobAt s k := by
  unfold jobAt freeRecord
  simp only [modPort_jobs, upd_get]
  split <;> rfl

theorem freeRecord_freeStack (i : JobIx) (s : State) : (freeRecord i s).freeStack = i :: s.freeStack := rfl

theorem takeRecord_freeStack (i : JobIx) (rest : List JobIx) (j : Job) (s : State) :
    (takeRecord i rest j s).freeStack = rest := rfl

/-- Record 63 never takes generation 3. -/
theorem nextGeneration_63 (g : Fin 4) : nextGeneration 63 g ≠ 3 := by revert g; decide

/-- R39: a token names the one record in use that holds it. -/
theorem jobOfToken_eq_some (s : State) (token : Byte) (i : JobIx) :
    jobOfToken s token = some i ↔ (jobAt s i).isSome = true ∧ tokenOf s i = token := by
  have hg : ∀ k : JobIx, s.jobs[k].generation.val < 4 := fun k => s.jobs[k].generation.isLt
  have ht := token.isLt
  constructor
  · intro h
    unfold jobOfToken at h
    simp only at h
    split at h
    · next hc =>
      cases h
      refine ⟨hc.1, ?_⟩
      apply BitVec.eq_of_toNat_eq
      have := hc.2
      simp only [tokenOf, BitVec.toNat_ofNat, this]
      omega
    · cases h
  · rintro ⟨hj, rfl⟩
    have hi := i.isLt
    have hgi := hg i
    have hn : (tokenOf s i).toNat = s.jobs[i].generation.val * 64 + i.val := by
      simp only [tokenOf, BitVec.toNat_ofNat]; omega
    have hx : (⟨(tokenOf s i).toNat % 64, Nat.mod_lt _ (by decide)⟩ : JobIx) = i := by
      apply Fin.ext; show (tokenOf s i).toNat % 64 = i.val; omega
    unfold jobOfToken
    simp only [hx]
    rw [if_pos ⟨hj, by omega⟩]

/-! ### Window queues (R45 to R47) -/

theorem setQueue_queues (w : WindowId) (q : List JobIx) (s : State) : (setQueue w q s).queues = put s.queues w q := by
  unfold setQueue
  split
  · split <;> rfl
  · rfl

/-- A job of a queue changes at most in its aged flag. -/
theorem setQueue_jobAt (w : WindowId) (q : List JobIx) (s : State) (k : JobIx) :
    jobAt (setQueue w q s) k = jobAt s k ∨
      jobAt (setQueue w q s) k = (jobAt s k).map fun j => { j with aged := false } := by
  unfold setQueue
  split
  · split
    · exact .inl rfl
    · rw [jobAt_modJob]
      split
      · exact .inr rfl
      · exact .inl rfl
  · exact .inl rfl

/-! ### Holds (R83, R85) -/

theorem releaseHold_printers (p : PrinterId) (s : State) :
    (releaseHold p s).printers = put s.printers p { s.printers[p] with hold := none } := by
  unfold releaseHold
  cases h : s.printers[p].hold with
  | some _ => rfl
  | none =>
    have hp : { s.printers[p] with hold := none } = s.printers[p] := by rw [← h]
    rw [hp]
    simp [put]

/-- After a release nothing holds the printer. -/
theorem holds_releaseHold (p : PrinterId) (w : WindowId) (s : State) : holds (releaseHold p s) w p = false := by
  unfold holds
  rw [releaseHold_printers, put_get_self]
  rfl

/-! ### Magazines (R134, R144) -/

theorem setMagazine_magazines (p : PrinterId) (m : Magazine) (s : State) :
    (setMagazine p m s).magazines = put s.magazines p m := by
  unfold setMagazine
  simp only
  split <;> rfl

/-! ### Tallies (R61, R62) -/

/-- What a change to the tally of a shift leaves of a window's CURRENT tally. -/
theorem modTally_current (w v : WindowId) (shift : Nat) (f : Tally → Tally) (s : State) :
    (modTally w shift f s).current[v] =
      if w = v ∧ s.current[w].shift = shift then f s.current[v] else s.current[v] := by
  unfold modTally
  split
  · next h =>
    simp only [modCurrent, upd_get]
    by_cases hw : w = v
    · rw [if_pos hw, if_pos ⟨hw, h⟩]
    · rw [if_neg hw, if_neg fun x => hw x.1]
  · next h =>
    have hn : ¬(w = v ∧ s.current[w].shift = shift) := fun x => h x.2
    rw [if_neg hn]
    split
    · split <;> rfl
    · rfl

theorem columnsOf_withColumns (t : Tally) (x y : Tender) (c : TenderColumns) :
    columnsOf (withColumns t x c) y = if x = y then c else columnsOf t y := by
  cases x <;> cases y <;> rfl

/-! ### Stock flags (R150) -/

theorem judgeFlags_kinds (k : KindId) (s : State) : (judgeFlags k s).kinds =
    put s.kinds k { s.kinds[k] with low := judgeLow s.kinds[k], exhausted := judgeExhausted s.kinds[k] } := by
  unfold judgeFlags
  simp only
  split <;> rfl

theorem recomputeKind_kinds (k : KindId) (s : State) : (recomputeKind k s).kinds = put s.kinds k
    { s.kinds[k] with
      total := availableTotal s k
      loaded := loadedCount s k
      low := judgeLow { s.kinds[k] with total := availableTotal s k, loaded := loadedCount s k }
      exhausted := judgeExhausted { s.kinds[k] with total := availableTotal s k, loaded := loadedCount s k } } := by
  unfold recomputeKind
  simp only [judgeFlags_kinds]
  split <;>
    simp [modKind, markStock, put, upd]

/-! ### The Spoil Register (R152) -/

/-- A new entry keeps the bound. -/
theorem addEntry_length (e : SpoilEntry) (r : SpoilRegister) (h : r.entries.length ≤ 256) :
    (addEntry e r).entries.length ≤ 256 := by
  unfold addEntry
  simp only
  split
  · next hl => simp only [List.length_append, List.length_singleton]; simp only [Config.registerRoom] at hl; omega
  · exact h

/-- Every entry after a new one is that one or was there before. -/
theorem mem_addEntry (e x : SpoilEntry) (r : SpoilRegister) (h : x ∈ (addEntry e r).entries) :
    x = e ∨ x ∈ r.entries := by
  unfold addEntry at h
  simp only at h
  split at h
  · rcases List.mem_append.mp h with hx | hx
    · exact .inr (List.mem_filter.mp hx).1
    · exact .inl (List.mem_singleton.mp hx)
  · exact .inr h

end Sys2Proof.Machine
end

