-- ==== Sys2Proof/Laws/PerInstr.lean ====
section
/-! SUPPORT. The per-instruction family LayoutSize: the slip written from a command fills its 512 bytes exactly
(section 11.4), and no other command writes one. -/

namespace Sys2Proof.Laws

/-- Wherever a command is written as a slip, the slip is 512 bytes long. -/
def LayoutSize.Statement (i : Instr) : Prop := ∀ bytes : List Byte, encodeSlip i = some bytes → bytes.length = 512

theorem padTo_length (n : Nat) (bytes : List Byte) : (padTo n bytes).length = n := by
  simp [padTo]; omega

theorem slipBytes_length (kind : Byte) (tag : Word) (request : List Byte) : (slipBytes kind tag request).length = 512 :=
  padTo_length 512 _

/-- A command that is written by `slipBytes`. -/
theorem LayoutSize.of_slip (i : Instr) (kind : Byte) (tag : Word) (request : List Byte)
    (h : encodeSlip i = some (slipBytes kind tag request)) : LayoutSize.Statement i := by
  intro bytes hb
  rw [h] at hb
  cases hb
  exact slipBytes_length kind tag request

/-- A command that is no slip. -/
theorem LayoutSize.of_none (i : Instr) (h : encodeSlip i = none) : LayoutSize.Statement i := by
  intro bytes hb
  rw [h] at hb
  cases hb

theorem LayoutSize.xbaseWrite (value : Word) :
    LayoutSize.Statement (.xbaseWrite value) := of_none _ rfl
theorem LayoutSize.post (value : Word) :
    LayoutSize.Statement (.post value) := of_none _ rfl
theorem LayoutSize.attnWrite (value : Word) :
    LayoutSize.Statement (.attnWrite value) := of_none _ rfl
theorem LayoutSize.attnEnWrite (value : Word) :
    LayoutSize.Statement (.attnEnWrite value) := of_none _ rfl
theorem LayoutSize.run :
    LayoutSize.Statement (.run) := of_none _ rfl
theorem LayoutSize.hold :
    LayoutSize.Statement (.hold) := of_none _ rfl
theorem LayoutSize.restart :
    LayoutSize.Statement (.restart) := of_none _ rfl
theorem LayoutSize.cold :
    LayoutSize.Statement (.cold) := of_none _ rfl
theorem LayoutSize.registerWriteIgnored (offset : BitVec 6) (byteEnables : BitVec 4) (value : Word) :
    LayoutSize.Statement (.registerWriteIgnored offset byteEnables value) := of_none _ rfl
theorem LayoutSize.powerUp (coldStrap : Bool) :
    LayoutSize.Statement (.powerUp coldStrap) := of_none _ rfl
theorem LayoutSize.pciReset :
    LayoutSize.Statement (.pciReset) := of_none _ rfl
theorem LayoutSize.pciResetRelease :
    LayoutSize.Statement (.pciResetRelease) := of_none _ rfl
theorem LayoutSize.mainPowerLoss :
    LayoutSize.Statement (.mainPowerLoss) := of_none _ rfl
theorem LayoutSize.vbkLoss :
    LayoutSize.Statement (.vbkLoss) := of_none _ rfl
theorem LayoutSize.startComplete :
    LayoutSize.Statement (.startComplete) := of_none _ rfl
theorem LayoutSize.officeClockAdvance :
    LayoutSize.Statement (.officeClockAdvance) := of_none _ rfl
theorem LayoutSize.sweep (blocks windows printers : List Nat) :
    LayoutSize.Statement (.sweep blocks windows printers) := of_none _ rfl
theorem LayoutSize.allowanceReload :
    LayoutSize.Statement (.allowanceReload) := of_none _ rfl
theorem LayoutSize.fetchRequest :
    LayoutSize.Statement (.fetchRequest) := of_none _ rfl
theorem LayoutSize.engineAccessStart :
    LayoutSize.Statement (.engineAccessStart) := of_none _ rfl
theorem LayoutSize.returnResultWritten :
    LayoutSize.Statement (.returnResultWritten) := of_none _ rfl
theorem LayoutSize.returnComplete :
    LayoutSize.Statement (.returnComplete) := of_none _ rfl
theorem LayoutSize.headerWriteComplete :
    LayoutSize.Statement (.headerWriteComplete) := of_none _ rfl
theorem LayoutSize.tableWriteComplete :
    LayoutSize.Statement (.tableWriteComplete) := of_none _ rfl
theorem LayoutSize.accessFail :
    LayoutSize.Statement (.accessFail) := of_none _ rfl
theorem LayoutSize.issue (tag : Word) (request : IssueRequest) :
    LayoutSize.Statement (.issue tag request) := of_slip _ _ _ _ rfl
theorem LayoutSize.void (tag : Word) (window : Byte) (sale : BitVec 16) :
    LayoutSize.Statement (.void tag window sale) := of_slip _ _ _ _ rfl
theorem LayoutSize.refund (tag : Word) (request : RefundRequest) :
    LayoutSize.Statement (.refund tag request) := of_slip _ _ _ _ rfl
theorem LayoutSize.readTally (tag : Word) (window : Byte) :
    LayoutSize.Statement (.readTally tag window) := of_slip _ _ _ _ rfl
theorem LayoutSize.loadStock (tag : Word) (request : LoadStockRequest) :
    LayoutSize.Statement (.loadStock tag request) := of_slip _ _ _ _ rfl
theorem LayoutSize.unloadStock (tag : Word) (printer : Byte) :
    LayoutSize.Statement (.unloadStock tag printer) := of_slip _ _ _ _ rfl
theorem LayoutSize.readSpoils (tag : Word) (index : BitVec 16) :
    LayoutSize.Statement (.readSpoils tag index) := of_slip _ _ _ _ rfl
theorem LayoutSize.rollCall (tag : Word) (line mask : Byte) :
    LayoutSize.Statement (.rollCall tag line mask) := of_slip _ _ _ _ rfl
theorem LayoutSize.testPrint (tag : Word) (request : TestPrintRequest) :
    LayoutSize.Statement (.testPrint tag request) := of_slip _ _ _ _ rfl
theorem LayoutSize.printerServiceEnter (tag : Word) (printer : Byte) :
    LayoutSize.Statement (.printerServiceEnter tag printer) := of_slip _ _ _ _ rfl
theorem LayoutSize.printerServiceLeave (tag : Word) (printer : Byte) :
    LayoutSize.Statement (.printerServiceLeave tag printer) := of_slip _ _ _ _ rfl
theorem LayoutSize.printerServiceAcknowledge (tag : Word) (printer action : Byte) :
    LayoutSize.Statement (.printerServiceAcknowledge tag printer action) := of_slip _ _ _ _ rfl
theorem LayoutSize.cashUp (tag : Word) (request : CashUpRequest) :
    LayoutSize.Statement (.cashUp tag request) := of_slip _ _ _ _ rfl
theorem LayoutSize.endOfDay (tag : Word) :
    LayoutSize.Statement (.endOfDay tag) := of_slip _ _ _ _ rfl
theorem LayoutSize.setOffice (tag : Word) (request : OfficeRequest) :
    LayoutSize.Statement (.setOffice tag request) := of_slip _ _ _ _ rfl
theorem LayoutSize.setWindow (tag : Word) (request : WindowRequest) :
    LayoutSize.Statement (.setWindow tag request) := of_slip _ _ _ _ rfl
theorem LayoutSize.setRoute (tag : Word) (request : RouteRequest) :
    LayoutSize.Statement (.setRoute tag request) := of_slip _ _ _ _ rfl
theorem LayoutSize.setPrinter (tag : Word) (printer configured group : Byte) :
    LayoutSize.Statement (.setPrinter tag printer configured group) := of_slip _ _ _ _ rfl
theorem LayoutSize.setLine (tag : Word) (line rate window limit : Byte) :
    LayoutSize.Statement (.setLine tag line rate window limit) := of_slip _ _ _ _ rfl
theorem LayoutSize.setStockKind (tag : Word) (kind : Byte) (lowMark band : BitVec 16) :
    LayoutSize.Statement (.setStockKind tag kind lowMark band) := of_slip _ _ _ _ rfl
theorem LayoutSize.badKind (tag : Word) (kind : Byte) :
    LayoutSize.Statement (.badKind tag kind) := of_slip _ _ _ _ rfl
theorem LayoutSize.arbiterAction (group : GroupId) :
    LayoutSize.Statement (.arbiterAction group) := of_none _ rfl
theorem LayoutSize.lineTurn (line : LineId) :
    LayoutSize.Statement (.lineTurn line) := of_none _ rfl
theorem LayoutSize.replyWindowExpiry (line : LineId) :
    LayoutSize.Statement (.replyWindowExpiry line) := of_none _ rfl
theorem LayoutSize.characterGapTimeout (line : LineId) :
    LayoutSize.Statement (.characterGapTimeout line) := of_none _ rfl
theorem LayoutSize.badReply (line : LineId) (bytes : List Byte) :
    LayoutSize.Statement (.badReply line bytes) := of_none _ rfl
theorem LayoutSize.frameDiscarded (line : LineId) (bytes : List Byte) :
    LayoutSize.Statement (.frameDiscarded line bytes) := of_none _ rfl
theorem LayoutSize.status (line : LineId) (address flags waiting : Byte) (entries : List OutcomeEntry) :
    LayoutSize.Statement (.status line address flags waiting entries) := of_none _ rfl
theorem LayoutSize.accept (line : LineId) (address token : Byte) :
    LayoutSize.Statement (.accept line address token) := of_none _ rfl
theorem LayoutSize.refuse (line : LineId) (address token reason : Byte) :
    LayoutSize.Statement (.refuse line address token reason) := of_none _ rfl
theorem LayoutSize.serial (line : LineId) (address : Byte) (serial : Word) (kind : Byte) :
    LayoutSize.Statement (.serial line address serial kind) := of_none _ rfl
theorem LayoutSize.retry (line : LineId) (address : Byte) :
    LayoutSize.Statement (.retry line address) := of_none _ rfl
theorem LayoutSize.slotExpiry (line : LineId) :
    LayoutSize.Statement (.slotExpiry line) := of_none _ rfl
theorem LayoutSize.badAnswer (line : LineId) (bytes : List Byte) :
    LayoutSize.Statement (.badAnswer line bytes) := of_none _ rfl
theorem LayoutSize.commandFrameEnd (line : LineId) :
    LayoutSize.Statement (.commandFrameEnd line) := of_none _ rfl

end Sys2Proof.Laws
end

