-- ==== Sys2Proof/Tests/Slice0.lean ====
section
/-! SUPPORT. The model's own tests: ill-formed terms, encodings written out by hand from section 11, the worked fares of
Table 4-2, single steps on small states, and for each statement with hypotheses a named state that meets them. -/

namespace Sys2Proof.Tests

set_option Elab.async false

open Sys2Proof.Machine

/-! ### Small states -/

/-- The state a command answers. -/
def after (c : Instr) (s : State) : State :=
  match exec c s with
  | .next t => t
  | .fault _ => s
  | .refused _ => s

/-- RUNNING with the Exchange Area placed. -/
def office : State :=
  { State.reset with office := .running, lamp := true, port := { State.reset.port with xbase := 0x1000#32 } }

/-- The fetch of a slip is in progress. -/
def fetchOf (n : SlipId) (s : State) : State :=
  { s with port := { s.port with engine := some (.fetch n), intake := [n], reader := .fetching, held := 1#128 <<< n.val } }

/-- Window 3 enabled with home group 1, and route 5 of kind 2 open to every window. -/
def open_ (s : State) : State :=
  { s with windows := upd s.windows 3 fun r => { r with enabled := true, homeGroup := 1 }
           routes := upd s.routes 5 fun r => { r with valid := true, kind := 2, mask := 0xFFFFFF#24 } }

/-- Printer 2 (line A address 3) in group 1 in a state, with a magazine of kind 2, serials 1 to 100, next 11. -/
def printer2 (state : PrinterState) (s : State) : State :=
  { s with
    printers := upd s.printers 2 fun x => { x with configured := true, group := 1, state := state }
    magazines := put s.magazines 2
      { Magazine.unloaded with loaded := true, kind := 2, first := 1, last := 100, next := 11, issued := 10 } }

/-- An order of window 3 in class 5: one CASH ticket of 500 pence. -/
def job0 : Job :=
  { slip := 9, tag := 0#32, window := some 3, sale := 77#16, lastInSale := true, ticketClass := 5, kind := 2,
    service := .standard, tender := some .cash, quantity := 1, fare := 500, amount := 500, clamped := false, face := [0x41#8],
    shift := 1, state := .queued, target := .home, aged := false, printer := none, serial := none, reprints := 0,
    outcomeWait := false }

/-- Record 0 in use, with token 64. -/
def withJob (j : Job) (s : State) : State :=
  { s with jobs := put s.jobs 0 { generation := 1, job := some j }, freeStack := s.freeStack.drop 1
           current := upd s.current 3 fun t => { t with openJobs := 1 } }

/-- The job waits at the head of window 3's queue, printer 2 READY. -/
def queued : State :=
  let s := withJob job0 (printer2 .ready (open_ office))
  { s with queues := put s.queues 3 [0] }

/-- The job is on printer 2, GRANTED. -/
def granted : State :=
  let s := withJob { job0 with state := .granted, printer := some 2 } (printer2 .ready (open_ office))
  { s with printers := upd s.printers 2 fun x => { x with outstanding := [0] } }

/-- The job is SENDING on printer 2 with its blank claimed. -/
def sending : State :=
  let s := withJob { job0 with state := .sending, printer := some 2, serial := some 11 } (printer2 .ready (open_ office))
  { s with
    printers := upd s.printers 2 fun x => { x with outstanding := [0] }
    magazines := upd s.magazines 2 fun m =>
      { m with notes := [{ serial := 11, token := 64#8, window := some 3, shift := 1, tender := some .cash, amount := 500 }] } }

/-- Line A is doing something. -/
def lineA (a : Activity) (s : State) : State := { s with lines := upd s.lines 0 fun x => { x with activity := a } }

/-- An exchange with printer 2. -/
def exchange2 (c : CommandKind) : Exchange :=
  { printer := 2, command := c, window := 20, rate := .r115200, void := false }

/-- Round 1 of a roll call on line A, with printer 2's slot in progress. -/
def inRound (s : State) : State :=
  { lineA (.slot 2 0#8) s with
    lines := upd (lineA (.slot 2 0#8) s).lines 0 fun x =>
      { x with roll := { x.roll with phase := .round, number := 1, runningSet := 0b100#8 } } }

/-- An order of window 3 in class 5. -/
def order : IssueRequest :=
  { window := 3#8, ticketClass := 5#8, sale := 77#16, lastInSale := true, minimumFare := false, service := 0#8,
    tender := 0#8, quantity := 1#8, baseFare := 500#32, discount := 0#16, faceLength := 1#8,
    face := 0x41#8 :: List.replicate 95 0#8 }

/-- A SET WINDOW for window 3. -/
def windowSlip : WindowRequest :=
  { window := 3#8, enabled := 1#8, homeGroup := 1#8, alternateGroup := 0xFF#8, holdPolicy := 2#8, allowance := 2#8,
    weight := 2#8, quota := 8#8, float := 5000#32 }

/-- Record 1 holds the granted job of another order of window 3, on printer 2, which window 3 holds. -/
def second (s : State) : State :=
  let j : Job := { job0 with slip := 10, state := .granted, printer := some 2 }
  { s with
    jobs := put s.jobs 1 { generation := 1, job := some j }
    freeStack := s.freeStack.drop 1
    printers := upd s.printers 2 fun x =>
      { x with outstanding := x.outstanding ++ [1], hold := some { window := 3, kind := .onDemand, idle := false } } }

/-- R42's law of lists as a test that evaluates. -/
def placed (s : State) : Bool :=
  (s.start.isNone || (every 64).all fun i => (jobAt s i).isNone)
    && (every 24).all (fun w => decide s.queues[w].Nodup)
    && (every 16).all (fun p => decide s.printers[p].outstanding.Nodup)
    && (every 64).all fun i =>
      (every 24).all (fun w => decide (i ∈ s.queues[w] ↔
          (jobAt s i).any (fun j => decide (j.window = some w ∧ j.printer = none)) = true))
        && (every 16).all (fun p => decide (i ∈ s.printers[p].outstanding ↔
          (jobAt s i).any (fun j => decide (j.printer = some p)) = true))
        && (jobAt s i).all fun j => decide ((j.printer = none ↔ j.state = .queued) ∧ (j.printer = none → j.window ≠ none))

theorem placeLaw_of_placed (s : State) (h : placed s = true) : PlaceLaw s := by
  simp only [placed, every, Bool.and_eq_true, Bool.or_eq_true, List.all_eq_true, List.mem_finRange, decide_eq_true_eq,
    Option.any_eq_true, Option.all_eq_true, Option.isNone_iff_eq_none, true_implies] at h
  obtain ⟨⟨⟨hs, hq⟩, hp⟩, hi⟩ := h
  exact ⟨fun hne => hs.resolve_left hne, hq, hp, fun i => ⟨(hi i).1.1, (hi i).1.2, (hi i).2⟩⟩

/-! ### Well-formedness -/

theorem test_issue_face_is_96_bytes : (Instr.issue 0#32 { order with face := [] }).wellFormed = false := by decide
theorem test_testPrint_face_is_96_bytes :
    (Instr.testPrint 0#32 { printer := 0#8, faceLength := 0#8, face := [] }).wellFormed = false := by decide
theorem test_badKind_is_unknown : (Instr.badKind 0#32 18#8).wellFormed = false := by decide
theorem test_acknowledge_is_not_leave : (Instr.printerServiceAcknowledge 0#32 2#8 2#8).wellFormed = false := by decide
theorem test_sweep_names_a_block_once : (Instr.sweep [1, 1] [] []).wellFormed = false := by decide
theorem test_sweep_names_windows_below_24 : (Instr.sweep [] [24] []).wellFormed = false := by decide
theorem test_sweep_names_printers_below_16 : (Instr.sweep [] [] [16]).wellFormed = false := by decide
theorem test_status_fits_a_frame :
    (Instr.status 0 1#8 1#8 0#8 (List.replicate 28 { token := 0#8, outcome := 1#8, k := 0#8, cause := 0#8 })).wellFormed
      = false := by decide
theorem test_ignored_write_is_no_post : (Instr.registerWriteIgnored 0x08#6 0xF#4 9#32).wellFormed = false := by decide
theorem test_order_is_wellFormed : (Instr.issue 0#32 order).wellFormed = true := by decide

/-! ### Encodings, written out from sections 6.2, 11.4 and 11.6 -/

/-- Table 1-1 and R3: the offsets of the write-only commands, byte enables, and the values of OFFICE. -/
theorem test_window_writes :
    windowWrite 0x04#6 0xF#4 9#32 = .xbaseWrite 9#32 ∧ windowWrite 0x08#6 0xF#4 9#32 = .post 9#32 ∧
      windowWrite 0x14#6 0xF#4 1#32 = .run ∧ windowWrite 0x14#6 0xF#4 4#32 = .cold ∧
      windowWrite 0x14#6 0xF#4 0x101#32 = .registerWriteIgnored 0x14#6 0xF#4 0x101#32 ∧
      windowWrite 0x08#6 0x7#4 9#32 = .registerWriteIgnored 0x08#6 0x7#4 9#32 := by decide

/-- R94: 0x41 goes out as a start bit, 1 0 0 0 0 0 1 0 and a stop bit. -/
theorem test_character_of_A :
    characterBits 0x41#8 = [.start, .data true, .data false, .data false, .data false, .data false, .data false,
      .data true, .data false, .stop] := by decide

/-- The published check value of this CRC over the digits 1 to 9. -/
theorem test_crc_of_digits :
    crc16 [0x31#8, 0x32#8, 0x33#8, 0x34#8, 0x35#8, 0x36#8, 0x37#8, 0x38#8, 0x39#8] = 0x29B1#16 := by decide +kernel

/-- The PRINT frame of section 11.6, up to its check. -/
theorem test_print_frame_example :
    let j : Job := { job0 with kind := 0, serial := some 5002, face := List.replicate 40 0x41#8 }
    let frame := frameBytes 0x03#8 0x02#8 (printPayload 0xFF#8 0x41#8 j)
    frame.length = 55 ∧ frame.take 13 =
      [0xA5#8, 0x03#8, 0x02#8, 49#8, 0xFF#8, 0x41#8, 0x00#8, 0x00#8, 0x13#8, 0x8A#8, 0x00#8, 0x00#8, 0x28#8] := by
  decide +kernel

/-- STATUS with READY, nothing pending and no entry, from address 3. -/
theorem test_status_frame_read :
    decodeReply [0xA5#8, 0x03#8, 0x81#8, 0x03#8, 0x01#8, 0x00#8, 0x00#8, 0xE4#8, 0x9D#8]
      = some (3#8, .status 1#8 0#8 []) := by decide +kernel

/-- STATUS with one SPOILED entry of token 0x46: one blank, JAM. -/
theorem test_status_entry_read :
    decodeReply [0xA5#8, 0x03#8, 0x81#8, 0x07#8, 0x01#8, 0x00#8, 0x01#8, 0x46#8, 0x02#8, 0x01#8, 0x01#8, 0xD5#8, 0x3A#8]
      = some (3#8, .status 1#8 0#8 [{ token := 0x46#8, outcome := 2#8, k := 1#8, cause := 1#8 }]) := by decide +kernel

/-- ACCEPT of token 70 from address 3, and the same frame with its check broken. -/
theorem test_accept_frame_read :
    decodeReply [0xA5#8, 0x03#8, 0x82#8, 0x01#8, 0x46#8, 0x51#8, 0x15#8] = some (3#8, .accept 70#8) ∧
      receiveBytes [0xA5#8, 0x03#8, 0x82#8, 0x01#8, 0x46#8, 0x51#8, 0x16#8] = .discarded := by decide +kernel

/-- SERIAL 30,051 of kind 2 from address 6: the serial's high byte comes first. -/
theorem test_serial_frame_read :
    decodeReply [0xA5#8, 0x06#8, 0x84#8, 0x05#8, 0x00#8, 0x00#8, 0x75#8, 0x63#8, 0x02#8, 0xD5#8, 0x08#8]
      = some (6#8, .serial 30051#32 2#8) := by decide +kernel

/-- A slip of 512 bytes from its first bytes. -/
def slip (bytes : List Byte) : List Byte := bytes ++ List.replicate (512 - bytes.length) 0#8

/-- VOID: kind 2, tag 0x04030201, window 3, sale 77. -/
theorem test_void_slip_read :
    decodeSlip (slip ([2#8, 0#8, 0#8, 0#8, 1#8, 2#8, 3#8, 4#8] ++ List.replicate 8 0xEE#8 ++ [3#8, 0xEE#8, 77#8, 0#8]))
      = .void 0x04030201#32 3#8 77#16 := by decide +kernel

/-- LOAD STOCK: kind 5, printer 5, stock kind 2, count 400, first serial 30,001 (0x7531). -/
theorem test_loadStock_slip_read :
    decodeSlip (slip ([5#8] ++ List.replicate 15 0#8 ++ [5#8, 2#8, 0x90#8, 0x01#8, 0x31#8, 0x75#8, 0#8, 0#8]))
      = .loadStock 0#32 { printer := 5#8, kind := 2#8, count := 400#16, first := 30001#32 } := by decide +kernel

/-- CASH-UP: kind 11, window 12, withdraw unsent, 4 warrants, declared cash 179,690 (0x0002BDEA). -/
theorem test_cashUp_slip_read :
    decodeSlip (slip ([11#8] ++ List.replicate 15 0#8 ++ [12#8, 1#8, 4#8, 0#8, 0xEA#8, 0xBD#8, 0x02#8, 0#8]))
      = .cashUp 0#32
          { window := 12#8, withdrawUnsent := 1#8, declaredWarrants := 4#16, declaredCash := 179690#32 } := by
  decide +kernel

/-- SET OFFICE: kind 13, M 1,200, T 50, S 5, P 2, N 8, reprint limit 1, spoil-run limit 3. -/
theorem test_setOffice_slip_read :
    decodeSlip (slip ([13#8] ++ List.replicate 15 0#8 ++
        [0xB0#8, 0x04#8, 0#8, 0#8, 50#8, 0#8, 5#8, 2#8, 8#8, 1#8, 3#8]))
      = .setOffice 0#32 { minimumFare := 1200#32, tolerance := 50#16, roundingStep := 5#8, sweepPeriod := 2#8,
                          interval := 8#8, reprintLimit := 1#8, spoilRunLimit := 3#8 } := by decide +kernel

/-- A kind byte of no slip is BAD_KIND with its value. -/
theorem test_unknown_slip_read : decodeSlip (slip [19#8]) = .badKind 0#32 19#8 := by decide +kernel

/-! ### Table 4-2 -/

theorem test_fare_a : passengerFare 4735 3333 true 5 1200 = 3155 ∧ ticketAmount 3155 3 = 9465 := by decide
theorem test_fare_b : passengerFare 1500 3333 true 5 1200 = 1200 := by decide
theorem test_fare_c : passengerFare 800 2500 true 1 1200 = 800 := by decide
theorem test_fare_d : passengerFare 1003 0 true 5 1200 = 1000 := by decide
theorem test_fare_e : passengerFare 2000 (clampDiscount 12000) false 10 1200 = 0 := by decide
theorem test_fare_f : passengerFare 2000 10000 true 10 1200 = 1200 := by decide
theorem test_fare_g : passengerFare 999999 0 false 1 0 = 999999 ∧ ticketAmount 999999 9 = 8999991 := by decide
theorem test_fare_h : passengerFare 999999 1 false 10 0 = 999890 := by decide

/-! ### Single steps, with results from the chapters' worked sequences and rules -/

/-- Section 3: the first use of record 0 gives token 64 (R37). -/
theorem test_issue_takes_token_64 :
    tokenOf (after (.issue 0#32 order) (fetchOf 9 (open_ office))) 0 = 64#8 := by decide +kernel

/-- R37: record 63 goes from generation 2 to 0, so token 255 is never made. -/
theorem test_record_63_skips_generation_3 : nextGeneration 63 2 = 0 ∧ nextGeneration 62 2 = 3 := by decide

/-- Table 2-6: P = 2 is passed at counter 672, met at 511, and the wrap sweeps whatever P is. -/
theorem test_sweep_points :
    sweepDue 672#16 2 = false ∧ sweepDue 511#16 2 = true ∧ sweepDue 65535#16 2 = true ∧ sweepDue 65535#16 0 = true ∧
      sweepDue 0#16 0 = false := by decide

/-- Section 5.6 event 1: the arbiter grants the one job to the one printer and the token comes to rest on window 3. -/
theorem test_arbiter_grants :
    (after (.arbiterAction 1) queued).printers[(2 : PrinterId)].outstanding = [0] ∧
      (after (.arbiterAction 1) queued).arbiters[(1 : GroupId)].token = 3 := by decide +kernel

/-- R102 and R136: the first PRINT claims the next serial. -/
theorem test_print_claims_next_serial :
    ((jobAt (after (.lineTurn 0) granted) 0).bind (·.serial)) = some 11 := by decide +kernel

/-- R139 and R63: a PRINTED entry consumes the blank and counts the ticket. -/
theorem test_printed_counts :
    let t := after (.status 0 3#8 1#8 0#8 [{ token := 64#8, outcome := 1#8, k := 0#8, cause := 0#8 }])
      (lineA (.awaiting (exchange2 .poll)) sending)
    t.magazines[(2 : PrinterId)].next = 12 ∧ t.current[(3 : WindowId)].cash.sales = 500 ∧
      t.current[(3 : WindowId)].openJobs = 0 := by decide +kernel

/-- R140, R46 and R65: a SPOILED entry with reprints left charges the shift and brings the job back. -/
theorem test_spoiled_comes_back :
    let t := after (.status 0 3#8 1#8 0#8 [{ token := 64#8, outcome := 2#8, k := 1#8, cause := 2#8 }])
      (lineA (.awaiting (exchange2 .poll)) sending)
    t.queues[(3 : WindowId)] = [0] ∧ t.magazines[(2 : PrinterId)].next = 12 ∧ t.current[(3 : WindowId)].spoils = 1 ∧
      t.register.entries.length = 1 := by decide +kernel

/-- R101 and R128: with a retry limit of 3 and two failures, an expiry faults the printer and ends the job IN_DOUBT. -/
theorem test_silent_printer_faults :
    let s := lineA (.awaiting (exchange2 .poll)) sending
    let t := after (.replyWindowExpiry 0)
      { s with lineRecords := upd s.lineRecords 2 fun r => { r with failures := 2 } }
    t.printers[(2 : PrinterId)].state = .faulted ∧ t.magazines[(2 : PrinterId)].unverified = some 11 ∧
      t.current[(3 : WindowId)].cash.inDoubt = 500 := by decide +kernel

/-- Section 10.7 event 1: the note becomes an in-doubt blank and the printer is faulted. -/
theorem test_warm_start_settles :
    let t := after .startComplete (after .restart sending)
    t.printers[(2 : PrinterId)].state = .faulted ∧ t.magazines[(2 : PrinterId)].inDoubt = 1 ∧
      t.current[(3 : WindowId)].openJobs = 0 ∧ t.settings.startCount = 2#32 := by decide +kernel

/-- Table 2-1: a reload a sweep has left due does not wait into HOLD, where none occurs. -/
theorem test_no_reload_in_hold :
    (after .hold { office with time := { office.time with reloadDue := true } }).time.reloadDue = false ∧
      (after .allowanceReload { office with office := .hold, time := { office.time with reloadDue := true } }).time.reloadDue
        = true := by decide +kernel

/-- Table 10-2: in PCI reset the register window does not answer. -/
theorem test_no_answer_in_pci_reset : readRegister (after .pciReset office) 0#6 0xF#4 = none ∧
    readRegister office 0#6 0xF#4 = some 0x24160001#32 := by decide +kernel

/-- Table 10-1: every record has a check word. -/
theorem test_every_record_has_a_check_word (r : RetainedRecord) : r ∈ everyRecord := by
  cases r <;> simp [everyRecord]

/-- R146: a serial among the blanks in doubt rolls them back. -/
theorem test_roll_back :
    let s := inRound (printer2 .recovering office)
    let t := after (.serial 0 3#8 10#32 2#8)
      { s with magazines := upd s.magazines 2 fun m => { m with issued := 8, inDoubt := 2, unverified := some 9 } }
    t.magazines[(2 : PrinterId)].next = 10 ∧ t.magazines[(2 : PrinterId)].inDoubt = 1 ∧
      t.printers[(2 : PrinterId)].state = .ready := by decide +kernel

/-- R158 and R159: with its only job withdrawn, a CASH-UP is stated at once. -/
theorem test_cashUp_withdraws :
    (after (.cashUp 0#32 { window := 3#8, withdrawUnsent := 1#8, declaredWarrants := 0#16, declaredCash := 0#32 })
      (fetchOf 8 queued)).port.returns.map (·.code) = [.withdrawn, .statement] := by decide +kernel

/-- R5: a slip posted twice is refused DOUBLE and sets PERR. -/
theorem test_double_post :
    let t := after (.post 9#32) (after (.post 9#32) office)
    t.port.intake = [9] ∧ t.port.lastReason = .double ∧ t.port.attn = 0b1001000#7 := by decide +kernel

/-! ### Witnesses: states and operands that meet a statement's hypotheses together -/

/-- The job is SENDING, one blank is in the Spoil Register, and a printer frame is next in the queue of commands. -/
def atWork : State :=
  let e : SpoilEntry := { kind := 2, serial := 5, printer := 2, window := some 3, shift := 1, cause := .jam,
                          disposition := .spoiled, clock := 4#32 }
  recomputeKind 2
    { sending with
      pending := [.frameDiscarded 0 []]
      register := { entries := [e], lost := 0, overflow := false } }

/-- A return and the fetch behind it. -/
def fetched : State :=
  let s := fetchOf 8 atWork
  { s with port := { s.port with returns := [entryNow s 9 0#32 .done 0#32 []], held := 0x300#128 } }

theorem witness_step (law : State → Prop) (s : State) (h : law s) (hs : s.pending = [.frameDiscarded 0 []]) :
    ∃ s t : State, law s ∧ step s = .next t := by
  refine ⟨s, s.withPending [], h, ?_⟩
  simp only [step, hs]; rfl

theorem witness_StepRunsFrontCommand : atWork.pending = .frameDiscarded 0 [] :: [] ∧ office.pending = [] := by
  decide +kernel

theorem witness_JobRecordLawsKept : (∃ s t : State, JobTableLaw s ∧ step s = .next t) ∧
    (∃ s t : State, WindowJobsLaw s ∧ step s = .next t) ∧ ∃ s t : State, TokenLaw s ∧ step s = .next t := by
  refine ⟨witness_step _ atWork ?_ rfl, witness_step _ atWork ?_ rfl, witness_step _ atWork ?_ rfl⟩
  · unfold JobTableLaw; decide +kernel
  · unfold WindowJobsLaw; decide +kernel
  · unfold TokenLaw; decide +kernel

theorem witness_RegisterLawKept : (∃ s t : State, RegisterLaw s ∧ step s = .next t) ∧
    (∃ e ∈ atWork.register.entries, e.kind = 2 ∧ e.serial = 5) ∧
    let e : SpoilEntry := { kind := 2, serial := 5, printer := 2, window := none, shift := 0, cause := .test,
                            disposition := .spoiled, clock := 0#32 }
    (∀ x ∈ List.replicate 256 e, ¬(x.kind = (15 : KindId) ∧ x.serial = 5)) ∧ (List.replicate 256 e).length = 256 :=
  ⟨witness_step _ atWork (by unfold RegisterLaw; decide +kernel) rfl, by decide +kernel, by decide +kernel⟩

theorem witness_LowStockLawKept : ∃ s t : State, LowStockLaw s ∧ step s = .next t :=
  witness_step _ atWork (by unfold LowStockLaw; decide +kernel) rfl

theorem witness_OutstandingLawKept : (∃ s t : State, OutstandingLaw s ∧ step s = .next t) ∧
    ∃ s t : State, (JobTableLaw s ∧ PlaceLaw s) ∧ step s = .next t := by
  refine ⟨witness_step _ atWork (by unfold OutstandingLaw; decide +kernel) rfl,
    witness_step (fun s => JobTableLaw s ∧ PlaceLaw s) atWork ⟨?_, placeLaw_of_placed _ (by decide +kernel)⟩ rfl⟩
  unfold JobTableLaw; decide +kernel

/-- Window 3 holds printer 2 while line A is between rounds. -/
def heldAtWork : State :=
  { atWork with
    printers := upd atWork.printers 2 fun x => { x with hold := some { window := 3, kind := .onDemand, idle := false } }
    lines := upd atWork.lines 0 fun x =>
      { x with roll := { x.roll with phase := .between, number := 1, runningSet := 0b100#8, pendingSet := 0b1#8 } } }

theorem rollLaw_of (s : State) (h : ∀ l : LineId, s.lines[l].roll.phase = .none ∧ s.lines[l].roll.waitingSet = 0#8 ∧
    s.lines[l].roll.runningSet = 0#8 ∧ s.lines[l].roll.pendingSet = 0#8 ∨
    s.lines[l].roll.phase = .waiting ∧ s.lines[l].roll.runningSet = 0#8 ∧ s.lines[l].roll.pendingSet = 0#8 ∨
    s.lines[l].roll.phase = .between ∧ s.lines[l].roll.waitingSet = 0#8) : RollLaw s := by
  intro l
  obtain ⟨hp, h⟩ | ⟨hp, h⟩ | ⟨hp, h⟩ := h l <;> rw [hp] <;> exact h

theorem holdLaw_of (s : State) (w : WindowId) (p : PrinterId)
    (h : ∀ (v : WindowId) (q : PrinterId), holds s v q = true → q = p ∧ v = w) : HoldLaw s :=
  fun v q r hq hr => (h v q hq).1.trans (h v r hr).1.symm

theorem witness_HoldLawKept : (∃ s t : State, HoldLaw s ∧ step s = .next t) ∧
    ∃ s t : State, RollLaw s ∧ step s = .next t :=
  ⟨witness_step _ heldAtWork (holdLaw_of _ 3 2 (by decide +kernel)) rfl,
    witness_step _ heldAtWork (rollLaw_of _ (by decide +kernel)) rfl⟩

/-- Window 3 waits for the statement of a closed shift, a sweep has left a reload due, and the store is valid. -/
def sealedAtWork : State :=
  sealStore { atWork with
    time := { atWork.time with reloadDue := true }
    closing := put atWork.closing 3 (some { atWork.current[(3 : WindowId)] with openJobs := 1 })
    cashUps := put atWork.cashUps 3 (some { slip := 5, tag := 0#32, declaredCash := 0, declaredWarrants := 0 }) }

theorem witness_OfficeLawsKept : (∃ s t : State, LampLaw s ∧ step s = .next t) ∧
    (∃ s t : State, SettingsLaw s ∧ step s = .next t) ∧
    (∃ s t : State, (CashUpLaw s ∧ s.cashUps[(3 : WindowId)] ≠ none) ∧ step s = .next t) ∧
    (∃ s t : State, (ReloadLaw s ∧ s.time.reloadDue = true) ∧ step s = .next t) ∧
    (∃ s t : State, (StoreLaw s ∧ ticking s = true ∧ s.start = none) ∧ step s = .next t) ∧
    ∃ s t : State, s.pending.head? ≠ some .vbkLoss ∧ step s = .next t := by
  refine ⟨witness_step _ atWork ?_ rfl, witness_step _ atWork ?_ rfl,
    witness_step (fun s => CashUpLaw s ∧ _) sealedAtWork ?_ rfl,
    witness_step (fun s => ReloadLaw s ∧ _) sealedAtWork ?_ rfl,
    witness_step (fun s => StoreLaw s ∧ _) sealedAtWork ?_ rfl,
    witness_step (fun s => s.pending.head? ≠ some .vbkLoss) atWork ?_ rfl⟩
  · unfold LampLaw; decide +kernel
  · unfold SettingsLaw; decide +kernel
  · unfold CashUpLaw; decide +kernel
  · unfold ReloadLaw; decide +kernel
  · exact ⟨⟨fun st h => (by cases h), fun _ _ => storeValid_sealStore _⟩, by decide +kernel, rfl⟩
  · decide +kernel

theorem witness_AccessLawKept : (∃ s t : State, AccessLaw s ∧ step s = .next t) ∧
    ∃ s t : State, (AreaLaw s ∧ s.port.returns ≠ []) ∧ step s = .next t := by
  refine ⟨witness_step _ fetched ⟨?_, ?_, ?_, ?_⟩ rfl, witness_step (fun s => AreaLaw s ∧ _) fetched ⟨⟨?_, ?_⟩, ?_⟩ rfl⟩
  · rintro n h; cases h; decide +kernel
  · rintro e (h | h) <;> cases h
  · rintro n h; cases h
  · intro h; cases h
  · decide +kernel
  · rintro a h; cases h; trivial
  · decide +kernel

theorem witness_FareLawKept : ∃ s t : State, FareLaw s ∧ step s = .next t := by
  refine witness_step _ atWork ?_ rfl
  have h : ∀ i : JobIx, (jobAt atWork i).all (fun j => decide (j.fare ≤ 999999 ∧ j.amount ≤ 8999991)) = true := by
    decide +kernel
  intro i j hj
  have := h i
  rw [hj] at this
  exact of_decide_eq_true this
theorem witness_SlipRoundTrip : (Instr.issue 5#32 order).wellFormed = true ∧
    ∃ bytes : List Byte, encodeSlip (.issue 5#32 order) = some bytes := ⟨by decide +kernel, _, rfl⟩

theorem witness_ReplyRoundTrip : ∀ flags waiting entries,
    Reply.status 1#8 0#8 (List.replicate 27 { token := 64#8, outcome := 1#8, k := 0#8, cause := 0#8 })
      = .status flags waiting entries → entries.length ≤ 27 := by
  intro flags waiting entries h; cases h; decide +kernel

theorem witness_FareDiscountAndStep : 999999 ≤ 999999 ∧ 10000 ≤ 10000 ∧ (10 = 1 ∨ 10 = 5 ∨ 10 = 10) := by decide

theorem witness_FareMinimumAndAmount : 10000 ≤ 10000 ∧
    (true = true ∧ 0 < 10000 ∧ steppedFare 800 10000 1 < 1200 ∧ 800 < 1200) ∧ ¬steppedFare 1500 0 5 < 1200 := by decide

theorem witness_LawOfFares : (999999 ≤ 999999 ∧ 10000 ≤ 10000 ∧ 1 ≤ 9 ∧ 9 ≤ 9 ∧ (10 = 1 ∨ 10 = 5 ∨ 10 = 10) ∧
    99999 ≤ 99999) ∧ issueBad order = none := by decide

theorem witness_XbaseWriteInStandby : live State.reset = true ∧ State.reset.office = .standby ∧
    (0xFFFEFFFF#32 &&& 0xFFFFF000#32).toNat ≤ 0xFFFEF000 ∧ ¬(0xFFFF0000#32 &&& 0xFFFFF000#32).toNat ≤ 0xFFFEF000 := by
  decide +kernel

theorem witness_PostTestsInOrder :
    (live fetched = true ∧ 128 ≤ (128#32).toNat ∧ (9 : SlipId).val = (9#32).toNat ∧
      fetched.port.held.getLsbD (9 : SlipId).val = true) ∧
    (127 : SlipId).val = (127#32).toNat ∧ fetched.port.held.getLsbD (127 : SlipId).val = false ∧
      fetched.port.intake.length < 32 ∧
    (live { office with port := { office.port with intake := List.replicate 32 4 } } = true ∧
      32 ≤ { office with port := { office.port with intake := List.replicate 32 4 } }.port.intake.length ∧
      office.port.held.getLsbD (9 : SlipId).val = false) := by decide +kernel

theorem witness_AttentionWrites : live office = true := by decide +kernel

theorem witness_RunAndHoldByOfficeState :
    (live office = true ∧ office.office = .running ∧ office.time.reloadDue = false) ∧
    (live sealedAtWork = true ∧ sealedAtWork.office = .running ∧ sealedAtWork.time.reloadDue = true) ∧
    (live { office with office := .hold } = true ∧ { office with office := .hold }.office = .hold) ∧
    (live State.reset = true ∧ State.reset.office = .standby ∧ State.reset.port.xbase = 0#32) ∧
    (live { office with office := .standby } = true ∧ { office with office := .standby }.port.xbase ≠ 0#32) := by
  decide +kernel

theorem witness_WritesIgnoredDuringStart :
    ((7#6).toNat / 4 = 1 ∧ (8#6).toNat / 4 = 2 ∧ (15#6).toNat / 4 = 3 ∧ (16#6).toNat / 4 = 4 ∧ (20#6).toNat / 4 = 5) ∧
    (0xE#4 ≠ 0xF#4 ∧ (3#6).toNat < 4 ∧ 24 ≤ (24#6).toNat ∧
      (20 ≤ (23#6).toNat ∧ (23#6).toNat < 24 ∧ ((0#32).toNat = 0 ∨ 4 < (5#32).toNat))) ∧
    (after .restart office).start ≠ none ∧
    Instr.registerWriteIgnored 8#6 0xF#4 9#32 ∈ [Instr.xbaseWrite 9#32, .post 9#32, .attnWrite 9#32, .attnEnWrite 9#32,
      .run, .hold, .restart, .cold, .registerWriteIgnored 8#6 0xF#4 9#32] := by decide +kernel

theorem witness_RestartAndColdBeginStart : live sending = true := by decide +kernel

theorem witness_ColdStartReachesReset : live sending = true ∧ ticking (after .cold sending) = true ∧
    (after .cold sending).start = some { cold := true, lost := false, seconds := 0#32 } := by decide +kernel

/-- Two jobs are in flight on printer 2, with their notes. -/
def bothSent : State :=
  let s := modJob 1 (fun j => { j with state := .sent, serial := some 12 }) (second (modJob 0 (fun j =>
    { j with state := .sent }) sending))
  { s with magazines := upd s.magazines 2 fun m =>
      { m with notes := m.notes ++ [{ serial := 12, token := 65#8, window := some 3, shift := 1, tender := some .cash,
                                      amount := 500 }] } }

/-- The two jobs in flight, in order of serial. -/
def bothJobs : List (JobIx × Job) :=
  [(0, { job0 with state := .sent, printer := some 2, serial := some 11 }),
    (1, { job0 with slip := 10, state := .sent, printer := some 2, serial := some 12 })]

/-- A warm start has begun with the two notes, of the CURRENT shift or of a CLOSING one. -/
def warm (state : PrinterState) (closing : Bool) : State :=
  let s := after .restart (modPrinter 2 (fun x => { x with state := state }) bothSent)
  if closing then
    { s with closing := put s.closing 3 (some s.current[(3 : WindowId)]), current := put s.current 3 (.opened 2 0) }
  else s

theorem witness_WarmStartSettlesNotes :
    (∀ s ∈ [warm .ready false, warm .faulted true, after .restart queued],
      ticking s = true ∧ s.start = some { cold := false, lost := false, seconds := 0#32 } ∧
        ∀ l : LineId, s.lines[l].roll = .none) ∧
    ((allNotes (warm .ready false)).length = 2 ∧ allNotes (after .restart queued) = []) ∧
    (noteAmounts (warm .ready false) 3 (warm .ready false).current[(3 : WindowId)].shift .cash = [500, 500] ∧
      (warm .ready false).closing[(3 : WindowId)] = none) ∧
    ∃ c : Tally, (warm .faulted true).closing[(3 : WindowId)] = some c ∧
      c.shift ≠ (warm .faulted true).current[(3 : WindowId)].shift ∧
      noteAmounts (warm .faulted true) 3 c.shift .cash = [500, 500] :=
  ⟨by decide +kernel, by decide +kernel, by decide +kernel, _, rfl, by decide +kernel, by decide +kernel⟩

theorem witness_PowerFailureAndReturn :
    (sealedAtWork.powered = true ∧ storeValid sealedAtWork = true) ∧
    ((loseStore sealedAtWork).powered = true ∧ storeValid (loseStore sealedAtWork) = false) ∧
    (after .mainPowerLoss sending).powered = false :=
  ⟨⟨rfl, storeValid_sealStore _⟩, ⟨rfl, storeValid_loseStore _⟩, by decide +kernel⟩

theorem witness_PciResetBeginsStart : (sealedAtWork.powered = true ∧ storeValid sealedAtWork = true) ∧
    (loseStore sealedAtWork).powered = true ∧ storeValid (loseStore sealedAtWork) = false :=
  ⟨⟨rfl, storeValid_sealStore _⟩, rfl, storeValid_loseStore _⟩

theorem witness_OfficeClockAdvances : ticking office = true ∧ ticking (after .cold office) = true := by decide +kernel

/-- The Time Base of a state is changed. -/
def at_ (divider : Nat) (counter : BitVec 16) (s : State) : State :=
  { s with time := { s.time with divider := divider, sweepCounter := counter } }

/-- A tick to 511, of P = 2, makes a sweep; one from 510 makes none. -/
theorem witness_TickCounts : 255 ≤ 255 ∧
    (State.reset.pending = [] ∧ ticking State.reset = true ∧ State.reset.time.reloadDue = false ∧
      State.reset.time.divider ≠ 999 ∧ State.reset.office = .standby) ∧
    (let s := { at_ 998 510#16 office with settings := { office.settings with sweepPeriod := 2 } };
      s.pending = [] ∧ ticking s = true ∧ s.time.reloadDue = false ∧ s.time.divider ≠ 999 ∧ s.start = none ∧
        s.office = .running ∧ sweepDue s.time.sweepCounter s.settings.sweepPeriod = false) ∧
    (let s := { at_ 999 0#16 office with office := .hold };
      s.pending = [] ∧ ticking s = true ∧ s.time.reloadDue = false ∧ s.time.divider = 999 ∧ s.start = none) ∧
    (let s := { at_ 999 510#16 office with settings := { office.settings with sweepPeriod := 2 } };
      s.pending = [] ∧ ticking s = true ∧ s.time.divider = 999 ∧ s.office = .running ∧
        sweepDue s.time.sweepCounter s.settings.sweepPeriod = false) ∧
    (∀ d ∈ [998, 999], let s := { at_ d 511#16 office with settings := { office.settings with sweepPeriod := 2 } };
      s.pending = [] ∧ live s = true ∧ s.office = .running ∧
        sweepDue s.time.sweepCounter s.settings.sweepPeriod = true ∧ s.time.reloadDue = false ∧
        ¬s.settings.interval ≤ s.time.allowanceDivider + 1) ∧
    (let s := { at_ 999 0xFFFF#16 office with settings := { office.settings with interval := 1 } };
      s.pending = [] ∧ live s = true ∧ sweepDue s.time.sweepCounter s.settings.sweepPeriod = true ∧
        s.settings.interval ≤ s.time.allowanceDivider + 1) := by decide +kernel

theorem witness_SweepCountsAndReload : (live queued = true ∧ queued.office = .running ∧ queued.time.reloadDue = false) ∧
    (let s := { queued with time := { queued.time with reloadDue := true } };
      live s = true ∧ s.office = .running ∧ s.pending = [] ∧ s.time.reloadDue = true) ∧
    ({ queued with office := .hold }.office = .hold ∧ State.reset.office = .standby) := by decide +kernel

/-- The job has been in one sweep. -/
def aged : State := modJob 0 (fun j => { j with aged := true }) queued

/-- The route may fall back, and window 3 has an alternate group. -/
def withAlternate : State :=
  modWindow 3 (fun r => { r with alternateGroup := some 2 })
    { aged with routes := upd aged.routes 5 fun r => { r with fallback := true } }

/-- Window 3 holds printer 2, which has a job of it outstanding. -/
def exempted : State := second aged

/-- The job in flight was found waiting at a sweep, its printer in a state. -/
def owed (state : PrinterState) : State :=
  modPrinter 2 (fun x => { x with state := state }) (modJob 0 (fun j => { j with outcomeWait := true }) sending)

/-- Window 3, with no job, holds printer 2. -/
def idleHold (idle : Bool) : State :=
  modPrinter 2 (fun x => { x with hold := some { window := 3, kind := .onDemand, idle := idle } })
    (printer2 .ready (open_ office))

/-- Line A's roll call is in a phase, its line free. -/
def rolling (phase : RollPhase) (waiting running : BitVec 8) : State :=
  { queued with lines := upd queued.lines 0 fun x =>
      { x with roll := { x.roll with phase := phase, number := 1, waitingSet := waiting, runningSet := running } } }

theorem witness_AgingOfTheHeadJob :
    (∀ s ∈ [queued, aged, withAlternate, exempted, sending, owed .ready, owed .faulted, idleHold false, idleHold true,
      rolling .waiting 0b100#8 0#8, rolling .between 0#8 0b100#8], live s = true ∧ s.office = .running ∧ placed s = true) ∧
    (∀ s ∈ [queued, aged, withAlternate, exempted, sending, idleHold false, idleHold true,
      rolling .waiting 0b100#8 0#8, rolling .between 0#8 0b100#8], ∀ p : PrinterId, owedJobs s p = []) ∧
    (∀ s ∈ [queued, aged, withAlternate, exempted], (∀ p : PrinterId, s.printers[p].hold.all (! ·.idle) = true) ∧
      s.queues[(3 : WindowId)] = [0]) ∧
    (jobAt queued 0 = some job0 ∧ agingExempt queued 3 = false) ∧
    (jobAt aged 0 = some { job0 with aged := true } ∧ agingExempt aged 3 = false ∧
      aged.windows[(3 : WindowId)].alternateGroup = none) ∧
    (jobAt withAlternate 0 = some { job0 with aged := true } ∧ agingExempt withAlternate 3 = false ∧
      withAlternate.windows[(3 : WindowId)].alternateGroup ≠ none ∧ withAlternate.routes[(5 : ClassId)].valid = true ∧
      withAlternate.routes[(5 : ClassId)].fallback = true) ∧
    agingExempt exempted 3 = true ∧
    (sending.printers[(2 : PrinterId)].outstanding = [0] ∧ inFlight sending 0 = true) ∧
    (∀ b : Bool, (∀ w : WindowId, (idleHold b).queues[w] = []) ∧ holdIdle (idleHold b) 2 3 = true ∧
      (∀ (v : WindowId) (q : PrinterId), holds (idleHold b) v q = true → q = 2 ∧ v = 3) ∧
      ∀ l : LineId, (idleHold b).lines[l].roll = RollCall.none) ∧
    ((rolling .waiting 0b100#8 0#8).lines[(0 : LineId)].activity = .free ∧
      (rolling .between 0#8 0b100#8).lines[(0 : LineId)].roll.phase = .between) ∧
    (owedJobs (owed .ready) 2 = [0] ∧ (∀ q : PrinterId, q ≠ 2 → owedJobs (owed .ready) q = []) ∧
      (∀ w : WindowId, (owed .ready).queues[w] = []) ∧ (owed .ready).printers[(2 : PrinterId)].state = .ready ∧
      owedJobs (owed .faulted) 2 = [0] ∧ (owed .faulted).printers[(2 : PrinterId)].state = .faulted) := by
  decide +kernel

theorem witness_AgingOfTheHeadJob_inDoubt :
    InFlightInOrder (owed .ready) 2
      [(0, { job0 with state := .sending, printer := some 2, serial := some 11, outcomeWait := true })] := by
  unfold InFlightInOrder; decide +kernel

/-- The Exchange Port idle but for what a function adds. -/
def idlePort (f : ExchangePort → ExchangePort) : State :=
  { queued with port := f { queued.port with intake := [4], reader := .fetching } }

theorem witness_EngineStartsFirstWaiting :
    (live (idlePort id) = true ∧ (idlePort id).office = .running ∧ (idlePort id).port.engine = none ∧
      (idlePort id).port.failed = none ∧ (idlePort id).port.returns = [] ∧ (idlePort id).port.headerMark = false ∧
      (∀ p : PrinterId, (idlePort id).port.printerMarks[p] = .clear) ∧
      ∀ k : KindId, (idlePort id).port.stockMarks[k] = .clear) ∧
    (live (idlePort fun x => { x with reader := .idle }) = true ∧
      (idlePort fun x => { x with reader := .idle }).port.intake ≠ []) ∧
    live (idlePort fun x => { x with failed := some (.fetch 4) }) = true ∧
    live (idlePort fun x => { x with failed := some .header }) = true ∧
    live (idlePort fun x => { x with failed := some (.printerEntry 15) }) = true ∧
    live (idlePort fun x => { x with failed := some (.stockEntry 15) }) = true ∧
    live (idlePort fun x => { x with returns := [entryNow queued 9 0#32 .done 0#32 []] }) = true ∧
    (live (idlePort fun x => { x with printerMarks := put x.printerMarks 0 .plain }) = true ∧
      (idlePort fun x => { x with printerMarks := put x.printerMarks 0 .plain }).port.printerMarks[(0 : PrinterId)] ≠
        .clear) ∧
    (live (idlePort fun x => { x with stockMarks := put x.stockMarks 0 .plain }) = true ∧
      (idlePort fun x => { x with stockMarks := put x.stockMarks 0 .plain }).port.stockMarks[(0 : KindId)] ≠ .clear) ∧
    live (idlePort fun x => { x with headerMark := true }) = true := by
  decide +kernel

/-- An access in progress. -/
def accessing (a : Access) : State := { fetched with port := { fetched.port with engine := some a } }

theorem witness_AccessesCompleteInOrder :
    (∀ a : Access, (accessing a).port.engine = some a) ∧ ∀ a : Access, live (accessing a) = live fetched ∧
      live fetched = true := ⟨fun _ => rfl, fun _ => ⟨rfl, by decide +kernel⟩⟩

theorem witness_AccessesWriteTheirRegions :
    (let e := entryNow queued 127 0#32 .done 0#32 [];
      (0x100 + (127 : SlipId).val, [1#8]) ∈ accessWrites (.returnMap e) ∧ accessWrites (.returnFields e) ≠ [] ∧
        e.area.length = 320) ∧
    ((0, headerBytes queued) ∈ accessWrites (.header (headerBytes queued)) ∧ (headerBytes queued).length = 256) ∧
    ((0x200 + (15 : PrinterId).val * 32, printerEntryBytes queued 15) ∈
        accessWrites (.printerEntry 15 (printerEntryBytes queued 15) true) ∧ (printerEntryBytes queued 15).length = 32) ∧
    ((0x400 + (15 : KindId).val * 16, stockEntryBytes queued 15) ∈
        accessWrites (.stockEntry 15 (stockEntryBytes queued 15) true) ∧ (stockEntryBytes queued 15).length = 16) := by
  decide +kernel

theorem witness_FailedAccessFaultsExchange : live fetched = true ∧ fetched.port.engine = some (.fetch 8) := by
  decide +kernel

/-- The fetch of slip 8, with window 3 holding printer 2. -/
def holding : State :=
  fetchOf 8 (modPrinter 2 (fun x => { x with hold := some { window := 3, kind := .onDemand, idle := false } }) queued)

theorem witness_IssueIsAccepted :
    let s := fetchOf 9 (open_ office)
    fetching s 9 ∧ s.freeStack = 0 :: freeStackStart.drop 1 ∧ order.window.toNat = (3 : WindowId).val ∧
      order.ticketClass.toNat = (5 : ClassId).val ∧ serviceOf order.service = some .standard ∧
      tenderOf order.tender = some .cash ∧ 1 ≤ order.quantity.toNat ∧ order.quantity.toNat ≤ 9 ∧
      order.baseFare.toNat ≤ 999999 ∧ order.faceLength.toNat ≤ 96 ∧ s.windows[(3 : WindowId)].enabled = true ∧
      s.routes[(5 : ClassId)].valid = true ∧ s.routes[(5 : ClassId)].mask.getLsbD (3 : WindowId).val = true ∧
      jobCount s 3 < s.windows[(3 : WindowId)].quota := by decide +kernel

/-- The first field in error of an order whose discount is clamped, at each bound, and an order with none. -/
theorem witness_IssueWaitsOrIsRefused :
    let s := fetchOf 9 (open_ office)
    (fetching s 9 ∧ s.freeStack ≠ [] ∧ fetching { s with freeStack := [] } 9) ∧
    ((24#8).toNat = 24 ∧ ¬24 ≤ order.window.toNat ∧ ¬64 ≤ order.ticketClass.toNat ∧ ¬2 ≤ order.service.toNat ∧
      ¬4 ≤ order.tender.toNat ∧ ¬(order.quantity.toNat = 0 ∨ 9 < order.quantity.toNat) ∧
      ¬999999 < order.baseFare.toNat ∧ ¬96 < order.faceLength.toNat) ∧
    (order.window.toNat = (3 : WindowId).val ∧ order.ticketClass.toNat = (5 : ClassId).val ∧
      s.windows[(3 : WindowId)].enabled = true ∧ s.routes[(5 : ClassId)].valid = true ∧
      s.routes[(5 : ClassId)].mask.getLsbD (3 : WindowId).val = true) ∧
    (fetching (fetchOf 9 office) 9 ∧ office.windows[(3 : WindowId)].enabled = false) ∧
    (open_ office).routes[(6 : ClassId)].valid = false ∧
    (fetching (fetchOf 9 (modWindow 3 (fun r => { r with quota := 1 }) queued)) 9 ∧
      (modWindow 3 (fun r => { r with quota := 1 }) queued).windows[(3 : WindowId)].quota ≤
        jobCount (modWindow 3 (fun r => { r with quota := 1 }) queued) 3) ∧
    ({ open_ office with routes := upd (open_ office).routes 5 fun r => { r with mask := 0#24 } }).routes[(5 : ClassId)].mask.getLsbD
        (3 : WindowId).val = false := by
  decide +kernel

/-- The queued job is the last of its sale, for which window 3 holds printer 2. -/
def saleEnding : State :=
  modPrinter 2 (fun x => { x with hold := some { window := 3, kind := .saleEnd 77#16, idle := false } }) queued

theorem witness_VoidWithdrawsUnsentJobs : fetching (fetchOf 8 saleEnding) 8 ∧ 24 ≤ (24#8).toNat ∧
    (23#8).toNat = (23 : WindowId).val ∧ (3#8).toNat = (3 : WindowId).val ∧
    unsentJobs (fetchOf 8 saleEnding) 3 (fun j => j.sale == 77#16) = [0] ∧ jobAt (fetchOf 8 saleEnding) 0 = some job0 ∧
    job0.window = some 3 ∧ job0.lastInSale = true ∧ (fetchOf 8 saleEnding).printers[(2 : PrinterId)].hold =
      some { window := 3, kind := .saleEnd 77#16, idle := false } := by decide +kernel

theorem witness_RefundRaisesItsColumns : fetching (fetchOf 8 queued) 8 ∧ (23#8).toNat = (23 : WindowId).val ∧
    tenderOf 1#8 = some .card ∧ 1 ≤ (8999991#32).toNat ∧ (8999991#32).toNat ≤ 8999991 := by decide +kernel

theorem witness_ReadingSlipsAreAnswered : fetching (fetchOf 8 queued) 8 ∧ (23#8).toNat = (23 : WindowId).val ∧
    24 ≤ (24#8).toNat ∧ (255#16).toNat ≤ 255 ∧ ¬(256#16).toNat ≤ 255 ∧ 18 < (19#8).toNat := by decide +kernel

theorem witness_LoadAndUnloadReplaceMagazine :
    (let s := fetchOf 8 (printer2 .empty office);
      fetching s 8 ∧ (2#8).toNat = (2 : PrinterId).val ∧ (15#8).toNat = (15 : KindId).val ∧ 1 ≤ (998000#32).toNat ∧
        1 ≤ (2000#16).toNat ∧ (2000#16).toNat ≤ 2000 ∧ (998000#32).toNat + (2000#16).toNat - 1 ≤ 999999 ∧
        s.printers[(2 : PrinterId)].state = .empty ∧ s.printers[(2 : PrinterId)].outstanding = [] ∧
        (∀ q : PrinterId, q ≠ 2 → s.magazines[q].loaded = true → s.magazines[q].kind = 15 →
          s.magazines[q].last < (998000#32).toNat ∨
            (998000#32).toNat + (2000#16).toNat - 1 < s.magazines[q].first) ∧
        s.magazines[(2 : PrinterId)].loaded = true) ∧
    (let s := fetchOf 8 (printer2 .offline office);
      fetching s 8 ∧ s.printers[(2 : PrinterId)].state = .offline ∧ s.printers[(2 : PrinterId)].outstanding = []) ∧
    (let s := fetchOf 8 granted;
      fetching s 8 ∧ s.printers[(2 : PrinterId)].outstanding ≠ [] ∧ s.printers[(2 : PrinterId)].state = .ready) ∧
    (let s := fetchOf 8 { printer2 .offline office with magazines := office.magazines };
      fetching s 8 ∧ s.printers[(2 : PrinterId)].state = .offline ∧
        s.magazines[(2 : PrinterId)].loaded = false) := by decide +kernel

theorem witness_RollCallIsHeld :
    (fetching (fetchOf 8 queued) 8 ∧ (0#8).toNat = (0 : LineId).val ∧ 0b100#8 ≠ 0#8 ∧
      queued.printers[printerAt 0 2].state = .ready ∧ queued.lines[(0 : LineId)].rollSlip = none ∧
      queued.lines[(0 : LineId)].roll.phase = .none) ∧
    (office.printers[printerAt 0 2].state = .unconfigured ∧ (0b100#8).getLsbD (2 : AddressIx).val = true) ∧
    ((inRound queued).lines[(0 : LineId)].roll.phase = .round ∧ fetching (fetchOf 8 (inRound queued)) 8) := by
  decide +kernel

theorem witness_TestPrintIsAccepted :
    (let s := fetchOf 8 (printer2 .ready office);
      fetching s 8 ∧ s.freeStack = 0 :: freeStackStart.drop 1 ∧ (2#8).toNat = (2 : PrinterId).val ∧ (96#8).toNat ≤ 96 ∧
        s.printers[(2 : PrinterId)].state = .ready ∧ s.magazines[(2 : PrinterId)].loaded = true ∧
        s.magazines[(2 : PrinterId)].frozen = false ∧ s.printers[(2 : PrinterId)].outstanding.length < 2 ∧
        s.printers[(2 : PrinterId)].hold = none ∧ isSelected s 2 = false ∧
        transmitted s.magazines[(2 : PrinterId)] + reserved s 2 < remaining s.magazines[(2 : PrinterId)]) ∧
    (fetching holding 8 ∧ holding.printers[(2 : PrinterId)].state = .ready ∧
      holding.printers[(2 : PrinterId)].hold ≠ none ∧ holding.freeStack = 1 :: freeStackStart.drop 2) ∧
    fetching (fetchOf 8 (printer2 .empty office)) 8 ∧ fetching { fetchOf 8 office with freeStack := [] } 8 ∧
    (16 ≤ (16#8).toNat ∧ (15#8).toNat < 16 ∧ 96 < (97#8).toNat) := by decide +kernel

/-- A faulted printer with its record OPEN. -/
def openRecord : State :=
  fetchOf 8 (modPrinter 2
    (fun x => { x with fault := { x.fault with state := .opened, first := some .jam, latest := some .jam } })
    (printer2 .faulted office))

theorem witness_ServiceEntersAndLeaves :
    ((2#8).toNat = (2 : PrinterId).val ∧ (15#8).toNat = (15 : PrinterId).val) ∧
    (fetching (fetchOf 8 (printer2 .offline office)) 8 ∧
      (printer2 .offline office).printers[(2 : PrinterId)].state = .offline) ∧
    (fetching (fetchOf 8 granted) 8 ∧ granted.printers[(2 : PrinterId)].state = .ready ∧
      granted.printers[(2 : PrinterId)].outstanding ≠ []) ∧
    (fetching openRecord 8 ∧ openRecord.printers[(2 : PrinterId)].state = .faulted ∧
      openRecord.printers[(2 : PrinterId)].outstanding = []) ∧
    (fetching holding 8 ∧ holding.printers[(2 : PrinterId)].state = .ready ∧
      holding.printers[(2 : PrinterId)].outstanding = []) := by decide +kernel

theorem witness_AcknowledgeMovesOpenRecord : fetching openRecord 8 ∧ (2#8).toNat = (2 : PrinterId).val ∧ 3#8 ≠ 1#8 ∧
    3#8 ≠ 2#8 ∧ openRecord.printers[(2 : PrinterId)].state = .faulted ∧
    openRecord.printers[(2 : PrinterId)].fault.state = .opened ∧
    (fetching (fetchOf 8 (printer2 .faulted office)) 8 ∧
      (printer2 .faulted office).printers[(2 : PrinterId)].fault.state ≠ .opened) ∧
    4#8 ≠ 1#8 ∧ 4#8 ≠ 2#8 ∧ 4#8 ≠ 3#8 ∧ 0#8 ≠ 1#8 := by decide +kernel

/-- Window 3 with a CLOSING tally. -/
def closing3 (openJobs : Nat) : State :=
  fetchOf 8 { queued with closing := put queued.closing 3 (some { queued.current[(3 : WindowId)] with openJobs := openJobs }) }

/-- The queued job is of window 3's closed shift, whose statement a cash-up waits for. -/
def lastOfShift : State :=
  { closing3 1 with
    current := put queued.current 3 (.opened 2 0)
    cashUps := put queued.cashUps 3 (some { slip := 5, tag := 0#32, declaredCash := 0, declaredWarrants := 0 }) }

/-- One job is withdrawn with its shift, the other is in flight. -/
def halfSent : State := fetchOf 8 (modJob 1 (fun j => { j with state := .sent, serial := some 11 }) (second queued))

theorem witness_CashUpClosesShift :
    (fetching (fetchOf 8 queued) 8 ∧ (3#8).toNat = (3 : WindowId).val ∧ queued.closing[(3 : WindowId)] = none ∧
      jobCount (fetchOf 8 queued) 3 = 1 ∧ jobCount (fetchOf 8 office) 3 = 0 ∧ fetching (fetchOf 8 office) 8 ∧
      unsentJobs (fetchOf 8 queued) 3 (fun j => j.shift == queued.current[(3 : WindowId)].shift) = [0] ∧
      placed (fetchOf 8 queued) = true ∧ ∀ w : WindowId, queued.cashUps[w] = none) ∧
    (fetching halfSent 8 ∧ halfSent.closing[(3 : WindowId)] = none ∧ placed halfSent = true ∧
      unsentJobs halfSent 3 (fun j => j.shift == halfSent.current[(3 : WindowId)].shift) = [0] ∧
      jobCount halfSent 3 = 2 ∧ ∀ w : WindowId, halfSent.cashUps[w] = none) ∧
    (∃ c : Tally, (closing3 1).closing[(3 : WindowId)] = some c ∧ 0 < c.openJobs) ∧
    (∃ c : Tally, (closing3 0).closing[(3 : WindowId)] = some c ∧ c.openJobs = 0) ∧ fetching (closing3 1) 8 ∧
    fetching (closing3 0) 8 ∧
    (fetching lastOfShift 8 ∧ unsentJobs lastOfShift 3 (fun j => j.sale == 77#16) = [0] ∧
      jobAt lastOfShift 0 = some job0 ∧ lastOfShift.current[(3 : WindowId)].shift ≠ 1 ∧
      lastOfShift.cashUps[(3 : WindowId)] ≠ none) ∧
    ∃ c : Tally, lastOfShift.closing[(3 : WindowId)] = some c ∧ c.openJobs = 1 ∧ c.shift = job0.shift := by
  refine ⟨by decide +kernel, by decide +kernel, ⟨_, rfl, by decide +kernel⟩, ⟨_, rfl, rfl⟩, by decide +kernel,
    by decide +kernel, by decide +kernel, ⟨_, rfl, by decide +kernel⟩⟩

theorem witness_EndOfDayClosesTheDay : (fetching fetched 8 ∧ ∀ w : WindowId, fetched.closing[w] = none) ∧
    (fetching (closing3 0) 8 ∧ (closing3 0).closing[(3 : WindowId)] ≠ none ∧
      ∀ v : WindowId, v < 3 → (closing3 0).closing[v] = none) := by decide +kernel

theorem witness_SetOfficeWritesSettings : fetching (fetchOf 8 queued) 8 := by decide +kernel

theorem witness_SetWindowWritesRecord :
    (fetching holding 8 ∧ windowSlip.window.toNat = (3 : WindowId).val ∧ windowBad windowSlip = none) ∧
    (∃ x : WindowRecord, windowRecordOf windowSlip = some x ∧ x.enabled = true) ∧
    windowBad { windowSlip with enabled := 0#8 } = none ∧
    ∃ x : WindowRecord, windowRecordOf { windowSlip with enabled := 0#8 } = some x ∧ x.enabled = false := by
  refine ⟨by decide +kernel, ⟨_, rfl, by decide +kernel⟩, by decide +kernel, _, rfl, by decide +kernel⟩

/-- A SET ROUTE for class 63. -/
def routeSlip : RouteRequest :=
  { ticketClass := 63#8, valid := 1#8, kind := 15#8, fallback := 1#8, windowMask := 0xFFFFFF#32, forcing := 2#8 }

theorem witness_SetRouteWritesEntry : fetching (fetchOf 8 queued) 8 ∧ routeSlip.ticketClass.toNat = (63 : ClassId).val ∧
    routeSlip.valid.toNat ≤ 1 ∧ routeSlip.kind.toNat = (15 : KindId).val ∧ routeSlip.fallback.toNat ≤ 1 ∧
    routeSlip.windowMask.toNat < 16777216 ∧ forcingOf routeSlip.forcing = some .alwaysExpress ∧
    routeBad { routeSlip with windowMask := 0x1000000#32 } = some 4 := by decide +kernel

theorem witness_SetPrinterConfigures : (15#8).toNat = (15 : PrinterId).val ∧ (1#8).toNat ≤ 1 ∧
    (7#8).toNat = (7 : GroupId).val ∧
    (fetching (fetchOf 8 office) 8 ∧ office.printers[(15 : PrinterId)].state = .unconfigured) ∧
    (fetching (fetchOf 8 queued) 8 ∧ queued.printers[(2 : PrinterId)].state ≠ .offline ∧
      queued.printers[(2 : PrinterId)].state ≠ .unconfigured) := by decide +kernel

theorem witness_SetLineConfigures : (1#8).toNat = (1 : LineId).val ∧ rateOf 1#8 = some .r38400 ∧ 2 ≤ (2#8).toNat ∧
    1 ≤ (7#8).toNat ∧ (7#8).toNat ≤ 7 ∧
    (fetching (fetchOf 8 (printer2 .offline office)) 8 ∧ ∀ p : PrinterId, lineOfPrinter p = 0 →
      (printer2 .offline office).printers[p].state = .offline ∨
        (printer2 .offline office).printers[p].state = .unconfigured) ∧
    (fetching (fetchOf 8 queued) 8 ∧ lineOfPrinter 2 = 0 ∧ queued.printers[(2 : PrinterId)].state = .ready) := by
  decide +kernel

theorem witness_SetStockKindJudgesFlags : fetching (fetchOf 8 (recomputeKind 2 queued)) 8 ∧
    (2#8).toNat = (2 : KindId).val ∧ (9999#16).toNat ≤ 9999 ∧ 1 ≤ (1#16).toNat ∧ (9999#16).toNat ≤ 9999 := by
  decide +kernel

theorem witness_ArbiterActsUntilDone : live queued = true ∧ queued.office = .running ∧
    ((every 24).map fun w => queued.queues[w].length).sum ≤ 64 ∧ isRequester queued 1 3 = true := by decide +kernel

/-- The same job as an express order. -/
def express : State := modJob 0 (fun j => { j with service := .express }) queued

theorem witness_RingGrantsInCyclicOrder :
    (expressWinner express 1 = some 3) ∧ (expressWinner queued 1 = none ∧ standardWinner queued 1 = some 3) ∧
    (inStandardRing queued 1 queued.arbiters[(1 : GroupId)].token = false) ∧
    (let s := { queued with arbiters := upd queued.arbiters 1 fun x => { x with token := 3, burst := 1 } };
      inStandardRing s 1 s.arbiters[(1 : GroupId)].token = true) := by decide +kernel

/-- The job in flight is the printer's repeat job. -/
def repeating : State := modLineRecord 2 (fun r => { r with repeatJob := some 64#8 }) sending

theorem witness_LineTurnSendsOneFrame :
    (∀ s ∈ [granted, repeating, second sending, sending, modLineRecord 2 (fun r => { r with clearRequest := true }) granted],
      live s = true ∧ s.lines[(0 : LineId)].activity = .free ∧ s.printers[printerAt 0 2].state = .ready ∧
        ∀ b : AddressIx, (b.val + 7 - s.lines[(0 : LineId)].pointer.val) % 8 <
          ((2 : AddressIx).val + 7 - s.lines[(0 : LineId)].pointer.val) % 8 →
            s.printers[printerAt 0 b].state = .unconfigured) ∧
    (∀ s ∈ [granted, second sending, sending], s.lineRecords[printerAt 0 2].clearRequest = false ∧
      s.lineRecords[printerAt 0 2].repeatJob = none ∧ isSelected s (printerAt 0 2) = false) ∧
    (granted.printers[printerAt 0 2].outstanding = [] ++ 0 :: [] ∧
      jobAt granted 0 = some { job0 with state := .granted, printer := some 2 }) ∧
    ((second sending).printers[printerAt 0 2].outstanding = [0] ++ 1 :: [] ∧ isGranted (second sending) 0 = false ∧
      (jobAt (second sending) 1).map (·.state) = some .granted) ∧
    (sending.printers[printerAt 0 2].outstanding = [0] ∧ isGranted sending 0 = false) ∧
    (repeating.printers[printerAt 0 2].outstanding = [0] ∧
      repeating.lineRecords[printerAt 0 2].repeatJob = some (tokenOf repeating 0) ∧
      repeating.lineRecords[printerAt 0 2].clearRequest = false) ∧
    isSelected (inRound granted) (printerAt 0 2) = true := by decide +kernel

/-- The last slot of a round whose number and known results are given, with a slip that selects printers 2 and 3. -/
def lastSlot (number : Nat) (known : BitVec 8) (state : PrinterState) : State :=
  let s := inRound (printer2 state office)
  { s with lines := upd s.lines 0 fun x => { x with
      roll := { x.roll with number := number, known := known, pendingSet := 0b1#8 }
      rollSlip := some { slip := 5, tag := 0#32, mask := 0b1100#8, results := Vector.replicate 8 none } } }

theorem witness_FrameEndsAndSlots :
    (live (lineA (.sending (exchange2 .poll)) sending) = true ∧
      (lineA (.sending (exchange2 .poll)) sending).lines[(0 : LineId)].activity = .sending (exchange2 .poll)) ∧
    ((lineA (.recalling 0b110#8) sending).lines[(0 : LineId)].activity = .recalling 0b110#8 ∧
      (0b110#8).getLsbD (1 : AddressIx).val = true ∧
      ∀ b : AddressIx, b < 1 → (0b110#8).getLsbD b.val = false) ∧
    (live (lineA (.slot 2 0b10001000#8) sending) = true ∧
      (lineA (.slot 2 0b10001000#8) sending).lines[(0 : LineId)].activity = .slot 2 0b10001000#8 ∧
      (0b10001000#8).getLsbD (3 : AddressIx).val = true ∧
      (∀ d : AddressIx, d < 3 → (0b10001000#8).getLsbD d.val = false) ∧ receiveBytes [0xA5#8] = .discarded) ∧
    (∀ s ∈ [lastSlot 2 0#8 .ready, lastSlot 1 0b100#8 .ready, lastSlot 3 0#8 .recovering, lastSlot 3 0#8 .empty],
      live s = true ∧ s.lines[(0 : LineId)].activity = .slot 2 0#8 ∧ s.lines[(0 : LineId)].rollSlip ≠ none ∧
        placed s = true) ∧
    ((lastSlot 2 0#8 .ready).lines[(0 : LineId)].roll.number < 3 ∧ 0b100#8 &&& ~~~0#8 ≠ 0#8 ∧
      0b100#8 &&& ~~~0b100#8 = 0#8 ∧ 3 ≤ (lastSlot 3 0#8 .recovering).lines[(0 : LineId)].roll.number ∧
      (lastSlot 3 0#8 .recovering).printers[printerAt 0 2].state = .recovering ∧
      (lastSlot 3 0#8 .empty).printers[printerAt 0 2].state = .empty) := by
  decide +kernel

/-- An exchange with printer 2 awaits its reply, and earlier ones have failed. -/
def waiting (command : CommandKind) (failures : Nat) (s : State) : State :=
  modLineRecord 2 (fun r => { r with failures := failures }) (lineA (.awaiting (exchange2 command)) s)

/-- The job has been accepted by its printer. -/
def sent : State := modJob 0 (fun j => { j with state := .sent }) sending

theorem witness_FailedExchangeCounts :
    (∀ c ∈ [CommandKind.poll, .clear, .print 64#8], ∀ n ∈ [1, 2], ∀ s ∈ [sending, sent],
      awaiting (waiting c n s) 0 (exchange2 c) ∧ (exchange2 c).command = c ∧
        (waiting c n s).printers[(2 : PrinterId)].state = .ready ∧ flightList (waiting c n s) 2 = [0] ∧
        jobOfToken (waiting c n s) 64#8 = some 0 ∧ (waiting c n s).lineRecords[(2 : PrinterId)].repeatJob = none ∧
        (waiting c n s).lineRecords[(2 : PrinterId)].failures = n ∧
        (waiting c n s).lineConfigs[(0 : LineId)].retryLimit = 3) ∧
    flightList (waiting .poll 2 granted) 2 = [] ∧
    (jobAt sending 0 = some { job0 with state := .sending, printer := some 2, serial := some 11 } ∧
      jobAt sent 0 = some { job0 with state := .sent, printer := some 2, serial := some 11 }) ∧
    receiveBytes [0xA5#8] = .discarded := by decide +kernel

theorem witness_FailedExchangeCounts_inDoubt : placed (waiting .poll 2 bothSent) = true ∧
    InFlightInOrder (waiting .poll 2 bothSent) 2 bothJobs := by
  unfold InFlightInOrder; decide +kernel

/-- A count at the limit in each state after ENTER, and a count that reaches it in OFFLINE. -/
theorem witness_FailedExchangeCounts_unrecorded :
    ∀ c ∈ [CommandKind.poll, .clear], ∀ x ∈ [(3, PrinterState.recovering), (3, .faulted), (2, .offline)],
      let s := modPrinter 2 (fun y => { y with state := x.2 }) (waiting c x.1 sent);
      awaiting s 0 (exchange2 c) ∧ s.printers[(2 : PrinterId)].state = x.2 ∧
        s.lineRecords[(2 : PrinterId)].failures = x.1 ∧ s.lineConfigs[(0 : LineId)].retryLimit = 3 := by decide +kernel

theorem witness_AcceptAndRefuseAnswerPrint :
    let s := lineA (.awaiting (exchange2 (.print 64#8))) sending
    live s = true ∧ s.lines[(0 : LineId)].activity = .awaiting (exchange2 (.print 64#8)) ∧
      (exchange2 (.print 64#8)).void = false ∧ lineOfPrinter (exchange2 (.print 64#8)).printer = 0 ∧
      s.lines[(0 : LineId)].roll.phase ≠ .round ∧ 64#8 ≠ 0xFF#8 ∧ jobOfToken s 64#8 = some 0 ∧
      s.printers[(2 : PrinterId)].outstanding = [0] ∧
      jobAt s 0 = some { job0 with state := .sending, printer := some 2, serial := some 11 } ∧
      s.printers[(2 : PrinterId)].state = .ready := by decide +kernel

/-- Printer 2 is polled in a state, with a fault record. -/
def polled (state : PrinterState) (fault : FaultState) (s : State) : State :=
  modPrinter 2 (fun x => { x with state := state, fault := { x.fault with state := fault } }) (waiting .poll 0 s)

/-- The job SENT is a test print. -/
def testSent : State :=
  polled .ready .none (modJob 0 (fun j => { j with window := none, tender := none, shift := 0 }) sent)

/-- The job SENT claims the magazine's last blank. -/
def lastBlank : State :=
  let s := polled .ready .none sent
  { s with magazines := upd s.magazines 2 fun m => { m with last := 11 } }

/-- The job SENT is of a CLOSING shift with another job. -/
def closingSent : State :=
  let s := polled .ready .none sent
  { s with
    closing := put s.closing 3 (some { s.current[(3 : WindowId)] with openJobs := 2 })
    current := put s.current 3 (.opened 2 0) }

/-- A printer awaiting a reply with the not-ready mark set. -/
def marked : State := modPrinter 2 (fun x => { x with notReady := some 64#8 }) (polled .ready .none sent)

theorem witness_StatusTakesPrintedOutcome :
    (∀ s ∈ [polled .ready .none sending, polled .ready .none sent, polled .ready .none bothSent, marked,
        polled .faulted .opened sending, polled .faulted .acknowledged sent], awaiting s 0 (exchange2 .poll)) ∧
    (let s := waiting .clear 0 sending;
      awaiting s 0 (exchange2 .clear) ∧ s.printers[(2 : PrinterId)].state = .ready ∧
        s.printers[(2 : PrinterId)].notReady = none) ∧
    (∀ s ∈ [polled .ready .none sending, polled .ready .none sent], s.printers[(2 : PrinterId)].state = .ready ∧
      s.printers[(2 : PrinterId)].notReady = none ∧ (2#8).toNat ≤ 2 ∧ 64#8 ≠ 0xFF#8 ∧
      64#8 ∉ s.lineRecords[(2 : PrinterId)].reported ∧ jobOfToken s 64#8 = some 0 ∧
      s.printers[(2 : PrinterId)].outstanding = [0] ∧ inFlight s 0 = true ∧
      job0.shift = s.current[(3 : WindowId)].shift ∧ placed s = true ∧ s.magazines[(2 : PrinterId)].loaded = true ∧
      s.magazines[(2 : PrinterId)].next = 11 ∧ 11 + (4#8).toNat ≤ s.magazines[(2 : PrinterId)].last ∧
      s.magazines[(2 : PrinterId)].notes.map (·.token) = [64#8] ∧ s.register.entries = [] ∧
      job0.reprints < s.settings.reprintLimit ∧ ¬s.settings.spoilRunLimit ≤ s.printers[(2 : PrinterId)].spoilRun + 1) ∧
    (let s := modJob 0 (fun j => { j with reprints := 1 })
        (modPrinter 2 (fun x => { x with spoilRun := 2 }) (polled .ready .none sent));
      (jobAt s 0).map (·.reprints) = some s.settings.reprintLimit ∧
        s.settings.spoilRunLimit = s.printers[(2 : PrinterId)].spoilRun + 1) ∧
    ((polled .ready .none bothSent).magazines[(2 : PrinterId)].notes.map (·.token) = [64#8, 65#8] ∧
      jobOfToken (polled .ready .none bothSent) 65#8 = some 1) ∧
    (spoilCauseOf 3#8 = some .printFault ∧ 1 ≤ (1#8).toNat ∧ (4#8).toNat ≤ 4 ∧
      entryInRange { token := 254#8, outcome := 1#8, k := 0#8, cause := 0#8 } = true ∧
      jobOfToken (polled .ready .none sent) 254#8 = none) ∧
    (∃ j : Job, jobAt (modJob 0 (fun j => { j with serial := some 12 }) sent) 0 = some j ∧ j.state = .sent ∧
      j.serial ≠ some sent.magazines[(2 : PrinterId)].next) ∧
    (let s := polled .faulted .opened sending;
      placed s = true ∧ s.printers[(2 : PrinterId)].state = .faulted ∧ s.printers[(2 : PrinterId)].fault.state = .opened ∧
        s.printers[(2 : PrinterId)].notReady = none ∧ s.printers[(2 : PrinterId)].lastFlags = 0#5 ∧
        s.printers[(2 : PrinterId)].outstanding = [0]) ∧
    (marked.printers[(2 : PrinterId)].state = .ready ∧ marked.printers[(2 : PrinterId)].notReady = some 64#8) ∧
    ((0b11111#8).getLsbD 1 = true ∧ (0b10000#8).getLsbD 4 = true ∧ ¬(0b10000#8).getLsbD 1 = true) ∧
    (polled .faulted .acknowledged sent).printers[(2 : PrinterId)].fault.state = .acknowledged := by
  refine ⟨by decide +kernel, by decide +kernel, by decide +kernel, by decide +kernel, by decide +kernel,
    by decide +kernel, ⟨_, rfl, rfl, by decide +kernel⟩, by decide +kernel, by decide +kernel, by decide +kernel,
    by decide +kernel⟩

theorem witness_StatusTakesPrintedOutcome_more :
    (∀ s ∈ [testSent, lastBlank, closingSent], awaiting s 0 (exchange2 .poll) ∧
      s.printers[(2 : PrinterId)].state = .ready ∧ s.printers[(2 : PrinterId)].notReady = none ∧ placed s = true ∧
      s.printers[(2 : PrinterId)].outstanding = [0] ∧ s.magazines[(2 : PrinterId)].loaded = true ∧
      64#8 ∉ s.lineRecords[(2 : PrinterId)].reported ∧ jobOfToken s 64#8 = some 0 ∧ inFlight s 0 = true ∧
      (jobAt s 0).map (·.serial) = some (some s.magazines[(2 : PrinterId)].next) ∧
      s.magazines[(2 : PrinterId)].notes.map (·.token) = [64#8]) ∧
    (jobAt testSent 0).map (·.window) = some none ∧
    lastBlank.magazines[(2 : PrinterId)].next = lastBlank.magazines[(2 : PrinterId)].last ∧
    tallyOf lastBlank 3 1 = some lastBlank.current[(3 : WindowId)] ∧
    ∃ c : Tally, tallyOf closingSent 3 1 = some c ∧ 1 < c.openJobs ∧ 1 ≠ closingSent.current[(3 : WindowId)].shift :=
  ⟨by decide +kernel, by decide +kernel, by decide +kernel, by decide +kernel, _, rfl, by decide +kernel,
    by decide +kernel⟩

/-- A printer in its slot, its magazine changed by a function. -/
def answering (state : PrinterState) (f : Magazine → Magazine) : State :=
  let s := inRound (printer2 state office)
  { s with magazines := upd s.magazines 2 f }

/-- Blanks 9 and 10 of a magazine are in doubt. -/
def inDoubt (m : Magazine) : Magazine := { m with issued := 8, inDoubt := 2, unverified := some 9 }

/-- For a magazine with V 9 and next 11, serials 9 and 10 roll back, 11 verifies, 8 and 12 mismatch. -/
theorem witness_SerialJudgesMagazine :
    (∀ f ∈ [id, inDoubt, fun m => { m with frozen := true }, fun m => { m with loaded := false }],
      ∀ state ∈ [PrinterState.recovering, .ready, .empty, .faulted], let s := answering state f;
        live s = true ∧ s.lines[(0 : LineId)].activity = .slot 2 0#8 ∧
          s.lines[(0 : LineId)].roll.runningSet = 0b100#8 ∧ s.lines[(0 : LineId)].roll.known = 0#8 ∧
          s.lines[(0 : LineId)].roll.waitingSet = 0#8 ∧ s.lines[(0 : LineId)].roll.pendingSet = 0#8 ∧
          s.printers[printerAt 0 2].outstanding = [] ∧ s.printers[printerAt 0 2].state = state ∧
          s.lines[(0 : LineId)].roll.number < 3 ∧ s.magazines[printerAt 0 2].next = 11 ∧
          s.magazines[printerAt 0 2].kind = 2) ∧
    (answering .recovering inDoubt).magazines[printerAt 0 2].unverified = some 9 ∧
    (let s := { lineA (.slot 2 0b1000#8) (lastSlot 1 0#8 .recovering) with magazines := (printer2 .ready office).magazines };
      0b1000#8 ≠ 0#8 ∧ s.lines[(0 : LineId)].activity = .slot 2 0b1000#8 ∧
        (s.lines[(0 : LineId)].rollSlip.any fun x => x.mask.getLsbD 2 && x.results[(2 : AddressIx)].isNone) = true) ∧
    (∀ b : AddressIx, (0b100#8).getLsbD b.val = true ↔ b = 2) := by
  decide +kernel

end Sys2Proof.Tests
end

section
/-! SUPPORT. What the part's shared operations can do to the Exchange Port (R4 to R18): work on jobs, printers, lines, stock
and tallies adds return entries and marks and leaves the engine, the recorded failure and the intake as they are. -/

namespace Sys2Proof.Machine

/-! ### The port grows -/

/-- What work done elsewhere in the part can do to the Exchange Port: entries join the tails of its lists, each result area
filling its region, a Slip Reader that waits for a record may fetch again, and a header mark is not cleared. -/
structure PortGrows (x y : ExchangePort) : Prop where
  engine : y.engine = x.engine
  failed : y.failed = x.failed
  intake : ∃ more, y.intake = x.intake ++ more
  reader : x.reader = .fetching → y.reader = .fetching
  returns : ∃ more, y.returns = x.returns ++ more ∧ ∀ e ∈ more, e.area.length = 320
  header : x.headerMark = true → y.headerMark = true

theorem PortGrows.refl (x : ExchangePort) : PortGrows x x :=
  ⟨rfl, rfl, ⟨[], by simp⟩, id, ⟨[], by simp⟩, id⟩

theorem PortGrows.trans {x y z : ExchangePort} (h : PortGrows x y) (k : PortGrows y z) : PortGrows x z := by
  obtain ⟨i, hi⟩ := h.intake
  obtain ⟨i', hi'⟩ := k.intake
  obtain ⟨r, hr, ha⟩ := h.returns
  obtain ⟨r', hr', ha'⟩ := k.returns
  refine ⟨k.engine.trans h.engine, k.failed.trans h.failed, ⟨i ++ i', by rw [hi', hi, List.append_assoc]⟩,
    k.reader ∘ h.reader, ⟨r ++ r', by rw [hr', hr, List.append_assoc], fun e he => ?_⟩, k.header ∘ h.header⟩
  exact (List.mem_append.mp he).elim (ha e) (ha' e)

/-- A change that leaves the engine, the failure, the lists and the reader alone, and clears no header mark. -/
theorem PortGrows.of_same {x y : ExchangePort} (he : y.engine = x.engine) (hf : y.failed = x.failed)
    (hi : y.intake = x.intake) (hd : y.reader = x.reader) (hr : y.returns = x.returns)
    (hm : x.headerMark = true → y.headerMark = true) : PortGrows x y :=
  ⟨he, hf, ⟨[], by simp [hi]⟩, fun h => hd.trans h, ⟨[], by simp [hr]⟩, hm⟩

/-- What work on jobs, printers, lines, stock and tallies does to the port and to the arbiters. -/
structure Work (s t : State) : Prop where
  port : PortGrows s.port t.port
  arbiters : t.arbiters = s.arbiters
  express : t.express = s.express

theorem Work.refl (s : State) : Work s s := ⟨.refl _, rfl, rfl⟩

/-- An operation that changes none of the three. -/
theorem Work.same {s t u : State} (h : Work s t) (hp : u.port = t.port) (ha : u.arbiters = t.arbiters)
    (he : u.express = t.express) : Work s u :=
  ⟨hp ▸ h.port, ha.trans h.arbiters, he.trans h.express⟩

section
variable {s t : State}

protected theorem Work.modPort {f : ExchangePort → ExchangePort} (h : Work s t) (hf : PortGrows t.port (f t.port)) :
    Work s (modPort f t) := ⟨h.port.trans hf, h.arbiters, h.express⟩

protected theorem Work.forEach {α : Type} {l : List α} {f : α → State → State} (h : Work s t)
    (hf : ∀ a u, Work s u → Work s (f a u)) : Work s (forEach l f t) := forEach_holds (Work s) l f hf t h

protected theorem Work.ite {c : Prop} [Decidable c] {u : State} (h : Work s t) (k : Work s u) :
    Work s (if c then t else u) := by split <;> assumption

/-! ### One update for each home of data -/

protected theorem Work.modPrinter {p : PrinterId} {f : Printer → Printer} (h : Work s t) : Work s (modPrinter p f t) :=
  h.same rfl rfl rfl
protected theorem Work.modLine {l : LineId} {f : Line → Line} (h : Work s t) : Work s (modLine l f t) :=
  h.same rfl rfl rfl
protected theorem Work.modLineConfig {l : LineId} {f : LineConfig → LineConfig} (h : Work s t) :
    Work s (modLineConfig l f t) := h.same rfl rfl rfl
protected theorem Work.modLineRecord {p : PrinterId} {f : LineRecord → LineRecord} (h : Work s t) :
    Work s (modLineRecord p f t) := h.same rfl rfl rfl
protected theorem Work.modKind {k : KindId} {f : StockKind → StockKind} (h : Work s t) : Work s (modKind k f t) :=
  h.same rfl rfl rfl
protected theorem Work.modCurrent {w : WindowId} {f : Tally → Tally} (h : Work s t) : Work s (modCurrent w f t) :=
  h.same rfl rfl rfl
protected theorem Work.modDayTotals {f : DayTotals → DayTotals} (h : Work s t) : Work s (modDayTotals f t) :=
  h.same rfl rfl rfl
protected theorem Work.modJob {i : JobIx} {f : Job → Job} (h : Work s t) : Work s (modJob i f t) := h.same rfl rfl rfl

/-! ### Marks, returns, lists and records -/

protected theorem Work.markPrinter {p : PrinterId} {cause : Bool} (h : Work s t) : Work s (markPrinter p cause t) :=
  h.modPort (.of_same rfl rfl rfl rfl rfl id)
protected theorem Work.markStock {k : KindId} {cause : Bool} (h : Work s t) : Work s (markStock k cause t) :=
  h.modPort (.of_same rfl rfl rfl rfl rfl id)
protected theorem Work.markHeader (h : Work s t) : Work s (markHeader t) :=
  h.modPort (.of_same rfl rfl rfl rfl rfl fun _ => rfl)

protected theorem Work.addReturn {n : SlipId} {tag : Word} {code : ResultCode} {detail : Word} {area : List Byte}
    (h : Work s t) : Work s (addReturn n tag code detail area t) :=
  h.modPort ⟨rfl, rfl, ⟨[], by simp⟩, id, ⟨_, rfl, by simp [resultArea_length]⟩, id⟩

protected theorem Work.setQueue {w : WindowId} {q : List JobIx} (h : Work s t) : Work s (setQueue w q t) := by
  unfold setQueue
  split
  · split
    · exact h.same rfl rfl rfl
    · exact h.same rfl rfl rfl
  · exact h.same rfl rfl rfl

protected theorem Work.joinTail {w : WindowId} {i : JobIx} (h : Work s t) : Work s (joinTail w i t) := h.setQueue
protected theorem Work.leaveQueue {w : WindowId} {i : JobIx} (h : Work s t) : Work s (leaveQueue w i t) := h.setQueue
protected theorem Work.joinFront {order : List JobIx} {w : WindowId} {i : JobIx} (h : Work s t) :
    Work s (joinFront order w i t) := h.setQueue
protected theorem Work.leavePrinter {p : PrinterId} {i : JobIx} (h : Work s t) : Work s (leavePrinter p i t) :=
  h.modPrinter.modLineRecord.markPrinter
protected theorem Work.joinPrinter {p : PrinterId} {i : JobIx} (h : Work s t) : Work s (joinPrinter p i t) :=
  h.modPrinter.modJob.markPrinter

protected theorem Work.leaveLists {i : JobIx} {j : Job} (h : Work s t) : Work s (leaveLists i j t) := by
  unfold leaveLists
  split
  · exact h.leavePrinter
  · exact h.leaveQueue
  · exact h

protected theorem Work.releaseHold {p : PrinterId} (h : Work s t) : Work s (releaseHold p t) :=
  h.modPrinter.markPrinter.ite h

protected theorem Work.releaseSaleEnd {j : Job} (h : Work s t) : Work s (releaseSaleEnd j t) := by
  unfold releaseSaleEnd
  split
  · exact (h.forEach fun _ _ k => k.releaseHold).ite h
  · exact h

protected theorem Work.freeRecord {i : JobIx} (h : Work s t) : Work s (freeRecord i t) := by
  refine Work.modPort (h.same rfl rfl rfl) ?_
  split
  · exact ⟨rfl, rfl, ⟨[], by simp⟩, fun _ => rfl, ⟨[], by simp⟩, id⟩
  · exact .refl _

protected theorem Work.takeRecord {i : JobIx} {rest : List JobIx} {j : Job} (h : Work s t) :
    Work s (takeRecord i rest j t) := h.same rfl rfl rfl

/-! ### Tallies and statements -/

protected theorem Work.modTally {w : WindowId} {shift : Nat} {f : Tally → Tally} (h : Work s t) :
    Work s (modTally w shift f t) := by
  unfold modTally
  refine h.modCurrent.ite ?_
  split
  · split
    · exact h.same rfl rfl rfl
    · exact h
  · exact h

protected theorem Work.produceStatement {w : WindowId} {c : PendingCashUp} (h : Work s t) :
    Work s (produceStatement w c t) := by
  unfold produceStatement
  split
  · exact h
  · exact ⟨h.addReturn.port, h.arbiters, h.express⟩

protected theorem Work.statementIfDue {w : WindowId} (h : Work s t) : Work s (statementIfDue w t) := by
  unfold statementIfDue
  split
  · exact h.produceStatement.ite h
  · exact h

protected theorem Work.shiftOpen {w : WindowId} (h : Work s t) : Work s (shiftOpen w t) := h.same rfl rfl rfl

/-! ### The end of a job and its coming back -/

protected theorem Work.returnJob {i : JobIx} {j : Job} {code : ResultCode} {reason : Nat} (h : Work s t) :
    Work s (returnJob i j code reason t) := h.addReturn

protected theorem Work.lowerOpenJobs {j : Job} (h : Work s t) : Work s (lowerOpenJobs j t) := by
  unfold lowerOpenJobs
  split
  · exact h.modTally
  · exact h

protected theorem Work.statementAfter {j : Job} (h : Work s t) : Work s (statementAfter j t) := by
  unfold statementAfter
  split
  · exact h.statementIfDue
  · exact h

protected theorem Work.finishJob {i : JobIx} {code : ResultCode} {reason : Nat} (h : Work s t) :
    Work s (finishJob i code reason t) := by
  unfold finishJob
  split
  · exact h
  · exact h.returnJob.leaveLists.releaseSaleEnd.lowerOpenJobs.statementAfter.freeRecord

protected theorem Work.finishJobs {code : ResultCode} {reason : Nat} {l : List JobIx} (h : Work s t) :
    Work s (finishJobs code reason l t) := h.forEach fun _ _ k => k.finishJob

protected theorem Work.requeue {order : List JobIx} {p : PrinterId} {w : WindowId} {i : JobIx} (h : Work s t) :
    Work s (requeue order p w i t) := h.leavePrinter.modJob.joinFront

protected theorem Work.sendBack {order : List JobIx} {p : PrinterId} {reason : Nat} {i : JobIx} (h : Work s t) :
    Work s (sendBack order p reason i t) := by
  unfold sendBack
  split
  · exact h
  · split
    · exact h.requeue
    · exact h.finishJob

protected theorem Work.sendBackGranted {order : List JobIx} {p : PrinterId} (h : Work s t) :
    Work s (sendBackGranted order p t) := h.forEach fun _ _ k => k.sendBack

/-! ### Stock -/

protected theorem Work.setMagazine {p : PrinterId} {m : Magazine} (h : Work s t) : Work s (setMagazine p m t) :=
  have k : Work s { t with magazines := put t.magazines p m } := h.same rfl rfl rfl
  k.ite k.markPrinter

protected theorem Work.moveNote {p : PrinterId} {serial : Nat} (h : Work s t) : Work s (moveNote p serial t) := by
  unfold moveNote
  dsimp only
  split
  · exact h
  · split
    · exact h.setMagazine.modJob
    · exact h.setMagazine

protected theorem Work.claimBlank {p : PrinterId} {i : JobIx} (h : Work s t) : Work s (claimBlank p i t) := by
  unfold claimBlank
  split
  · exact h
  · exact h.setMagazine.modJob

protected theorem Work.judgeFlags {k : KindId} (h : Work s t) : Work s (judgeFlags k t) :=
  h.modKind.ite h.modKind.markStock

protected theorem Work.recomputeKind {k : KindId} (h : Work s t) : Work s (recomputeKind k t) :=
  (h.modKind.ite h.modKind.markStock).judgeFlags

protected theorem Work.recomputeOf {p : PrinterId} (h : Work s t) : Work s (recomputeOf p t) := h.recomputeKind.ite h

protected theorem Work.disposeBlank {p : PrinterId} {serial : Nat} {window : Option WindowId} {shift : Nat}
    {cause : SpoilCause} {disposition : Disposition} (h : Work s t) :
    Work s (disposeBlank p serial window shift cause disposition t) := h.same rfl rfl rfl

protected theorem Work.inDoubtBlank {p : PrinterId} {serial : Nat} {token : Byte} {window : Option WindowId} {shift : Nat}
    (h : Work s t) : Work s (inDoubtBlank p serial token window shift t) := h.disposeBlank.setMagazine

/-! ### Printers -/

protected theorem Work.rollRequest {l : LineId} {mask : BitVec 8} (h : Work s t) : Work s (rollRequest l mask t) :=
  h.modLine
protected theorem Work.keepResult {l : LineId} {a : AddressIx} {r : RollResult} (h : Work s t) :
    Work s (keepResult l a r t) := h.modLine

protected theorem Work.leaveSelection {p : PrinterId} (h : Work s t) : Work s (leaveSelection p t) :=
  (h.modLine.keepResult.ite h.modLine).ite h

protected theorem Work.enterState {order : List JobIx} {p : PrinterId} {new : PrinterState} (h : Work s t) :
    Work s (enterState order p new t) :=
  (h.modPrinter.markPrinter.releaseHold.sendBackGranted.ite h.modPrinter.markPrinter).recomputeOf

protected theorem Work.breakReservation {order : List JobIx} {p : PrinterId} (l : List JobIx) :
    ∀ {t : State}, Work s t → Work s (breakReservation order p l t) := by
  induction l with
  | nil => exact fun h => h
  | cons i rest ih => exact fun h => h.ite (ih h.sendBack)

protected theorem Work.magazineChanged {order : List JobIx} {p : PrinterId} (h : Work s t) :
    Work s (magazineChanged order p t) :=
  (h.recomputeOf.enterState.ite (h.recomputeOf.breakReservation _)).ite h.recomputeOf

protected theorem Work.endInDoubt {order : List JobIx} {p : PrinterId} {i : JobIx} (h : Work s t) :
    Work s (endInDoubt order p i t) := by
  unfold endInDoubt
  split
  · exact h
  · refine Work.finishJob ?_
    split
    · refine Work.modTally ?_
      split
      · exact h.inDoubtBlank.magazineChanged
      · exact h
    · split
      · exact h.inDoubtBlank.magazineChanged
      · exact h

protected theorem Work.causeEffects {order : List JobIx} {p : PrinterId} {cause : FaultCause} (h : Work s t) :
    Work s (causeEffects order p cause t) := by
  unfold causeEffects
  split
  iterate 5 exact h.modLineRecord
  iterate 2 exact h.forEach fun _ _ k => k.endInDoubt
  exact h

protected theorem Work.raiseFault {order : List JobIx} {p : PrinterId} {f : FaultInfo} (h : Work s t) :
    Work s (raiseFault order p f t) := by
  have faulted : ∀ {u : State}, Work s u →
      Work s (sendBackGranted order p (enterState order p .faulted (markPrinter p true u))) :=
    fun k => k.markPrinter.enterState.sendBackGranted
  unfold raiseFault
  split
  iterate 2 exact h
  · exact h.modPrinter.markPrinter.causeEffects
  iterate 3 exact ((faulted h.modPrinter).ite (faulted h.modPrinter).leaveSelection).causeEffects

protected theorem Work.takeCancelled {order : List JobIx} {p : PrinterId} {i : JobIx} (h : Work s t) :
    Work s (takeCancelled order p i t) := by
  unfold takeCancelled
  refine Work.sendBack (Work.recomputeOf ?_)
  split
  · exact h.setMagazine.moveNote
  · exact h.setMagazine

protected theorem Work.takePrinted {order : List JobIx} {p : PrinterId} {i : JobIx} {j : Job} (h : Work s t) :
    Work s (takePrinted order p i j t) := by
  unfold takePrinted
  extract_lets m base used blank stock tally
  have hb : Work s blank := by
    unfold blank
    split
    · exact h.setMagazine
    · exact h.disposeBlank.setMagazine
  have ht : Work s tally := by
    unfold tally
    split
    · exact hb.magazineChanged.modTally
    · exact hb.magazineChanged
  exact ht.finishJob.modPrinter

protected theorem Work.spoilBlanks {order : List JobIx} {p : PrinterId} {i : JobIx} {j : Job} {k : Nat}
    {cause : SpoilCause} (h : Work s t) : Work s (spoilBlanks order p i j k cause t) :=
  (h.forEach fun _ _ k => k.disposeBlank).setMagazine.moveNote.magazineChanged

protected theorem Work.takeSpoiled {order : List JobIx} {p : PrinterId} {i : JobIx} {j : Job} {flags : BitVec 5}
    {asked : Nat} {cause : SpoilCause} (h : Work s t) : Work s (takeSpoiled order p i j flags asked cause t) := by
  unfold takeSpoiled
  extract_lets k token ended blanks job
  have hj : Work s job := by
    unfold job
    split
    · exact h.spoilBlanks.modTally.modJob.requeue.ite h.spoilBlanks.modTally.finishJob
    · exact h.spoilBlanks.finishJob
  exact hj.modPrinter.raiseFault.modPrinter.ite hj.modPrinter

protected theorem Work.takeOutcome {order : List JobIx} {p : PrinterId} {flags : BitVec 5} {e : OutcomeEntry} {i : JobIx}
    {j : Job} (h : Work s t) : Work s (takeOutcome order p flags e i j t) :=
  h.takeCancelled.ite ((h.takePrinted.ite h.takeSpoiled).ite h.raiseFault)

protected theorem Work.countStray {p : PrinterId} (h : Work s t) : Work s (countStray p t) :=
  h.modLineRecord.ite h.modLineRecord.markPrinter

protected theorem Work.handleEntry {order : List JobIx} {p : PrinterId} {flags : BitVec 5} {reported : List Byte}
    {e : OutcomeEntry} (h : Work s t) : Work s (handleEntry order p flags reported e t) := by
  unfold handleEntry
  refine h.ite (Work.modLineRecord ?_)
  split
  · split
    · exact h.takeOutcome
    · exact h
  · exact h.countStray

protected theorem Work.judgeConditionFlags {order : List JobIx} {p : PrinterId} {flags : BitVec 5} (h : Work s t) :
    Work s (judgeConditionFlags order p flags t) := (h.forEach fun _ _ k => k.raiseFault).modPrinter

protected theorem Work.judgeNotReady {order : List JobIx} {p : PrinterId} {flags : BitVec 5} (h : Work s t) :
    Work s (judgeNotReady order p flags t) := by
  unfold judgeNotReady
  split
  · exact h
  · exact h.raiseFault.modPrinter

protected theorem Work.judgeRecovery {order : List JobIx} {p : PrinterId} {flags : BitVec 5} (h : Work s t) :
    Work s (judgeRecovery order p flags t) := h.enterState.rollRequest.ite h

protected theorem Work.impliedCancel {order : List JobIx} {p : PrinterId} {waiting : Nat} (h : Work s t) :
    Work s (impliedCancel order p waiting t) := (h.forEach fun _ _ k => k.takeCancelled).ite h

/-! ### Roll calls -/

protected theorem Work.modRoll {l : LineId} {f : RollCall → RollCall} (h : Work s t) : Work s (modRoll l f t) := h.modLine

protected theorem Work.sendRecall {l : LineId} (h : Work s t) : Work s (sendRecall l t) := h.modLine

protected theorem Work.freeLine {l : LineId} (h : Work s t) : Work s (freeLine l t) := h.modLine.sendRecall.ite h.modLine

protected theorem Work.startRound {l : LineId} (h : Work s t) : Work s (startRound l t) := by
  unfold startRound
  split
  iterate 2 exact h.modRoll.sendRecall.ite h.modRoll
  iterate 2 exact h

protected theorem Work.settleResult {p : PrinterId} {r : RollResult} (h : Work s t) : Work s (settleResult p r t) :=
  h.modRoll.keepResult.ite h.modRoll

protected theorem Work.returnToService {order : List JobIx} {p : PrinterId} (h : Work s t) :
    Work s (returnToService order p t) := h.enterState.modPrinter.ite h.enterState.modPrinter.markPrinter

protected theorem Work.handOver {p : PrinterId} {r : RollResult} (h : Work s t) : Work s (handOver p r t) := by
  unfold handOver
  dsimp only
  split
  iterate 2 exact h.returnToService
  iterate 4 exact h.raiseFault
  exact h

protected theorem Work.applyJudgement {p : PrinterId} {r : RollResult} (h : Work s t) :
    Work s (applyJudgement p r t) := by
  unfold applyJudgement
  refine Work.ite (Work.recomputeOf (Work.setMagazine ?_)) h
  split
  · exact h.same rfl rfl rfl
  · exact h

protected theorem Work.takeSerial {p : PrinterId} {serial kind : Nat} (h : Work s t) :
    Work s (takeSerial p serial kind t) := h.applyJudgement.settleResult.handOver.ite h

protected theorem Work.returnRollSlip {l : LineId} (h : Work s t) : Work s (returnRollSlip l t) := by
  unfold returnRollSlip
  split
  · exact h
  · exact h.modLine.addReturn

protected theorem Work.endRollCall {l : LineId} (h : Work s t) : Work s (endRollCall l t) :=
  (h.forEach fun _ _ k => k.settleResult.handOver).returnRollSlip.modRoll

protected theorem Work.endRound {l : LineId} (h : Work s t) : Work s (endRound l t) :=
  (h.endRollCall.ite h.modRoll).freeLine

protected theorem Work.nextSlot {l : LineId} {slots : BitVec 8} (h : Work s t) : Work s (nextSlot l slots t) := by
  unfold nextSlot
  split
  · exact h.modLine
  · exact h.endRound

protected theorem Work.endSlot {l : LineId} (h : Work s t) : Work s (endSlot l t) := by
  unfold endSlot
  split
  · exact h.nextSlot
  · exact h

protected theorem Work.takeAnswer {l : LineId} {a : AddressIx} {address : Byte} {reply : Reply} (h : Work s t) :
    Work s (takeAnswer l a address reply t) := by
  unfold takeAnswer
  refine Work.endSlot ?_
  split
  · exact h.takeSerial
  · exact h

/-! ### Printer lines -/

protected theorem Work.sendFrame {l : LineId} {p : PrinterId} {command : CommandKind} {kind : Byte} {payload : List Byte}
    (h : Work s t) : Work s (sendFrame l p command kind payload t) := h.modLine

protected theorem Work.sendPrint {l : LineId} {p : PrinterId} {i : JobIx} (h : Work s t) : Work s (sendPrint l p i t) := by
  unfold sendPrint
  split
  · exact h.sendFrame
  · exact h

protected theorem Work.transmitFirst {l : LineId} {p : PrinterId} {i : JobIx} (h : Work s t) :
    Work s (transmitFirst l p i t) := h.claimBlank.modJob.sendPrint.modLineRecord

protected theorem Work.takeTurn {l : LineId} {p : PrinterId} (h : Work s t) : Work s (takeTurn l p t) := by
  unfold takeTurn
  dsimp only
  split
  · exact h.sendFrame
  · exact h.sendPrint
  · exact h.transmitFirst
  · exact h.sendFrame

protected theorem Work.lineTurn {l : LineId} (h : Work s t) : Work s (lineTurn l t) := by
  unfold lineTurn
  refine Work.ite ?_ h
  split
  · exact h.modLine.takeTurn
  · exact h

protected theorem Work.keepForRepeat {p : PrinterId} {command : CommandKind} (h : Work s t) :
    Work s (keepForRepeat p command t) := by
  unfold keepForRepeat
  split
  · exact h.modLineRecord.ite h
  iterate 2 exact h

protected theorem Work.exchangeFailed {x : Exchange} (h : Work s t) : Work s (exchangeFailed x t) :=
  h.modLineRecord.keepForRepeat.raiseFault.ite h.modLineRecord.keepForRepeat

protected theorem Work.takeAccept {p : PrinterId} {token : Byte} (h : Work s t) : Work s (takeAccept p token t) := by
  unfold takeAccept
  split
  · exact h.modJob.modLineRecord
  · exact h

protected theorem Work.takeRefuse {p : PrinterId} {token reason : Byte} (h : Work s t) :
    Work s (takeRefuse p token reason t) := by
  unfold takeRefuse
  split
  · exact h
  · exact h.modLineRecord.ite (h.modLineRecord.modPrinter.ite h.modLineRecord.raiseFault)

protected theorem Work.takeStatus {p : PrinterId} {command : CommandKind} {flags : Byte} {waiting : Nat}
    {entries : List OutcomeEntry} (h : Work s t) : Work s (takeStatus p command flags waiting entries t) := by
  have noted : ∀ {u : State}, Work s u → Work s (noteReported p entries u) := fun k => k.ite k.modLineRecord
  have answered : ∀ {u : State}, Work s u → Work s (answerClear p command u) := fun k => k.modLineRecord.ite k
  exact (answered (noted (h.forEach fun _ _ k => k.handleEntry)).judgeConditionFlags.judgeNotReady.impliedCancel).judgeRecovery

protected theorem Work.takeGoodReply {x : Exchange} {reply : Reply} (h : Work s t) : Work s (takeGoodReply x reply t) := by
  unfold takeGoodReply
  dsimp only
  split
  · exact h.modLineRecord.takeStatus
  · exact h.modLineRecord.takeAccept
  · exact h.modLineRecord.takeRefuse
  iterate 2 exact h.modLineRecord

protected theorem Work.receiveReply {l : LineId} {address : Byte} {reply : Reply} (h : Work s t) :
    Work s (receiveReply l address reply t) := by
  unfold receiveReply
  split
  · unfold endExchange
    refine Work.freeLine (h.ite ?_)
    split
    · exact h.takeGoodReply
    · exact h.exchangeFailed
  · exact h.takeAnswer
  iterate 3 exact h

protected theorem Work.receiveNothing {l : LineId} (h : Work s t) : Work s (receiveNothing l t) := by
  unfold receiveNothing
  split
  · exact (h.ite h.exchangeFailed).freeLine
  · exact h.endSlot
  iterate 3 exact h

protected theorem Work.receiveRaw {l : LineId} {bytes : List Byte} (h : Work s t) : Work s (receiveRaw l bytes t) := by
  unfold receiveRaw
  split
  · exact h
  · exact h.receiveNothing
  · split
    · exact h.receiveReply
    · exact h.receiveNothing

protected theorem Work.commandFrameEnd {l : LineId} (h : Work s t) : Work s (commandFrameEnd l t) := by
  unfold commandFrameEnd
  split
  · exact h.modLine
  · exact h.nextSlot
  iterate 3 exact h

/-! ### Slips -/

protected theorem Work.refuseField {n : SlipId} {tag : Word} {offset : Nat} {area : List Byte} (h : Work s t) :
    Work s (refuseField n tag offset area t) := h.addReturn

protected theorem Work.issueWork {tag : Word} {r : IssueRequest} {n : SlipId} (h : Work s t) :
    Work s (issueWork tag r n t) := by
  unfold issueWork
  split
  · exact h.refuseField
  · split
    · split
      · exact h.addReturn
      · unfold acceptJob
        split
        · exact h.takeRecord.modCurrent.joinTail
        · exact h
    · exact h

protected theorem Work.testPrintWork {tag : Word} {r : TestPrintRequest} {n : SlipId} (h : Work s t) :
    Work s (testPrintWork tag r n t) := by
  unfold testPrintWork
  split
  · exact h.refuseField
  · exact h
  · refine h.addReturn.ite (h.addReturn.ite ?_)
    unfold acceptTest
    split
    · exact h.takeRecord.joinPrinter
    · exact h

protected theorem Work.voidWork {tag : Word} {window : Byte} {sale : BitVec 16} {n : SlipId} (h : Work s t) :
    Work s (voidWork tag window sale n t) := by
  unfold voidWork
  split
  · exact h.refuseField
  · exact h.finishJobs.addReturn

protected theorem Work.refundWork {tag : Word} {r : RefundRequest} {n : SlipId} (h : Work s t) :
    Work s (refundWork tag r n t) := by
  unfold refundWork
  split
  · exact h.refuseField
  · exact h.modCurrent.addReturn
  · exact h

protected theorem Work.readTallyWork {tag : Word} {window : Byte} {n : SlipId} (h : Work s t) :
    Work s (readTallyWork tag window n t) := by
  unfold readTallyWork
  split
  · exact h.refuseField
  · exact h.addReturn

protected theorem Work.awaitStatement {w : WindowId} {c : PendingCashUp} (h : Work s t) :
    Work s (awaitStatement w c t) := by
  unfold awaitStatement
  split
  · split
    · exact h.same rfl rfl rfl
    · exact h.produceStatement
  · exact h

protected theorem Work.closeShift {w : WindowId} {withdraw : Bool} {c : PendingCashUp} (h : Work s t) :
    Work s (closeShift w withdraw c t) := by
  have counted : Work s (countClosing w (shiftOpen w t)) := h.same rfl rfl rfl
  exact (counted.finishJobs.ite counted).awaitStatement

protected theorem Work.cashUpWork {tag : Word} {r : CashUpRequest} {n : SlipId} (h : Work s t) :
    Work s (cashUpWork tag r n t) := by
  unfold cashUpWork
  split
  · exact h.refuseField
  · dsimp only
    split
    · exact h.addReturn.ite h.produceStatement
    · exact h.closeShift
  · exact h

protected theorem Work.endOfDayWork {tag : Word} {n : SlipId} (h : Work s t) : Work s (endOfDayWork tag n t) := by
  unfold endOfDayWork
  split
  · exact h.addReturn
  · exact ⟨(h.addReturn (n := n)).port, h.arbiters, h.express⟩

protected theorem Work.replaceMagazine {p : PrinterId} {m : Magazine} (h : Work s t) : Work s (replaceMagazine p m t) :=
  (h.setMagazine.recomputeKind.ite h.setMagazine).recomputeKind.ite (h.setMagazine.recomputeKind.ite h.setMagazine)

protected theorem Work.loadStockWork {tag : Word} {r : LoadStockRequest} {n : SlipId} (h : Work s t) :
    Work s (loadStockWork tag r n t) := by
  unfold loadStockWork
  split
  · exact h.refuseField
  · exact h.addReturn.ite (h.addReturn.ite
      (h.replaceMagazine.enterState.rollRequest.ite h.replaceMagazine).addReturn)
  · exact h

protected theorem Work.unloadStockWork {tag : Word} {printer : Byte} {n : SlipId} (h : Work s t) :
    Work s (unloadStockWork tag printer n t) := by
  unfold unloadStockWork
  split
  · exact h.refuseField
  · exact h.addReturn.ite (h.addReturn.ite h.replaceMagazine.addReturn)

protected theorem Work.readSpoilsWork {tag : Word} {index : BitVec 16} {n : SlipId} (h : Work s t) :
    Work s (readSpoilsWork tag index n t) := h.refuseField.ite h.addReturn

protected theorem Work.setStockKindWork {tag : Word} {kind : Byte} {lowMark band : BitVec 16} {n : SlipId}
    (h : Work s t) : Work s (setStockKindWork tag kind lowMark band n t) := by
  unfold setStockKindWork
  split
  · exact h.refuseField
  · exact h.modKind.markStock.judgeFlags.addReturn
  · exact h

protected theorem Work.rollCallWork {tag : Word} {line mask : Byte} {n : SlipId} (h : Work s t) :
    Work s (rollCallWork tag line mask n t) := by
  unfold rollCallWork
  split
  · exact h.refuseField
  · exact h.addReturn.ite (h.addReturn.ite h.modLine.rollRequest)
  · exact h

protected theorem Work.serviceAction {p : PrinterId} {action : Byte} (h : Work s t) :
    Work s (serviceAction p action t).2 := by
  have left : Work s (leaveService p t) :=
    have l : Work s (modLineRecord p (fun r => { r with clearRequest := false })
      (modPrinter p (fun x => { x with notReady := none }) (leaveSelection p (enterState [] p .offline t)))) :=
      h.enterState.leaveSelection.modPrinter.modLineRecord
    l.modPrinter.markPrinter.ite l
  unfold serviceAction
  dsimp only
  split
  · split
    · exact h.enterState.rollRequest
    · exact h
  · split
    · split
      iterate 3
        · split
          · exact left
          · exact h
      iterate 3 exact h
    · split
      · exact h.modPrinter.markPrinter.ite h
      · exact h

protected theorem Work.printerServiceWork {tag : Word} {printer action : Byte} {n : SlipId} (h : Work s t) :
    Work s (printerServiceWork tag printer action n t) := by
  unfold printerServiceWork
  split
  · exact h.refuseField
  · exact h.serviceAction.addReturn.ite h.refuseField

protected theorem Work.setOfficeWork {tag : Word} {r : OfficeRequest} {n : SlipId} (h : Work s t) :
    Work s (setOfficeWork tag r n t) := by
  unfold setOfficeWork
  split
  · exact h.refuseField
  · exact Work.addReturn (h.same rfl rfl rfl)

protected theorem Work.setWindowWork {tag : Word} {r : WindowRequest} {n : SlipId} (h : Work s t) :
    Work s (setWindowWork tag r n t) := by
  have written : ∀ w f, Work s (modWindow w f t) := fun _ _ => h.same rfl rfl rfl
  unfold setWindowWork
  split
  · exact h.refuseField
  · exact ((written _ _).ite ((written _ _).forEach fun _ _ k => k.releaseHold)).addReturn
  · exact h

protected theorem Work.setRouteWork {tag : Word} {r : RouteRequest} {n : SlipId} (h : Work s t) :
    Work s (setRouteWork tag r n t) := by
  unfold setRouteWork
  split
  · exact h.refuseField
  · exact Work.addReturn (h.same rfl rfl rfl)
  · exact h

protected theorem Work.writePrinter {p : PrinterId} {configured : Bool} {group : GroupId} (h : Work s t) :
    Work s (writePrinter p configured group t) := by
  unfold writePrinter
  dsimp only
  split
  · exact h.modPrinter.enterState.modLineRecord
  · exact h.modPrinter.enterState.modLineRecord.leaveSelection.modLine
  · exact h.modPrinter

protected theorem Work.setPrinterWork {tag : Word} {printer configured group : Byte} {n : SlipId} (h : Work s t) :
    Work s (setPrinterWork tag printer configured group n t) := by
  unfold setPrinterWork
  split
  · exact h.refuseField
  · exact h.writePrinter.addReturn.ite h.addReturn
  · exact h

protected theorem Work.setLineWork {tag : Word} {line rate window limit : Byte} {n : SlipId} (h : Work s t) :
    Work s (setLineWork tag line rate window limit n t) := by
  unfold setLineWork
  split
  · exact h.refuseField
  · exact (h.modLineConfig.forEach fun _ _ k => k.modLineRecord).addReturn.ite h.addReturn
  · exact h

/-! ### The sweep's blocks -/

protected theorem Work.ageWindow {w : WindowId} (h : Work s t) : Work s (ageWindow w t) := by
  unfold ageWindow
  split
  · exact h
  · split
    · exact h
    · exact h.modJob.ite ((h.modJob.ite h.finishJob).ite h.modJob)

protected theorem Work.watchOutcomes {p : PrinterId} (h : Work s t) : Work s (watchOutcomes p t) := by
  have waits : ∀ f, Work s (forEach (flightList t p) (fun i => modJob i f) t) := fun _ => h.forEach fun _ _ k => k.modJob
  unfold watchOutcomes
  dsimp only
  split
  · exact waits _
  · exact (waits _).raiseFault

protected theorem Work.watchHold {p : PrinterId} (h : Work s t) : Work s (watchHold p t) := by
  unfold watchHold
  split
  · exact h
  · exact (h.releaseHold.ite h.modPrinter).ite h.modPrinter

protected theorem Work.blockWork {windows : List WindowId} {printers : List PrinterId} {block : Fin 4} (h : Work s t) :
    Work s (blockWork windows printers block t) := by
  unfold blockWork
  split
  · exact h.forEach fun _ _ k => k.ageWindow
  · exact h.forEach fun _ _ k => k.watchOutcomes.watchHold
  · exact h.forEach fun _ _ k => k.startRound
  · exact h.markHeader

end

end Sys2Proof.Machine
end

section
/-! SUPPORT. What one step can do to the Exchange Port, said once (`PortStep`), and the two laws that every such change keeps:
the engine's access stays the head it was started for, and each access and result area fills its region. -/

namespace Sys2Proof.Machine

/-! ### Lengths of what is written (R177, Tables 11-1 to 11-3) -/

@[simp] theorem le_length (n v : Nat) : (le n v).length = n := by
  induction n generalizing v with
  | zero => rfl
  | succ n ih => simp [le, ih]

theorem headerBytes_length (s : State) : (headerBytes s).length = 256 :=
  Laws.padTo_length 256 _

theorem printerEntryBytes_length (s : State) (p : PrinterId) : (printerEntryBytes s p).length = 32 := by
  simp [printerEntryBytes]

theorem stockEntryBytes_length (s : State) (k : KindId) : (stockEntryBytes s k).length = 16 := by
  simp [stockEntryBytes]

/-! ### Grants (R76 to R86) -/

protected theorem Work.moveToPrinter {s t : State} {w : WindowId} {i : JobIx} {j : Job} {p : PrinterId} (h : Work s t) :
    Work s (moveToPrinter w i j p t) := by
  unfold moveToPrinter setHold
  split
  · exact h.leaveQueue.joinPrinter.modPrinter
  · exact h.leaveQueue.joinPrinter

protected theorem PortGrows.grantTo {x : ExchangePort} {t : State} {w : WindowId} {ring : State → State}
    (h : PortGrows x t.port) (hr : ∀ u, (ring u).port = u.port) : PortGrows x (grantTo w ring t).port := by
  unfold grantTo
  split
  · exact h
  · split
    · exact h
    · split
      · exact h
      · rw [hr]
        exact h.trans (Work.refl t).moveToPrinter.port

theorem afterStandard_port (g : GroupId) (w : WindowId) (s : State) : (afterStandard g w s).port = s.port := by
  unfold afterStandard passToken
  dsimp only
  split <;> rfl

protected theorem PortGrows.grantOnce {x : ExchangePort} {t : State} {g : GroupId} (h : PortGrows x t.port) :
    PortGrows x (grantOnce g t).port := by
  unfold grantOnce
  split
  · exact h.grantTo fun _ => rfl
  · split
    · exact h.grantTo (afterStandard_port g _)
    · exact h

protected theorem PortGrows.actRepeatedly {x : ExchangePort} {g : GroupId} (fuel : Nat) :
    ∀ {t : State}, PortGrows x t.port → PortGrows x (actRepeatedly g fuel t).port := by
  induction fuel with
  | zero => exact fun h => h
  | succ fuel ih =>
    intro t h
    unfold actRepeatedly
    split
    · have released : Work t (forEach (claimedPrinters t g) releaseHold t) :=
        (Work.refl t).forEach fun _ _ k => k.releaseHold
      exact ih (h.trans released.port).grantOnce
    · exact h

/-! ### What a step can do to the port -/

/-- An access the engine may begin: the requested intake head or the recorded fetch, the return at the head, the second step of
the return in progress, or a write whose content fills its region (R10 to R17). -/
def Startable (x : ExchangePort) : Access → Prop
  | .fetch n => x.intake.head? = some n ∧ x.reader = .fetching ∨ x.failed = some (.fetch n)
  | .returnFields e => x.returns.head? = some e
  | .returnMap e => x.engine = some (.returnFields e)
  | .header content => content.length = 256
  | .printerEntry _ content _ => content.length = 32
  | .stockEntry _ content _ => content.length = 16

/-- The engine, the recorded failure, the lists and the Slip Reader of a port: what the laws of the exchange speak of. -/
structure PortChange (x y : ExchangePort) (engine : Option Access) (failed : Option FailedAccess) : Prop where
  engine : y.engine = engine
  failed : y.failed = failed
  intake : y.intake = x.intake
  reader : y.reader = x.reader
  returns : y.returns = x.returns

/-- What one step can do to the Exchange Port. -/
inductive PortStep (x y : ExchangePort) : Prop where
  /-- work elsewhere, a post, or a register write -/
  | grows (h : PortGrows x y)
  /-- the engine is free with nothing recorded: an access done, a slip taken, or a start -/
  | freed (engine : y.engine = none) (failed : y.failed = none)
      (returns : ∀ e ∈ y.returns, e ∈ x.returns ∨ e.area.length = 320)
  /-- an access begins -/
  | began (a : Access) (h : PortChange x y (some a) x.failed) (ok : Startable x a)
  /-- the access in progress fails and is recorded -/
  | failed (a : Access) (was : x.engine = some a) (h : PortChange x y none (some (failureOf a)))

theorem PortStep.refl (x : ExchangePort) : PortStep x x := .grows (.refl x)

theorem PortStep.of_work {s t : State} (h : Work s t) : PortStep s.port t.port := .grows h.port

/-- A start leaves the port empty. -/
theorem PortStep.start (x : ExchangePort) (attn : BitVec 7) : PortStep x (.start attn) :=
  .freed rfl rfl fun _ he => nomatch he

/-! ### The laws are kept -/

theorem accessLaw_of_portStep {s t : State} (h : AccessLaw s) (k : PortStep s.port t.port) : AccessLaw t := by
  obtain ⟨hf, hr, hff, hfr⟩ := h
  cases k with
  | grows g =>
    obtain ⟨intake, hi⟩ := g.intake
    obtain ⟨returns, ht, -⟩ := g.returns
    have head : ∀ n, s.port.intake.head? = some n ∧ s.port.reader = .fetching →
        t.port.intake.head? = some n ∧ t.port.reader = .fetching := by
      rintro n ⟨hn, hd⟩
      exact ⟨by simp [hi, hn], g.reader hd⟩
    unfold AccessLaw
    rw [g.engine, g.failed, ht]
    refine ⟨fun n hn => head n (hf n hn), fun e he => by simp [hr e he], fun n hn => head n (hff n hn), fun he => ?_⟩
    simp [hfr he]
  | freed he hn _ => simp [AccessLaw, he, hn]
  | began a c ok =>
    unfold AccessLaw
    rw [c.engine, c.failed, c.intake, c.reader, c.returns]
    refine ⟨?_, ?_, hff, hfr⟩
    · rintro n ⟨⟩
      exact ok.elim id (hff n)
    · rintro e (⟨⟨⟩⟩ | ⟨⟨⟩⟩)
      · exact ok
      · exact hr e (.inl ok)
  | failed a was c =>
    unfold AccessLaw
    rw [c.engine, c.failed, c.intake, c.reader, c.returns]
    refine ⟨nofun, by simp, fun n hn => ?_, fun hn hnil => ?_⟩
    · cases a <;> cases hn
      exact hf n was
    · cases a <;> cases hn
      · simpa [hnil] using hr _ (.inl was)
      · simpa [hnil] using hr _ (.inr was)

theorem areaLaw_of_portStep {s t : State} (h : AreaLaw s) (k : PortStep s.port t.port) : AreaLaw t := by
  obtain ⟨ha, he⟩ := h
  cases k with
  | grows g =>
    obtain ⟨more, hm, hl⟩ := g.returns
    refine ⟨fun e hin => ?_, g.engine ▸ he⟩
    rw [hm] at hin
    exact (List.mem_append.mp hin).elim (ha e) (hl e)
  | freed hn _ hm => exact ⟨fun e hin => (hm e hin).elim (ha e) id, by simp [hn]⟩
  | began a c ok =>
    refine ⟨c.returns ▸ ha, fun b hb => ?_⟩
    rw [c.engine] at hb
    cases hb
    cases a with
    | fetch n => trivial
    | returnFields e => exact ha e (List.mem_of_mem_head? ok)
    | returnMap e => exact he _ ok
    | header content => exact ok
    | printerEntry p content cause => exact ok
    | stockEntry k content cause => exact ok
  | failed a was c => exact ⟨c.returns ▸ ha, by simp [c.engine]⟩

/-! ### What the engine starts and ends -/

theorem portStep_startHeader (s : State) : PortStep s.port (startHeader s).port :=
  .began (.header (headerBytes s)) ⟨rfl, rfl, rfl, rfl, rfl⟩ (headerBytes_length s)

theorem portStep_startPrinterEntry (p : PrinterId) (s : State) : PortStep s.port (startPrinterEntry p s).port :=
  .began _ ⟨rfl, rfl, rfl, rfl, rfl⟩ (printerEntryBytes_length s p)

theorem portStep_startStockEntry (k : KindId) (s : State) : PortStep s.port (startStockEntry k s).port :=
  .began _ ⟨rfl, rfl, rfl, rfl, rfl⟩ (stockEntryBytes_length s k)

theorem portStep_startReturn (s : State) : PortStep s.port (startReturn s).port := by
  unfold startReturn
  split
  · next e rest h => exact .began (.returnFields e) ⟨rfl, rfl, rfl, rfl, rfl⟩ (by simp [Startable, h])
  · exact .refl _

theorem portStep_startFetch (s : State) : PortStep s.port (startFetch s).port := by
  unfold startFetch
  split
  · next n rest hd hi =>
    exact .began (.fetch n) ⟨rfl, rfl, rfl, rfl, rfl⟩ (.inl ⟨by simp [hi], hd⟩)
  · exact .refl _

theorem portStep_startRetry (f : FailedAccess) (s : State) (h : s.port.failed = some f) :
    PortStep s.port (startRetry f s).port := by
  cases f with
  | fetch n => exact .began (.fetch n) ⟨rfl, rfl, rfl, rfl, rfl⟩ (.inr h)
  | returning => exact portStep_startReturn s
  | header => exact portStep_startHeader s
  | printerEntry p => exact portStep_startPrinterEntry p s
  | stockEntry k => exact portStep_startStockEntry k s

theorem portStep_startTableWrite (s t : State) (h : startTableWrite s = some t) : PortStep s.port t.port := by
  unfold startTableWrite at h
  split at h
  · cases h; exact portStep_startPrinterEntry _ s
  · cases h; exact portStep_startStockEntry _ s
  · cases h

theorem portStep_startFirstWaiting (s : State) : PortStep s.port (startFirstWaiting s).port := by
  unfold startFirstWaiting
  split
  · next f h => exact portStep_startRetry f s h
  · split
    · exact portStep_startReturn s
    · split
      · next t h => exact portStep_startTableWrite s t h
      · split
        · exact portStep_startHeader s
        · exact portStep_startFetch s

theorem portStep_accessDone (s : State) : PortStep s.port (accessDone s).port := .freed rfl rfl fun _ he => .inl he

theorem portStep_completeReturn (e : ReturnEntry) (s : State) : PortStep s.port (completeReturn e s).port :=
  .freed rfl rfl fun _ he => .inl (List.mem_of_mem_drop he)

theorem portStep_exchangeFault (a : Access) (s : State) (h : s.port.engine = some a) :
    PortStep s.port (exchangeFault a s).port := by
  refine .failed a h ?_
  cases a <;> exact ⟨rfl, rfl, rfl, rfl, rfl⟩

/-! ### Gates -/

theorem portStep_whenLive {s t : State} {f : State → State} (h : whenLive s f = .next t)
    (hf : PortStep s.port (f s).port) : PortStep s.port t.port := by
  rw [whenLive_eq_next] at h
  subst h
  split
  · exact hf
  · exact .refl _

/-- A slip taken and the work it brings. -/
theorem portStep_taken {n : SlipId} {s : State} {work : SlipId → State → State} (hw : ∀ {u t}, Work u t → Work u (work n t)) :
    PortStep s.port (work n (takeSlip s)).port := by
  have w : Work (takeSlip s) (work n (takeSlip s)) := hw (.refl _)
  obtain ⟨more, hm, ha⟩ := w.port.returns
  refine .freed w.port.engine w.port.failed fun e he => ?_
  rw [hm] at he
  exact (List.mem_append.mp he).imp_right (ha e)

theorem portStep_handOn {s t : State} {work : SlipId → State → State} (h : handOn work s = .next t)
    (hw : ∀ {n : SlipId} {u v : State}, Work u v → Work u (work n v)) : PortStep s.port t.port := by
  refine portStep_whenLive h ?_
  split
  · exact portStep_taken hw
  · exact .refl _

theorem portStep_handOnForRecord {s t : State} {work : SlipId → State → State} (h : handOnForRecord work s = .next t)
    (hw : ∀ {n : SlipId} {u v : State}, Work u v → Work u (work n v)) : PortStep s.port t.port := by
  refine portStep_whenLive h ?_
  split
  · split
    · exact .freed rfl rfl fun _ he => .inl he
    · exact portStep_taken hw
  · exact .refl _

/-! ### Register writes and time -/

theorem portStep_writeXbase (value : Word) (s : State) : PortStep s.port (writeXbase value s).port := by
  unfold writeXbase
  dsimp only
  split
  · exact .grows (.of_same rfl rfl rfl rfl rfl id)
  · exact .refl _

theorem portStep_writePost (value : Word) (s : State) : PortStep s.port (writePost value s).port := by
  have refused : ∀ why, PortStep s.port (refusePost value why s).port :=
    fun _ => .grows (.of_same rfl rfl rfl rfl rfl id)
  unfold writePost
  split
  · dsimp only
    split
    · exact refused _
    · split
      · exact refused _
      · exact .grows ⟨rfl, rfl, ⟨_, rfl⟩, id, ⟨[], by simp [takePost]⟩, id⟩
  · exact refused _

theorem portStep_writeAttn (value : Word) (s : State) : PortStep s.port (writeAttn value s).port :=
  .grows (.of_same rfl rfl rfl rfl rfl id)

theorem portStep_writeAttnEn (value : Word) (s : State) : PortStep s.port (writeAttnEn value s).port :=
  .grows (.of_same rfl rfl rfl rfl rfl id)

theorem portStep_runCommand (s : State) : PortStep s.port (runCommand s).port := by
  unfold runCommand
  split
  · split
    · exact .refl _
    · exact .grows (.of_same rfl rfl rfl rfl rfl fun _ => rfl)
  iterate 3 exact .refl _

@[simp] theorem allowanceReload_port (s : State) : (allowanceReload s).port = s.port := by
  unfold allowanceReload
  split <;> rfl

theorem portStep_holdCommand (s : State) : PortStep s.port (holdCommand s).port := by
  have held : (holdCommand s).port = s.port := by
    unfold holdCommand
    split
    · exact allowanceReload_port s
    · rfl
  exact held ▸ .refl _

theorem portStep_writeEffect (write : Instr) (s : State) : PortStep s.port (writeEffect write s).port := by
  cases write with
  | xbaseWrite value => exact portStep_writeXbase value s
  | post value => exact portStep_writePost value s
  | attnWrite value => exact portStep_writeAttn value s
  | attnEnWrite value => exact portStep_writeAttnEn value s
  | run => exact portStep_runCommand s
  | hold => exact portStep_holdCommand s
  | restart => exact .start _ _
  | cold => exact .start _ _
  | _ => exact .refl _

@[simp] theorem clockAdvance_port (s : State) : (clockAdvance s).port = s.port := by
  unfold clockAdvance
  dsimp only
  split
  · split <;> rfl
  · rfl

@[simp] theorem tickClock_port (s : State) : (tickClock s).port = s.port := by
  unfold tickClock
  split
  · exact clockAdvance_port s
  · rfl

/-- The state that the four blocks of a sweep begin to work on: the reload made, the sweep counted (R26 to R29). -/
def sweepCounted (s : State) : State :=
  let reloaded := allowanceReload (modTime (fun t => { t with sweepCounter := 0#16 }) s)
  modTime (fun t => advanceAllowance reloaded.settings.interval { t with sweepCount := t.sweepCount + 1#32 }) reloaded

theorem sweepEvent_eq (blocks windows printers : List Nat) (s : State) : sweepEvent blocks windows printers s =
    forEach (completeOrder 4 blocks) (blockWork (completeOrder 24 windows) (completeOrder 16 printers))
      (sweepCounted s) := by
  unfold sweepEvent sweepCounted
  rfl

theorem work_sweepEvent (blocks windows printers : List Nat) (s : State) :
    Work (sweepCounted s) (sweepEvent blocks windows printers s) :=
  (Work.refl _).forEach fun _ _ k => k.blockWork

@[simp] theorem sweepCounted_port (s : State) : (sweepCounted s).port = s.port := allowanceReload_port _

theorem sweepEvent_port (blocks windows printers : List Nat) (s : State) :
    PortGrows s.port (sweepEvent blocks windows printers s).port :=
  sweepCounted_port s ▸ (work_sweepEvent blocks windows printers s).port

theorem tickSweep_port (s : State) : PortGrows s.port (tickSweep s).port := by
  unfold tickSweep
  split
  · split
    · simpa using sweepEvent_port _ _ _ s
    · exact .refl _
  · exact .refl _

theorem portStep_tick (s : State) : PortStep s.port (tick s).port := by
  unfold tick
  split
  · refine .grows ?_
    show PortGrows s.port (tickWork s).port
    unfold tickWork
    dsimp only
    split
    · simpa using tickSweep_port (tickClock (allowanceReload s))
    · simpa using tickSweep_port (allowanceReload s)
  · exact .refl _

end Sys2Proof.Machine
end

section
/-! PROOF. Every command and the office tick change the Exchange Port only as `PortStep` says, and so every step keeps the laws
of access and of area (R7, R10, R15, R177). -/

namespace Sys2Proof.Machine

/-- Work gated by a test of the state, as several commands of the lines and of time are. -/
theorem portStep_whenLive_ite {s t : State} {c : State → Bool} {f : State → State}
    (h : whenLive s (fun u => if c u then f u else u) = .next t) (hf : PortGrows s.port (f s).port) :
    PortStep s.port t.port := by
  refine portStep_whenLive h ?_
  split
  · exact .grows hf
  · exact .refl _

theorem portStep_checkedStart (coldStrap : Bool) (s : State) (x : ExchangePort) :
    PortStep x (checkedStart coldStrap s).port := .start x 0#7

theorem completeStart_port (st : StartInProgress) (s : State) :
    (completeStart st s).port = .start (attnAtCompletion st.lost) := by
  unfold completeStart
  split <;> rfl

theorem portStep_execFetchRequest {s t : State} (h : execFetchRequest s = .next t) : PortStep s.port t.port := by
  refine portStep_whenLive h ?_
  split
  · exact .grows ⟨rfl, rfl, ⟨[], by simp⟩, fun _ => rfl, ⟨[], by simp⟩, id⟩
  · exact .refl _

theorem portStep_execEngineAccessStart {s t : State} (h : execEngineAccessStart s = .next t) :
    PortStep s.port t.port := by
  refine portStep_whenLive h ?_
  split
  · exact portStep_startFirstWaiting s
  · exact .refl _

theorem portStep_execReturnResultWritten {s t : State} (h : execReturnResultWritten s = .next t) :
    PortStep s.port t.port := by
  refine portStep_whenLive h ?_
  split
  · next e he => exact .began (.returnMap e) ⟨rfl, rfl, rfl, rfl, rfl⟩ he
  · exact .refl _

theorem portStep_execReturnComplete {s t : State} (h : execReturnComplete s = .next t) : PortStep s.port t.port := by
  refine portStep_whenLive h ?_
  split
  · exact portStep_completeReturn _ s
  · exact .refl _

theorem portStep_execHeaderWriteComplete {s t : State} (h : execHeaderWriteComplete s = .next t) :
    PortStep s.port t.port := by
  refine portStep_whenLive h ?_
  split
  · exact portStep_accessDone s
  · exact .refl _

theorem portStep_execTableWriteComplete {s t : State} (h : execTableWriteComplete s = .next t) :
    PortStep s.port t.port := by
  have done : ∀ (cause : Bool) (bit : BitVec 7),
      PortStep s.port (if cause then setCause bit (accessDone s) else accessDone s).port := by
    intro cause bit
    split
    · exact .freed rfl rfl fun _ he => .inl he
    · exact portStep_accessDone s
  refine portStep_whenLive h ?_
  split
  · exact done _ _
  · exact done _ _
  · exact .refl _

theorem portStep_execAccessFail {s t : State} (h : execAccessFail s = .next t) : PortStep s.port t.port := by
  refine portStep_whenLive h ?_
  split
  · next a ha => exact portStep_exchangeFault a s ha
  · exact .refl _

theorem portStep_execBadKind {s t : State} {tag : Word} {kind : Byte} (h : execBadKind tag kind s = .next t) :
    PortStep s.port t.port := by
  unfold execBadKind at h
  split at h
  · cases h; exact .refl _
  · exact portStep_handOn h fun k => k.addReturn

theorem portStep_execPowerUp {s t : State} {strap : Bool} (h : execPowerUp strap s = .next t) :
    PortStep s.port t.port := by
  unfold execPowerUp at h
  cases h
  split
  · exact .refl _
  · exact portStep_checkedStart ..

theorem portStep_execPciReset {s t : State} (h : execPciReset s = .next t) : PortStep s.port t.port := by
  unfold execPciReset at h
  cases h
  split <;> exact .refl _

theorem portStep_execPciResetRelease {s t : State} (h : execPciResetRelease s = .next t) : PortStep s.port t.port := by
  unfold execPciResetRelease at h
  cases h
  split
  · exact portStep_checkedStart ..
  · exact .refl _

theorem portStep_execMainPowerLoss {s t : State} (h : execMainPowerLoss s = .next t) : PortStep s.port t.port := by
  unfold execMainPowerLoss at h
  cases h
  split
  · exact .start ..
  · exact .refl _

theorem portStep_execVbkLoss {s t : State} (h : execVbkLoss s = .next t) : PortStep s.port t.port := by
  unfold execVbkLoss at h
  cases h
  split <;> exact .refl _

theorem portStep_execStartComplete {s t : State} (h : execStartComplete s = .next t) : PortStep s.port t.port := by
  unfold execStartComplete at h
  cases h
  split
  · split
    · rw [completeStart_port]
      exact .start ..
    · exact .refl _
  · exact .refl _

theorem portStep_execOfficeClockAdvance {s t : State} (h : execOfficeClockAdvance s = .next t) :
    PortStep s.port t.port := by
  unfold execOfficeClockAdvance at h
  cases h
  split
  · exact .grows (by simpa using PortGrows.refl s.port)
  · exact .refl _

/-- What a command can do to the Exchange Port. -/
theorem portStep_exec {c : Instr} {s t : State} (h : exec c s = .next t) : PortStep s.port t.port := by
  have own := Work.refl s
  cases c with
  | xbaseWrite value => exact portStep_whenLive h (portStep_writeXbase value s)
  | post value => exact portStep_whenLive h (portStep_writePost value s)
  | attnWrite value => exact portStep_whenLive h (portStep_writeAttn value s)
  | attnEnWrite value => exact portStep_whenLive h (portStep_writeAttnEn value s)
  | run => exact portStep_whenLive h (portStep_runCommand s)
  | hold => exact portStep_whenLive h (portStep_holdCommand s)
  | restart => exact portStep_whenLive h (.start _ _)
  | cold => exact portStep_whenLive h (.start _ _)
  | registerWriteIgnored offset enables value => exact portStep_whenLive h (portStep_writeEffect _ s)
  | powerUp strap => exact portStep_execPowerUp h
  | pciReset => exact portStep_execPciReset h
  | pciResetRelease => exact portStep_execPciResetRelease h
  | mainPowerLoss => exact portStep_execMainPowerLoss h
  | vbkLoss => exact portStep_execVbkLoss h
  | startComplete => exact portStep_execStartComplete h
  | officeClockAdvance => exact portStep_execOfficeClockAdvance h
  | sweep blocks windows printers => exact portStep_whenLive_ite h (sweepEvent_port ..)
  | allowanceReload => exact portStep_whenLive h (allowanceReload_port s ▸ .refl _)
  | fetchRequest => exact portStep_execFetchRequest h
  | engineAccessStart => exact portStep_execEngineAccessStart h
  | returnResultWritten => exact portStep_execReturnResultWritten h
  | returnComplete => exact portStep_execReturnComplete h
  | headerWriteComplete => exact portStep_execHeaderWriteComplete h
  | tableWriteComplete => exact portStep_execTableWriteComplete h
  | accessFail => exact portStep_execAccessFail h
  | issue tag r => exact portStep_handOnForRecord h Work.issueWork
  | void tag window sale => exact portStep_handOn h Work.voidWork
  | refund tag r => exact portStep_handOn h Work.refundWork
  | readTally tag window => exact portStep_handOn h Work.readTallyWork
  | loadStock tag r => exact portStep_handOn h Work.loadStockWork
  | unloadStock tag printer => exact portStep_handOn h Work.unloadStockWork
  | readSpoils tag index => exact portStep_handOn h Work.readSpoilsWork
  | rollCall tag line mask => exact portStep_handOn h Work.rollCallWork
  | testPrint tag r => exact portStep_handOnForRecord h Work.testPrintWork
  | printerServiceEnter tag printer => exact portStep_handOn h Work.printerServiceWork
  | printerServiceLeave tag printer => exact portStep_handOn h Work.printerServiceWork
  | printerServiceAcknowledge tag printer action => exact portStep_handOn h Work.printerServiceWork
  | cashUp tag r => exact portStep_handOn h Work.cashUpWork
  | endOfDay tag => exact portStep_handOn h Work.endOfDayWork
  | setOffice tag r => exact portStep_handOn h Work.setOfficeWork
  | setWindow tag r => exact portStep_handOn h Work.setWindowWork
  | setRoute tag r => exact portStep_handOn h Work.setRouteWork
  | setPrinter tag printer configured group => exact portStep_handOn h Work.setPrinterWork
  | setLine tag line rate window limit => exact portStep_handOn h Work.setLineWork
  | setStockKind tag kind lowMark band => exact portStep_handOn h Work.setStockKindWork
  | badKind tag kind => exact portStep_execBadKind h
  | arbiterAction g => exact portStep_whenLive_ite h (PortGrows.actRepeatedly 64 (.refl _))
  | lineTurn l => exact portStep_whenLive h (.of_work own.lineTurn)
  | replyWindowExpiry l => exact portStep_whenLive_ite (c := (awaitsReply · l)) h own.receiveNothing.port
  | characterGapTimeout l => exact portStep_whenLive h (.of_work own.receiveNothing)
  | badReply l bytes => exact portStep_whenLive_ite (c := (awaitsReply · l)) h own.receiveRaw.port
  | frameDiscarded l bytes => cases h; exact .refl _
  | status l address flags waiting entries => exact portStep_whenLive h (.of_work own.receiveReply)
  | accept l address token => exact portStep_whenLive h (.of_work own.receiveReply)
  | refuse l address token reason => exact portStep_whenLive h (.of_work own.receiveReply)
  | serial l address serial kind => exact portStep_whenLive h (.of_work own.receiveReply)
  | retry l address => exact portStep_whenLive h (.of_work own.receiveReply)
  | slotExpiry l => exact portStep_whenLive_ite (c := (inSlot · l)) h own.endSlot.port
  | badAnswer l bytes => exact portStep_whenLive_ite (c := (inSlot · l)) h own.receiveRaw.port
  | commandFrameEnd l => exact portStep_whenLive h (.of_work own.commandFrameEnd)

/-- What a step can do to the Exchange Port. -/
theorem portStep_step {s t : State} (h : step s = .next t) : PortStep s.port t.port := by
  unfold step at h
  split at h
  · next c rest _ => exact portStep_exec (s := s.withPending rest) h
  · cases h
    exact portStep_tick s

/-- Settles O10: each change a step can make to the port keeps both laws. -/
theorem accessLawKept : Obligations.AccessLawKept :=
  ⟨fun _ _ law h => accessLaw_of_portStep law (portStep_step h), fun _ _ law h => areaLaw_of_portStep law (portStep_step h)⟩

end Sys2Proof.Machine
end

section
/-! PROOF. The sweep's counts and the allowance reload (R26, R28, R29, R82). -/

namespace Sys2Proof.Machine

/-! ### The reload -/

theorem granting_iff (s : State) : granting s = true ↔ s.office = .running ∨ s.office = .exchangeFault := by
  simp [granting]

theorem granting_eq_false {s : State} (h : s.office = .standby ∨ s.office = .hold) : granting s = false := by
  rcases h with h | h <;> simp [granting, h]

theorem allowanceReload_granting {s : State} (h : granting s = true) : allowanceReload s =
    { s with
      time := { s.time with reloadDue := false }
      express := if s.time.reloadDue then s.windows.map WindowRecord.allowance else s.express } := by
  unfold allowanceReload
  cases hd : s.time.reloadDue with
  | true => simp [h, modTime]
  | false =>
    have ht : { s.time with reloadDue := false } = s.time := by rw [← hd]
    simp [ht]

theorem allowanceReload_not_granting {s : State} (h : granting s = false) : allowanceReload s = s := by
  simp [allowanceReload, h]

theorem allowanceReload_not_due {s : State} (h : s.time.reloadDue = false) : allowanceReload s = s := by
  simp [allowanceReload, h]

/-- The reload changes no retained record. -/
theorem contentOf_allowanceReload (s : State) (r : RetainedRecord) : contentOf (allowanceReload s) r = contentOf s r := by
  unfold allowanceReload
  split
  · cases r <;> rfl
  · rfl

theorem exec_allowanceReload {s : State} (h : live s = true) :
    exec .allowanceReload s = .next (allowanceReload s) :=
  whenLive_volatile s allowanceReload h (contentOf_allowanceReload s)

/-! ### What a sweep counts -/

/-- The allowance divider's new value and whether the reload is due (R29). -/
theorem sweepCounted_granting {s : State} (h : granting s = true) : sweepCounted s =
    { s with
      time := { s.time with
        sweepCounter := 0#16
        sweepCount := s.time.sweepCount + 1#32
        allowanceDivider := if s.settings.interval ≤ s.time.allowanceDivider + 1 then 0 else s.time.allowanceDivider + 1
        reloadDue := decide (s.settings.interval ≤ s.time.allowanceDivider + 1) }
      express := if s.time.reloadDue then s.windows.map WindowRecord.allowance else s.express } := by
  have hg : granting (modTime (fun t => { t with sweepCounter := 0#16 }) s) = true := h
  unfold sweepCounted
  rw [allowanceReload_granting hg]
  unfold modTime advanceAllowance
  by_cases hd : s.settings.interval ≤ s.time.allowanceDivider + 1 <;> simp [hd]

/-- The blocks of a sweep leave alone what every operation leaves alone. -/
theorem sweepEvent_still (blocks windows printers : List Nat) (s : State) :
    still (sweepEvent blocks windows printers s) = still (sweepCounted s) := by
  rw [sweepEvent_eq]
  exact forEach_still _ _ (fun _ _ => blockWork_still ..) _

theorem mem_completeOrder {n : Nat} (named : List Nat) (i : Fin n) : i ∈ completeOrder n named := by
  simp [completeOrder, every, or_iff_not_imp_left]

/-- Work done for each element of a list brings what one of them brings and all keep. -/
theorem forEach_brings {α : Type} (P : State → Prop) {l : List α} {f : α → State → State} {a : α} (ha : a ∈ l)
    (brings : ∀ s, P (f a s)) (keeps : ∀ b s, P s → P (f b s)) (s : State) : P (forEach l f s) := by
  induction l generalizing s with
  | nil => cases ha
  | cons b rest ih =>
    rcases List.mem_cons.mp ha with rfl | hr
    · exact forEach_holds P rest f keeps _ (brings s)
    · exact ih hr (f b s)

/-- R28: the Exchange Port sets the header mark at every sweep. -/
theorem sweepEvent_headerMark (blocks windows printers : List Nat) (s : State) :
    (sweepEvent blocks windows printers s).port.headerMark = true := by
  rw [sweepEvent_eq]
  refine forEach_brings (fun u => u.port.headerMark = true) (mem_completeOrder blocks (3 : Fin 4)) ?_ ?_ _
  · exact fun _ => rfl
  · exact fun _ u hu => (Work.refl u).blockWork.port.header hu

theorem exec_sweep {s : State} {blocks windows printers : List Nat} (h : live s = true) (hg : granting s = true) :
    exec (.sweep blocks windows printers) s = .next (rewriteChecks s (sweepEvent blocks windows printers s)) := by
  show whenLive s _ = _
  rw [whenLive_live _ _ h, if_pos hg]

/-- A command whose effect leaves this state as it is. -/
theorem whenLive_unchanged {s : State} {f : State → State} (h : f s = s) : whenLive s f = .next s := by
  cases hl : live s with
  | false => exact whenLive_ignored s f hl
  | true =>
    rw [whenLive_volatile s f hl fun r => by rw [h], h]

/-! ### The reload at the next tick -/

/-- The reload is made: none is due, and the express counts are the allowances of a state's windows (R82). -/
structure Reloaded (s u : State) : Prop where
  due : u.time.reloadDue = false
  express : u.express = s.windows.map WindowRecord.allowance
  windows : u.windows = s.windows
  grants : granting u = true

theorem reloaded_allowanceReload {s : State} (hg : granting s = true) (hd : s.time.reloadDue = true) :
    Reloaded s (allowanceReload s) := by
  rw [allowanceReload_granting hg]
  exact ⟨rfl, by simp [hd], rfl, hg⟩

protected theorem Reloaded.clockAdvance {s u : State} (h : Reloaded s u) : Reloaded s (clockAdvance u) := by
  obtain ⟨hd, he, hw, hg⟩ := h
  unfold clockAdvance
  dsimp only
  split
  · split <;> exact ⟨hd, he, hw, hg⟩
  · exact ⟨hd, he, hw, hg⟩

protected theorem Reloaded.tickClock {s u : State} (h : Reloaded s u) : Reloaded s (tickClock u) := by
  unfold tickClock
  split
  · exact h.clockAdvance
  · exact ⟨h.due, h.express, h.windows, h.grants⟩

/-- A sweep whose own reload follows it in the same tick. -/
theorem Reloaded.sweepThenReload {s u : State} (blocks windows printers : List Nat) (h : Reloaded s u) :
    Reloaded s (allowanceReload (sweepEvent blocks windows printers u)) := by
  have counted := sweepCounted_granting h.grants
  have hs := sweepEvent_still blocks windows printers u
  have hx := (work_sweepEvent blocks windows printers u).express
  rw [counted] at hs hx
  have hw : (sweepEvent blocks windows printers u).windows = s.windows := (congrArg Still.windows hs).trans h.windows
  have ho : (sweepEvent blocks windows printers u).office = u.office := congrArg Still.office hs
  have hg : granting (sweepEvent blocks windows printers u) = true := by
    rw [granting_iff, ho, ← granting_iff]
    exact h.grants
  have he : (sweepEvent blocks windows printers u).express = s.windows.map WindowRecord.allowance := by
    rw [hx, h.due]
    exact h.express
  rw [allowanceReload_granting hg]
  exact ⟨rfl, by simp [hw, he], hw, hg⟩

protected theorem Reloaded.tickSweep {s u : State} (h : Reloaded s u) : Reloaded s (tickSweep u) := by
  unfold tickSweep
  split
  · split
    · exact h.sweepThenReload ..
    · exact ⟨h.due, h.express, h.windows, h.grants⟩
  · exact h

theorem reloaded_tick {s : State} (hl : live s = true) (hg : granting s = true) (hd : s.time.reloadDue = true) :
    Reloaded s (tick s) := by
  have ht : ticking s = true := by
    simp only [live, Bool.and_eq_true] at hl
    simp [ticking, hl]
  have made := reloaded_allowanceReload hg hd
  have work : Reloaded s (tickWork s) := by
    unfold tickWork
    dsimp only
    split
    · exact made.tickClock.tickSweep
    · exact made.tickSweep.tickClock
  unfold tick
  rw [if_pos ht]
  exact ⟨work.due, work.express, work.windows, work.grants⟩

/-! ### O29 -/

/-- The counts of a sweep, and what it leaves as it stands. -/
theorem sweep_counts (s : State) (blocks windows printers : List Nat) (hl : live s = true) (hg : granting s = true) :
    ∃ t : State, exec (.sweep blocks windows printers) s = .next t ∧ t.time = (sweepCounted s).time ∧
      t.express = (sweepCounted s).express ∧ t.arbiters = (sweepCounted s).arbiters ∧ t.port.headerMark = true ∧
      still t = still (sweepCounted s) := by
  have w := work_sweepEvent blocks windows printers s
  have hs := sweepEvent_still blocks windows printers s
  exact ⟨_, exec_sweep hl hg, congrArg Still.time hs, w.express, w.arbiters, sweepEvent_headerMark .., hs⟩

/-- Settles O29: the blocks of a sweep change neither the counts made before them nor the arbiters. -/
theorem sweepCountsAndReload : Obligations.SweepCountsAndReload := by
  refine ⟨fun s blocks windows printers hl ho => ?_, fun s blocks windows printers ho => ?_, fun s hl ho => ⟨?_, ?_⟩⟩
  · have hg := (granting_iff s).mpr ho
    obtain ⟨t, ht, htime, hexpress, harb, hmark, hstill⟩ := sweep_counts s blocks windows printers hl hg
    rw [sweepCounted_granting hg] at htime hexpress harb hstill
    exact ⟨t, ht, htime, hexpress, hmark, congrArg Still.office hstill, congrArg Still.lamp hstill,
      congrArg Still.settings hstill, congrArg Still.windows hstill, congrArg Still.routes hstill,
      congrArg Still.lineConfigs hstill, harb, congrArg Still.start hstill, congrArg Still.pending hstill⟩
  · have hg := granting_eq_false ho
    exact ⟨whenLive_unchanged (by rw [if_neg (by simp [hg])]),
      whenLive_unchanged (allowanceReload_not_granting hg)⟩
  · intro hd
    have hg := (granting_iff s).mpr ho
    refine ⟨⟨allowanceReload s, exec_allowanceReload hl, ?_, ?_⟩, fun hp => ?_⟩
    · rw [allowanceReload_granting hg]
    · intro w
      simp [(reloaded_allowanceReload hg hd).express]
    · have done := reloaded_tick hl hg hd
      exact ⟨tick s, by simp [step, hp], done.due, fun w => by simp [done.express]⟩
  · intro hd
    rw [exec_allowanceReload hl, allowanceReload_not_due hd]

end Sys2Proof.Machine
end

section
/-! PROOF. The bus-master engine: what it starts, how each access ends, and what each access writes (R10 to R17, Table
1-2). -/

namespace Sys2Proof.Machine

/-! ### Commands that change the port alone -/

/-- A change of the port, the office state and the lamp changes no retained record. -/
theorem contentOf_office_port (s : State) (x : ExchangePort) (o : OfficeState) (lamp : Bool) (r : RetainedRecord) :
    contentOf { s with port := x, office := o, lamp := lamp } r = contentOf s r := by cases r <;> rfl

/-- A command whose effect is known and changes no retained record. -/
theorem whenLive_eq {s t : State} {f : State → State} (h : live s = true) (hf : f s = t)
    (hc : ∀ r, contentOf t r = contentOf s r) : whenLive s f = .next t := by
  subst hf
  exact whenLive_volatile s f h hc

/-- A command that changes the port alone. -/
theorem whenLive_port {s : State} {f : State → State} {x : ExchangePort} (h : live s = true)
    (hf : f s = { s with port := x }) : whenLive s f = .next { s with port := x } :=
  whenLive_eq h hf fun r => contentOf_office_port s x s.office s.lamp r

/-- The one bit of a slip's number (R5). -/
theorem getLsbD_slipBit (n k : SlipId) : (1#128 <<< n.val).getLsbD k.val = (k == n) := by
  have hk := k.isLt
  rcases Nat.lt_trichotomy k.val n.val with h | h | h
  · have hn : k ≠ n := fun e => by simp [e] at h
    simp [h, hn]
  · obtain rfl := Fin.ext h
    simp
  · have hn : k ≠ n := fun e => by simp [e] at h
    have hd : k.val - n.val ≠ 0 := by omega
    simp [hn, hd]

theorem getLsbD_clear (held : BitVec 128) (n k : SlipId) :
    (held &&& ~~~(1#128 <<< n.val)).getLsbD k.val = (held.getLsbD k.val && k != n) := by
  rw [BitVec.getLsbD_and, BitVec.getLsbD_not, getLsbD_slipBit]
  simp [bne]

theorem getLsbD_set (held : BitVec 128) (n k : SlipId) :
    (held ||| (1#128 <<< n.val)).getLsbD k.val = (held.getLsbD k.val || k == n) := by
  rw [BitVec.getLsbD_or, getLsbD_slipBit]

/-! ### What the engine starts (O31) -/

/-- The first object of a kind that a test admits: the test fails of every lower one. -/
theorem firstWhere_every {n : Nat} {test : Fin n → Bool} {i : Fin n} (hi : test i = true)
    (below : ∀ j, j < i → test j = false) : firstWhere (every n) test = some i := by
  unfold firstWhere every
  rw [List.find?_eq_some_iff_getElem]
  exact ⟨hi, i.val, by simp, by simp, fun j hj => by simp [below ⟨j, by omega⟩ hj]⟩

theorem firstWhere_eq_none {α : Type} {l : List α} {test : α → Bool} (h : ∀ a, test a = false) :
    firstWhere l test = none := by
  simp [firstWhere, h]

theorem markedPrinter_eq {s : State} {p : PrinterId} (h : s.port.printerMarks[p] ≠ .clear)
    (below : ∀ q : PrinterId, q < p → s.port.printerMarks[q] = .clear) : markedPrinter s = some p :=
  firstWhere_every (by simpa using h) fun q hq => by simpa using below q hq

theorem markedKind_eq {s : State} {k : KindId} (h : s.port.stockMarks[k] ≠ .clear)
    (below : ∀ q : KindId, q < k → s.port.stockMarks[q] = .clear) : markedKind s = some k :=
  firstWhere_every (by simpa using h) fun q hq => by simpa using below q hq

theorem markedPrinter_eq_none {s : State} (h : ∀ p : PrinterId, s.port.printerMarks[p] = .clear) :
    markedPrinter s = none := firstWhere_eq_none fun p => by simpa using h p

theorem markedKind_eq_none {s : State} (h : ∀ k : KindId, s.port.stockMarks[k] = .clear) : markedKind s = none :=
  firstWhere_eq_none fun k => by simpa using h k

theorem serving_iff (s : State) : serving s = true ↔ s.office = .running ∨ s.office = .hold := by simp [serving]

/-- The free engine starts what waits first, which changes the port alone. -/
theorem exec_engineAccessStart {s : State} {x : ExchangePort} (h : live s = true) (hs : serving s = true)
    (he : s.port.engine = none) (hx : startFirstWaiting s = { s with port := x }) :
    exec .engineAccessStart s = .next { s with port := x } :=
  whenLive_port h (by rw [if_pos ⟨he, hs⟩, hx])

theorem startFirstWaiting_retry {s : State} {f : FailedAccess} (h : s.port.failed = some f) :
    startFirstWaiting s = startRetry f s := by
  unfold startFirstWaiting
  rw [h]

theorem startReturn_eq {s : State} {e : ReturnEntry} {rest : List ReturnEntry} (h : s.port.returns = e :: rest) :
    startReturn s = startAccess (.returnFields e) s := by
  unfold startReturn
  rw [h]

theorem startFirstWaiting_return {s : State} {e : ReturnEntry} {rest : List ReturnEntry} (h : s.port.failed = none)
    (hr : s.port.returns = e :: rest) : startFirstWaiting s = startAccess (.returnFields e) s := by
  unfold startFirstWaiting
  simp [h, hr, startReturn_eq hr]

/-- With nothing recorded and no return, a marked table entry comes first, then the header, then the fetch (R11). -/
theorem startFirstWaiting_tables {s : State} (h : s.port.failed = none) (hr : s.port.returns = []) :
    startFirstWaiting s = (startTableWrite s).getD (if s.port.headerMark then startHeader s else startFetch s) := by
  unfold startFirstWaiting
  cases ht : startTableWrite s <;> simp [h, hr]

theorem startTableWrite_printer {s : State} {p : PrinterId} (h : markedPrinter s = some p) :
    startTableWrite s = some (startPrinterEntry p s) := by
  unfold startTableWrite
  rw [h]

theorem startTableWrite_stock {s : State} {k : KindId} (hp : markedPrinter s = none) (h : markedKind s = some k) :
    startTableWrite s = some (startStockEntry k s) := by
  unfold startTableWrite
  rw [hp, h]

theorem startTableWrite_none {s : State} (hp : markedPrinter s = none) (hk : markedKind s = none) :
    startTableWrite s = none := by
  unfold startTableWrite
  rw [hp, hk]

theorem startFetch_eq {s : State} {n : SlipId} {rest : List SlipId} (hd : s.port.reader = .fetching)
    (hi : s.port.intake = n :: rest) : startFetch s = startAccess (.fetch n) s := by
  unfold startFetch
  rw [hd, hi]

/-- Settles O31: the branches of the engine's choice in the order of R11, the recorded retry before them. -/
theorem engineStartsFirstWaiting : Obligations.EngineStartsFirstWaiting := by
  intro s hl ho
  have hs := (serving_iff s).mpr ho
  refine ⟨fun hd hi => whenLive_port hl (by rw [if_pos ⟨hd, hs, hi⟩]; rfl), fun he => ?_⟩
  have starts := fun x => exec_engineAccessStart (x := x) hl hs he
  refine ⟨fun n hf => starts _ (startFirstWaiting_retry hf), fun e rest hr hf => ?_,
    fun hf => starts _ (startFirstWaiting_retry hf), fun p hf => starts _ (startFirstWaiting_retry hf),
    fun k hf => starts _ (startFirstWaiting_retry hf), fun hf hr => ?_⟩
  · rcases hf with hf | hf
    · exact starts _ (startFirstWaiting_return hf hr)
    · exact starts _ ((startFirstWaiting_retry hf).trans (startReturn_eq hr))
  · have tables := startFirstWaiting_tables hf hr
    refine ⟨fun p hp below => starts _ ?_, fun hp => ⟨fun k hk below => starts _ ?_, fun hk => ?_⟩⟩
    · rw [tables, startTableWrite_printer (markedPrinter_eq hp below)]
      rfl
    · rw [tables, startTableWrite_stock (markedPrinter_eq_none hp) (markedKind_eq hk below)]
      rfl
    · rw [startTableWrite_none (markedPrinter_eq_none hp) (markedKind_eq_none hk)] at tables
      refine ⟨fun hm => starts _ ?_, fun n rest hm hd hi => starts _ ?_⟩
      · rw [tables, hm]
        rfl
      · rw [tables, hm]
        exact startFetch_eq hd hi

/-! ### How an access ends (O32, O34) -/

/-- A table write done: the engine is free, and the cause the write carried is set. -/
theorem tableWriteDone_eq (cause : Bool) (bit : BitVec 7) (s : State) :
    (if cause then setCause bit (accessDone s) else accessDone s) = { s with port := { s.port with
      engine := none, failed := none, attn := if cause then s.port.attn ||| bit else s.port.attn } } := by
  cases cause <;> rfl

/-- Settles O32: each completion is one change of the port. -/
theorem accessesCompleteInOrder : Obligations.AccessesCompleteInOrder := by
  refine ⟨fun s e hl => ⟨fun he => ?_, fun he => ?_⟩, fun s hl => ⟨fun content he => ?_, fun p content cause he => ?_,
    fun k content cause he => ?_⟩⟩
  · show execReturnResultWritten s = _
    unfold execReturnResultWritten
    exact whenLive_port hl (by rw [he]; rfl)
  · refine ⟨completeReturn e s, ?_, rfl, fun m => getLsbD_clear s.port.held e.slip m⟩
    show execReturnComplete s = _
    unfold execReturnComplete
    exact whenLive_port hl (by rw [he]; rfl)
  · show execHeaderWriteComplete s = _
    unfold execHeaderWriteComplete
    exact whenLive_port hl (by rw [he]; rfl)
  · show execTableWriteComplete s = _
    unfold execTableWriteComplete
    exact whenLive_port hl (by rw [he]; exact tableWriteDone_eq cause causePflt s)
  · show execTableWriteComplete s = _
    unfold execTableWriteComplete
    exact whenLive_port hl (by rw [he]; exact tableWriteDone_eq cause causeStk s)

/-- The exchange fault: office state, lamp, the engine, the record, XERR, and the marks set again (R15, R23, R24). -/
theorem exchangeFault_eq (a : Access) (s : State) : exchangeFault a s = { s with
    office := .exchangeFault
    lamp := true
    port := { s.port with
      engine := none
      failed := (exchangeFault a s).port.failed
      attn := s.port.attn ||| causeXerr
      headerMark := (exchangeFault a s).port.headerMark
      printerMarks := (exchangeFault a s).port.printerMarks
      stockMarks := (exchangeFault a s).port.stockMarks } } := by
  cases a <;> rfl

theorem exec_accessFail {s : State} {a : Access} (hl : live s = true) (ha : s.port.engine = some a) :
    exec .accessFail s = .next (exchangeFault a s) := by
  have hc : ∀ r, contentOf (exchangeFault a s) r = contentOf s r := fun r => by
    rw [exchangeFault_eq]
    exact contentOf_office_port s _ _ _ r
  show execAccessFail s = _
  unfold execAccessFail
  exact whenLive_eq hl (by rw [ha]) hc

/-- Settles O34: the marks set again after the fault, by the kind of the access. -/
theorem failedAccessFaultsExchange : Obligations.FailedAccessFaultsExchange := by
  intro s a hl ha
  refine ⟨exchangeFault a s, exec_accessFail hl ha, exchangeFault_eq a s, ?_⟩
  cases a with
  | fetch n => exact ⟨rfl, rfl⟩
  | returnFields e => exact ⟨rfl, rfl⟩
  | returnMap e => exact ⟨rfl, rfl⟩
  | header content => exact ⟨rfl, rfl⟩
  | printerEntry p content cause =>
    have hm : (exchangeFault (.printerEntry p content cause) s).port.printerMarks[p] =
        markSet s.port.printerMarks[p] cause := upd_get_self _ _ _
    obtain ⟨set, carries⟩ := markSet_spec s.port.printerMarks[p] cause
    exact ⟨rfl, fun hc => hm.trans (carries.mpr (.inr hc)), fun hn => set (hm.symm.trans hn)⟩
  | stockEntry k content cause =>
    have hm : (exchangeFault (.stockEntry k content cause) s).port.stockMarks[k] =
        markSet s.port.stockMarks[k] cause := upd_get_self _ _ _
    obtain ⟨set, carries⟩ := markSet_spec s.port.stockMarks[k] cause
    exact ⟨rfl, fun hc => hm.trans (carries.mpr (.inr hc)), fun hn => set (hm.symm.trans hn)⟩

/-! ### What each access writes (O33) -/

/-- Settles O33: the lengths of the layouts, and the offsets of each access's writes. -/
theorem accessesWriteTheirRegions : Obligations.AccessesWriteTheirRegions := by
  refine ⟨fun s p k area => ⟨headerBytes_length s, printerEntryBytes_length s p, stockEntryBytes_length s k,
    resultArea_length area⟩, fun a offset bytes h => ?_⟩
  cases a with
  | fetch n => cases h
  | returnFields e =>
    intro hlen
    have nonempty : e.area ≠ [] := fun hnil => by simp [hnil] at hlen
    simp only [accessWrites, List.mem_cons, Prod.mk.injEq, List.not_mem_nil, or_false] at h
    rcases h with ⟨rfl, rfl⟩ | ⟨rfl, rfl⟩ | ⟨rfl, rfl⟩ | ⟨rfl, rfl⟩ | ⟨rfl, rfl⟩
    iterate 4 exact ⟨List.ne_nil_of_length_pos (by simp), by omega, .inl (by simp)⟩
    · exact ⟨nonempty, by omega, .inr ⟨by omega, hlen⟩⟩
  | returnMap e =>
    cases List.mem_singleton.mp h
    exact ⟨rfl, rfl⟩
  | header content =>
    cases List.mem_singleton.mp h
    exact ⟨rfl, rfl, fun hl => by omega⟩
  | printerEntry p content cause =>
    cases List.mem_singleton.mp h
    exact ⟨rfl, rfl, fun hl => by omega⟩
  | stockEntry k content cause =>
    cases List.mem_singleton.mp h
    exact ⟨rfl, rfl, fun hl => by omega⟩

end Sys2Proof.Machine
end

section
/-! PROOF. The register window: its reads after a start (R1), its writes (R1 to R3, R5, R14), and PCI reset (R169, R170). -/

namespace Sys2Proof.Machine

/-! ### Reads after a start (O2) -/

/-- R1's list of register values after a start. -/
theorem registerValue_afterStart {s : State} {attn : BitVec 7} (hp : s.port = .start attn) (ho : s.office = .standby)
    (offset : BitVec 6) : registerValue s offset =
      if offset.toNat < 4 then 0x24160001#32
      else if offset.toNat < 8 then 0#32
      else if offset.toNat < 12 then 32#32
      else if offset.toNat < 16 then attn.setWidth 32
      else 0#32 := by
  have word : ∀ k, offset.toNat < k * 4 ↔ offset.toNat / 4 < k := fun _ => (Nat.div_lt_iff_lt_mul (by decide)).symm
  simp only [registerValue, intakeFree, hp, ho, word 1, word 2, word 3, word 4]
  generalize offset.toNat / 4 = register
  match register with
  | 0 | 1 | 2 | 3 | 4 | 5 => rfl
  | n + 6 => simp [show ¬n + 6 < 3 by omega, show ¬n + 6 < 4 by omega]

theorem readRegister_ticking {s : State} (h : ticking s = true) (offset : BitVec 6) (enables : BitVec 4) :
    readRegister s offset enables = some (registerValue s offset) := if_pos h

/-- Settles O2: reset is a completed start with START set. -/
theorem resetRegisterWindow : Obligations.ResetRegisterWindow := by
  intro offset enables
  have hp : State.reset.port = .start 0b1000000#7 := rfl
  rw [readRegister_ticking rfl, registerValue_afterStart hp rfl]
  rfl

/-! ### XBASE (O17) -/

/-- Settles O17: the two branches of `writeXbase`. -/
theorem xbaseWriteInStandby : Obligations.XbaseWriteInStandby := by
  intro s value hl
  show whenLive s _ = _
  split
  · next h => exact whenLive_port hl (if_pos h)
  · next h => exact whenLive_unchanged (if_neg h)

/-! ### POST (O18) -/

theorem writePost_range {value : Word} (h : 128 ≤ value.toNat) (s : State) :
    writePost value s = refusePost value .range s := dif_neg (by omega)

/-- The tests after RANGE, of a post that names a slip. -/
theorem writePost_slip {value : Word} {n : SlipId} (h : n.val = value.toNat) (s : State) : writePost value s =
    if isHeld s n then refusePost value .double s
    else if Config.intakeRoom ≤ s.port.intake.length then refusePost value .full s
    else takePost n s := by
  have hn : (⟨value.toNat, h ▸ n.isLt⟩ : SlipId) = n := Fin.ext h.symm
  unfold writePost
  rw [dif_pos (h ▸ n.isLt)]
  dsimp only
  rw [hn]

/-- Settles O18: RANGE, then the three branches for a post that names a slip. -/
theorem postTestsInOrder : Obligations.PostTestsInOrder := by
  intro s value hl
  refine ⟨fun hr => ?_, fun n hn => ⟨fun hh => ?_, fun hh hf => ?_, fun hh hf => ?_⟩⟩
  · show whenLive s _ = _
    exact whenLive_port hl (writePost_range hr s)
  · show whenLive s _ = _
    exact whenLive_port hl ((writePost_slip hn s).trans (if_pos hh))
  · show whenLive s _ = _
    have hd : ¬isHeld s n = true := Bool.eq_false_iff.mp hh
    exact whenLive_port hl ((writePost_slip hn s).trans ((if_neg hd).trans (if_pos hf)))
  · have hd : ¬isHeld s n = true := Bool.eq_false_iff.mp hh
    refine ⟨takePost n s, ?_, rfl, fun m => getLsbD_set s.port.held n m⟩
    show whenLive s _ = _
    exact whenLive_port hl ((writePost_slip hn s).trans ((if_neg hd).trans (if_neg (Nat.not_le.mpr hf))))

/-! ### ATTN and ATTN_EN (O19) -/

/-- INTA# is asserted exactly while a cause is both pending and enabled. -/
theorem inta_iff (s : State) :
    inta s = true ↔ ∃ i : Fin 7, s.port.attn.getLsbD i.val = true ∧ s.port.attnEn.getLsbD i.val = true := by
  have zero : s.port.attn &&& s.port.attnEn = 0#7 ↔
      ∀ i : Fin 7, ¬(s.port.attn.getLsbD i.val = true ∧ s.port.attnEn.getLsbD i.val = true) := by
    constructor
    · intro h i
      have := congrArg (·.getLsbD i.val) h
      simpa using this
    · intro h
      refine BitVec.eq_of_getLsbD_eq fun i hi => ?_
      simpa using h ⟨i, hi⟩
  rw [inta, bne_iff_ne, ne_eq, zero, not_forall_not]

/-- Settles O19: each write bit by bit, with INTA# as it follows. -/
theorem attentionWrites : Obligations.AttentionWrites := by
  intro s value hl
  refine ⟨⟨writeAttn value s, ?_, rfl, fun i => ?_⟩, ⟨writeAttnEn value s, ?_, rfl, fun i => ?_⟩, inta_iff s⟩
  · show whenLive s _ = _
    exact whenLive_port hl rfl
  · simp [writeAttn]
  · show whenLive s _ = _
    exact whenLive_port hl rfl
  · simp [writeAttnEn]

/-! ### Which command a write spells (O21) -/

theorem windowWrite_ignored {offset : BitVec 6} {enables : BitVec 4} {value : Word}
    (h : ignoredWrite offset enables value = true) :
    windowWrite offset enables value = .registerWriteIgnored offset enables value := if_pos h

/-- A write of the window is ignored, or has the effect of the command it spells (R1, R3). -/
theorem exec_windowWrite (offset : BitVec 6) (enables : BitVec 4) (value : Word) :
    windowWrite offset enables value = .registerWriteIgnored offset enables value ∨
      ∀ s, exec (windowWrite offset enables value) s = whenLive s (writeEffect (windowWrite offset enables value)) := by
  unfold windowWrite
  split
  · exact .inl rfl
  · split
    iterate 8 exact .inr fun _ => rfl
    exact .inl rfl

theorem exec_registerWriteIgnored (offset : BitVec 6) (enables : BitVec 4) (value : Word) (s : State) :
    exec (.registerWriteIgnored offset enables value) s = exec (windowWrite offset enables value) s := by
  rcases exec_windowWrite offset enables value with h | h
  · rw [h]
  · exact (h s).symm

/-- The writes that are ignored at any time (R1, R3), by byte offset. -/
theorem ignoredWrite_of {offset : BitVec 6} {enables : BitVec 4} {value : Word}
    (h : enables ≠ 0xF#4 ∨ offset.toNat < 4 ∨ 24 ≤ offset.toNat ∨
      (20 ≤ offset.toNat ∧ offset.toNat < 24 ∧ (value.toNat = 0 ∨ 4 < value.toNat))) :
    ignoredWrite offset enables value = true := by
  simp only [ignoredWrite, Bool.or_eq_true, Bool.and_eq_true, Bool.not_eq_true', bne_iff_ne, beq_iff_eq,
    decide_eq_true_eq, Bool.and_eq_false_iff, decide_eq_false_iff_not]
  rcases h with h | h | h | h
  · exact .inl (.inl (.inl h))
  · exact .inl (.inl (.inr (by omega)))
  · exact .inl (.inr (by omega))
  · exact .inr ⟨by omega, by omega⟩

/-- Settles O21: the decoding of a write, and the gate that a start in progress closes. -/
theorem writesIgnoredDuringStart : Obligations.WritesIgnoredDuringStart := by
  refine ⟨fun offset value => ?_, fun s offset enables value => ⟨fun h => ?_, exec_registerWriteIgnored ..⟩,
    fun s c value offset enables hs hc => ?_⟩
  · refine ⟨fun h => ?_, fun h => ?_, fun h => ?_, fun h => ?_, fun h => ?_⟩
    iterate 5 simp [windowWrite, ignoredWrite, h]
  · have hi := ignoredWrite_of h
    have hw := windowWrite_ignored hi
    refine ⟨hw, hi, whenLive_unchanged ?_⟩
    rw [hw]
    rfl
  · have hl := live_of_start s hs
    simp only [List.mem_cons, List.not_mem_nil, or_false] at hc
    rcases hc with rfl | rfl | rfl | rfl | rfl | rfl | rfl | rfl | rfl
    all_goals exact whenLive_ignored s _ hl

/-! ### PCI reset (O26) -/

/-- The store's check depends on the check words and the contents alone. -/
theorem storeValid_congr {s t : State} (hw : t.checkWords = s.checkWords) (hc : ∀ r, contentOf t r = contentOf s r) :
    storeValid t = storeValid s := by
  rw [Bool.eq_iff_iff, storeValid_iff, storeValid_iff]
  simp [checkOf, hw, hc]

/-- The lines held still: drivers released, buffers empty, timers stopped (R169; log 9). -/
theorem exec_pciReset {s : State} (h : s.powered = true) : exec .pciReset s = .next { s with
    pciReset := true, start := none
    lines := s.lines.map fun x => { x with activity := .free, frameBuffer := [], replyTimer := none } } :=
  congrArg goOn (if_pos h)

theorem exec_pciResetRelease {s : State} (h : s.powered = true) (hr : s.pciReset = true) :
    exec .pciResetRelease s = .next (checkedStart false { s with pciReset := false }) :=
  congrArg goOn (if_pos (by rw [h, hr]; rfl))

/-- Settles O26: the reset state, then the checked start its release begins. -/
theorem pciResetBeginsStart : Obligations.PciResetBeginsStart := by
  intro s hs
  have reset := exec_pciReset hs
  obtain ⟨t, ht⟩ : ∃ t : State, t = { s with
    pciReset := true, start := none
    lines := s.lines.map fun x => { x with activity := .free, frameBuffer := [], replyTimer := none } } := ⟨_, rfl⟩
  rw [← ht] at reset
  have hpow : t.powered = true := by rw [ht]; exact hs
  have hpci : t.pciReset = true := by rw [ht]
  have valid : storeValid { t with pciReset := false } = storeValid s := by
    subst ht
    exact storeValid_congr rfl fun r => by cases r <;> rfl
  refine ⟨t, checkedStart false { t with pciReset := false }, reset, ?_, fun l => ?_, fun offset enables => ?_,
    exec_pciResetRelease hpow hpci, rfl, rfl, fun offset enables => ?_, fun hv => ?_, fun hv => ?_⟩
  · rw [ht]
  · simp [ht]
  · simp [readRegister, ticking, hpci]
  · rw [readRegister_ticking (by simpa [ticking, checkedStart, beginStart, clearVolatile] using hpow),
      registerValue_afterStart (attn := 0#7) rfl rfl]
    split
    · rfl
    · by_cases hw : offset.toNat < 8
      · rw [if_pos hw, if_neg (by omega)]
      · by_cases hp : offset.toNat < 12
        · rw [if_neg hw, if_pos hp, if_pos ⟨by omega, hp⟩]
        · have hr : ¬(8 ≤ offset.toNat ∧ offset.toNat < 12) := fun hr => hp hr.2
          rw [if_neg hw, if_neg hp, if_neg hr]
          exact congrArg some (ite_self _)
  · simp [checkedStart, beginStart, valid, hv]
  · simp [checkedStart, beginStart, valid, hv]

end Sys2Proof.Machine
end

section
/-! PROOF. The slips the fetch hands on: answered at once (R7, R68, R153), an ISSUE (R35 to R38) and a TEST PRINT (R132). -/

namespace Sys2Proof.Machine

/-! ### Slips answered at once (O39) -/

theorem contentOf_answered (s : State) (e : ReturnEntry) (r : RetainedRecord) :
    contentOf (answered s e) r = contentOf s r := by cases r <;> rfl

theorem handOn_answers {work : SlipId → State → State} {s : State} {n : SlipId} {e : ReturnEntry} (h : fetching s n)
    (hw : work n { s with port := portAfterTaking s.port } = answered s e) : handOn work s = .next (answered s e) := by
  rw [handOn_fetching work s n h, hw, rewriteChecks_same _ _ (contentOf_answered s e)]

theorem handOnForRecord_answers {work : SlipId → State → State} {s : State} {n : SlipId} {e : ReturnEntry}
    (h : fetching s n) (hs : s.freeStack ≠ [])
    (hw : work n { s with port := portAfterTaking s.port } = answered s e) :
    handOnForRecord work s = .next (answered s e) := by
  rw [handOnForRecord_fetching work s n h hs, hw, rewriteChecks_same _ _ (contentOf_answered s e)]

theorem below_eq_some {n v : Nat} {i : Fin n} (h : v = i.val) : below n v = some i := by
  subst h
  simp [below]

theorem below_eq_none {n v : Nat} (h : n ≤ v) : below n v = none := dif_neg (Nat.not_lt.mpr h)

theorem below_isSome (n v : Nat) : (below n v).isSome = decide (v < n) := by
  unfold below
  split <;> simp [*]

theorem knownKind_eq_false {kind : Byte} (h : kind.toNat = 0 ∨ 18 < kind.toNat) : knownKind kind = false := by
  simp only [knownKind, Bool.and_eq_false_iff, decide_eq_false_iff_not]
  omega

/-- Settles O39: each slip's work is one return entry. -/
theorem readingSlipsAreAnswered : Obligations.ReadingSlipsAreAnswered := by
  intro s n tag h
  refine ⟨fun window w hw => handOn_answers h ?_, fun window hw => handOn_answers h ?_, fun index => ?_,
    fun kind hk => ?_⟩
  · rw [readTallyWork, show windowOf window = some w from below_eq_some hw]
    rfl
  · rw [readTallyWork, show windowOf window = none from below_eq_none hw]
    rfl
  · by_cases hi : index.toNat ≤ 255
    · rw [if_pos hi]
      exact handOn_answers h (if_neg (Nat.not_lt.mpr hi))
    · rw [if_neg hi]
      exact handOn_answers h (if_pos (Nat.not_le.mp hi))
  · show execBadKind tag kind s = _
    rw [execBadKind, knownKind_eq_false hk]
    exact handOn_answers h rfl

/-! ### The field tests of an ISSUE (O35, O36) -/

theorem firstBad_eq_none {tests : List (Bool × Nat)} : firstBad tests = none ↔ ∀ x ∈ tests, x.1 = true := by
  induction tests with
  | nil => simp [firstBad]
  | cons x rest ih => cases hx : x.1 <;> simp [firstBad, hx, ih]

theorem serviceOf_isSome (b : Byte) : (serviceOf b).isSome = decide (b.toNat < 2) := by
  revert b
  decide

theorem tenderOf_isSome (b : Byte) : (tenderOf b).isSome = decide (b.toNat < 4) := by
  revert b
  decide

/-- Test 1 of R35, each field against the numbers of its range. -/
theorem issueBad_eq (r : IssueRequest) : issueBad r =
    if 24 ≤ r.window.toNat then some 0 else if 64 ≤ r.ticketClass.toNat then some 1
    else if 2 ≤ r.service.toNat then some 5 else if 4 ≤ r.tender.toNat then some 6
    else if r.quantity.toNat = 0 ∨ 9 < r.quantity.toNat then some 7
    else if 999999 < r.baseFare.toNat then some 8 else if 96 < r.faceLength.toNat then some 14 else none := by
  have quantity : r.quantity.toNat = 0 ∨ 9 < r.quantity.toNat ↔
      ¬(1 ≤ r.quantity.toNat ∧ r.quantity.toNat ≤ 9) := by omega
  have least (k x : Nat) : k ≤ x ↔ ¬x < k := Nat.not_lt.symm
  have most (k x : Nat) : k < x ↔ ¬x ≤ k := Nat.not_le.symm
  simp only [issueBad, firstBad, windowOf, classOf, below_isSome, serviceOf_isSome, tenderOf_isSome, Bool.and_eq_true,
    decide_eq_true_eq, quantity, least 24, least 64, least 2, least 4, most 999999, most 96, ite_not]

/-- An order that passes test 1 has a service class and a tender. -/
theorem service_tender_of_issueBad {r : IssueRequest} (h : issueBad r = none) :
    ∃ v x, serviceOf r.service = some v ∧ tenderOf r.tender = some x := by
  rw [issueBad, firstBad_eq_none] at h
  simp only [List.mem_cons, List.not_mem_nil, or_false, forall_eq_or_imp, forall_eq] at h
  obtain ⟨-, -, service, tender, -⟩ := h
  obtain ⟨v, hv⟩ := Option.isSome_iff_exists.mp service
  obtain ⟨x, hx⟩ := Option.isSome_iff_exists.mp tender
  exact ⟨v, x, hv, hx⟩

theorem issueWork_badField {tag : Word} {r : IssueRequest} {n : SlipId} {s : State} {offset : Nat}
    (h : issueBad r = some offset) : issueWork tag r n s = refuseField n tag offset [] s := by
  rw [issueWork, h]

theorem issueWork_refused {tag : Word} {r : IssueRequest} {n : SlipId} {s : State} {w : WindowId} {c : ClassId}
    {code : ResultCode} {reason : Nat} (h : issueBad r = none) (hw : r.window.toNat = w.val)
    (hc : r.ticketClass.toNat = c.val) (hr : issueRefusal s w c = some (code, reason)) :
    issueWork tag r n s = addReturn n tag code (detailOf reason ||| clampedBit (discountClamped r)) [] s := by
  obtain ⟨v, x, hv, hx⟩ := service_tender_of_issueBad h
  have hw' : windowOf r.window = some w := below_eq_some hw
  have hc' : classOf r.ticketClass = some c := below_eq_some hc
  simp only [issueWork, h, hw', hc', hv, hx, hr]

theorem issueWork_accepted {tag : Word} {r : IssueRequest} {n : SlipId} {s : State} {w : WindowId} {c : ClassId}
    {v : ServiceClass} {x : Tender} (h : issueBad r = none) (hw : r.window.toNat = w.val)
    (hc : r.ticketClass.toNat = c.val) (hv : serviceOf r.service = some v) (hx : tenderOf r.tender = some x)
    (hr : issueRefusal s w c = none) : issueWork tag r n s = acceptJob w (issuedJob s n tag r w c v x) s := by
  have hw' : windowOf r.window = some w := below_eq_some hw
  have hc' : classOf r.ticketClass = some c := below_eq_some hc
  simp only [issueWork, h, hw', hc', hv, hx, hr]

theorem clampedBit_discountClamped (r : IssueRequest) :
    clampedBit (discountClamped r) = if 10000 < r.discount.toNat then 0x80000000#32 else 0#32 := by
  simp [clampedBit, discountClamped]

/-- Settles O36: the wait of R8, then the tests of R35 in order. -/
theorem issueWaitsOrIsRefused : Obligations.IssueWaitsOrIsRefused := by
  intro s n tag r h
  refine ⟨fun hs => handOnForRecord_waits _ s n h hs, fun hs => ⟨fun offset hb => ?_, fun w c hb hw hc => ?_⟩⟩
  · exact handOnForRecord_answers h hs (issueWork_badField ((issueBad_eq r).trans hb))
  · have answers : ∀ (code : ResultCode) (reason : Nat), issueRefusal s w c = some (code, reason) →
        exec (.issue tag r) s = .next (answered s (entryNow s n tag code (detailOf reason |||
          if 10000 < r.discount.toNat then 0x80000000#32 else 0#32) [])) := by
      intro code reason hr
      refine handOnForRecord_answers h hs ?_
      rw [← clampedBit_discountClamped]
      exact issueWork_refused ((issueBad_eq r).trans hb) hw hc hr
    refine ⟨fun he => answers _ 0 ?_, fun he => ⟨fun hv => answers _ 1 ?_, fun hv => ⟨fun hm => answers _ 2 ?_,
      fun hm hq => answers _ 0 ?_⟩⟩⟩
    · simp only [issueRefusal, he]
      rfl
    · simp only [issueRefusal, he, hv]
      rfl
    · simp only [issueRefusal, inWindowMask, he, hv, hm]
      rfl
    · simp only [issueRefusal, inWindowMask, he, hv, hm]
      exact if_pos hq

/-! ### The acceptance of an ISSUE (R37, R38) -/

theorem put_self {α : Type} {n : Nat} (v : Vector α n) (i : Fin n) : put v i v[i] = v := by simp [put]

theorem upd_put {α : Type} {n : Nat} (v : Vector α n) (i : Fin n) (x : α) (f : α → α) :
    upd (put v i x) i f = put v i (f x) := by
  unfold upd
  rw [put_get_self]
  simp [put]

/-- A change that leaves the job of a record as it is changes nothing. -/
theorem modJob_unchanged {i : JobIx} {f : Job → Job} {s : State} (h : (jobAt s i).map f = jobAt s i) :
    modJob i f s = s := by
  have hr : ({ s.jobs[i] with job := s.jobs[i].job.map f } : JobRecord) = s.jobs[i] :=
    congrArg (JobRecord.mk s.jobs[i].generation) h
  exact congrArg (fun jobs => { s with jobs }) ((congrArg (put s.jobs i) hr).trans (put_self _ _))

/-- R38: a job that is not aged joins the tail of its window's queue, and nothing else changes. -/
theorem joinTail_eq {w : WindowId} {i : JobIx} {s : State}
    (h : (jobAt s i).map (fun j => { j with aged := false }) = jobAt s i) :
    joinTail w i s = { s with queues := put s.queues w (s.queues[w] ++ [i]) } := by
  unfold joinTail setQueue
  cases hq : s.queues[w] with
  | nil => exact modJob_unchanged h
  | cons k rest => exact if_pos rfl

theorem acceptJob_eq {w : WindowId} {j : Job} {s : State} {i : JobIx} {rest : List JobIx} (hs : s.freeStack = i :: rest)
    (ha : j.aged = false) : acceptJob w j s = { s with
      freeStack := rest
      jobs := put s.jobs i { generation := nextGeneration i s.jobs[i].generation, job := some j }
      current := put s.current w { s.current[w] with openJobs := s.current[w].openJobs + 1 }
      queues := put s.queues w (s.queues[w] ++ [i]) } := by
  have notAged : { j with aged := false } = j := by rw [← ha]
  unfold acceptJob
  rw [hs]
  dsimp only
  rw [joinTail_eq]
  · rfl
  · show (jobAt (takeRecord i rest j s) i).map _ = jobAt (takeRecord i rest j s) i
    rw [jobAt_takeRecord, if_pos rfl, Option.map_some, notAged]

theorem issueRefusal_eq_none {s : State} {w : WindowId} {c : ClassId} (he : s.windows[w].enabled = true)
    (hv : s.routes[c].valid = true) (hm : s.routes[c].mask.getLsbD w.val = true)
    (hq : jobCount s w < s.windows[w].quota) : issueRefusal s w c = none := by
  simp only [issueRefusal, inWindowMask, he, hv, hm]
  exact if_neg (Nat.not_le.mpr hq)

/-- Settles O35: every test of R35 passes, and the job joins its queue. -/
theorem issueIsAccepted : Obligations.IssueIsAccepted := by
  intro s n tag r w c v x i rest h hs hw hc hv hx hq1 hq9 hb hf he hva hm hq fare next service job
  have bad : issueBad r = none := by
    have service : r.service.toNat < 2 := of_decide_eq_true (by rw [← serviceOf_isSome, hv]; rfl)
    have tender : r.tender.toNat < 4 := of_decide_eq_true (by rw [← tenderOf_isSome, hx]; rfl)
    rw [issueBad_eq]
    simp only [hw, hc]
    rw [if_neg (by omega), if_neg (by omega), if_neg (by omega), if_neg (by omega), if_neg (by omega),
      if_neg (by omega), if_neg (by omega)]
  have hj : issuedJob s n tag r w c v x = job := rfl
  refine (handOnForRecord_fetching _ s n h (by simp [hs])).trans (congrArg (fun t => Host.Outcome.next (rewriteChecks s t)) ?_)
  have passes : issueRefusal { s with port := portAfterTaking s.port } w c = none :=
    issueRefusal_eq_none he hva hm hq
  rw [issueWork_accepted bad hw hc hv hx passes, acceptJob_eq (s := { s with port := portAfterTaking s.port }) hs rfl]
  exact congrArg (fun j => { s with
    port := portAfterTaking s.port
    freeStack := rest
    jobs := put s.jobs i { generation := nextGeneration i s.jobs[i].generation, job := some j }
    current := put s.current w { s.current[w] with openJobs := s.current[w].openJobs + 1 }
    queues := put s.queues w (s.queues[w] ++ [i]) }) hj

/-! ### TEST PRINT (O42) -/

theorem testPrintWork_printer {tag : Word} {r : TestPrintRequest} {n : SlipId} {s : State} (h : 16 ≤ r.printer.toNat) :
    testPrintWork tag r n s = refuseField n tag 0 [] s := by
  have hb : testPrintBad r = some 0 := by
    simp [testPrintBad, firstBad, printerOf, below_eq_none h]
  rw [testPrintWork, hb]

theorem testPrintWork_face {tag : Word} {r : TestPrintRequest} {n : SlipId} {s : State} (h : r.printer.toNat < 16)
    (hf : 96 < r.faceLength.toNat) : testPrintWork tag r n s = refuseField n tag 1 [] s := by
  have hb : testPrintBad r = some 1 := by
    simp [testPrintBad, firstBad, printerOf, below_isSome, h, hf]
  rw [testPrintWork, hb]

/-- The tests after the fields (R132). -/
theorem testPrintWork_inRange {tag : Word} {r : TestPrintRequest} {n : SlipId} {s : State} {p : PrinterId}
    (h : r.printer.toNat = p.val) (hf : r.faceLength.toNat ≤ 96) : testPrintWork tag r n s =
      if testPrintForbidden s p then addReturn n tag .notAllowed 0#32 [] s
      else if testPrintBusy s p then addReturn n tag .busy 0#32 [] s
      else acceptTest p (testJob s n tag r p) s := by
  have hp : printerOf r.printer = some p := below_eq_some h
  have hb : testPrintBad r = none := by simp [testPrintBad, firstBad, hp, hf]
  simp only [testPrintWork, hb, hp]

theorem testPrintForbidden_eq_false (s : State) (p : PrinterId) : testPrintForbidden s p = false ↔
    s.printers[p].state = .ready ∧ s.magazines[p].loaded = true ∧ s.magazines[p].frozen = false := by
  simp [testPrintForbidden, and_assoc]

theorem testPrintBusy_eq_false (s : State) (p : PrinterId) : testPrintBusy s p = false ↔
    s.printers[p].outstanding.length < 2 ∧ s.printers[p].hold = none ∧ isSelected s p = false ∧
      transmitted s.magazines[p] + reserved s p < remaining s.magazines[p] := by
  simp [testPrintBusy, and_assoc]

/-- R132, R37 and R40: the record taken, its job GRANTED at the tail of the printer's list, and the entry marked. -/
theorem acceptTest_eq {p : PrinterId} {j : Job} {s : State} {i : JobIx} {rest : List JobIx}
    (hs : s.freeStack = i :: rest) : acceptTest p j s = { s with
      port := { s.port with printerMarks := upd s.port.printerMarks p fun m => markSet m false }
      freeStack := rest
      jobs := put s.jobs i { generation := nextGeneration i s.jobs[i].generation,
                             job := some { j with state := .granted, printer := some p } }
      printers := put s.printers p { s.printers[p] with outstanding := s.printers[p].outstanding ++ [i] } } := by
  unfold acceptTest
  rw [hs]
  exact congrArg (fun jobs => { s with
    port := { s.port with printerMarks := upd s.port.printerMarks p fun m => markSet m false }
    freeStack := rest
    jobs
    printers := put s.printers p { s.printers[p] with outstanding := s.printers[p].outstanding ++ [i] } })
    (upd_put s.jobs i { generation := nextGeneration i s.jobs[i].generation, job := some j } fun record =>
      { record with job := record.job.map fun j => { j with state := .granted, printer := some p } })

/-- Settles O42: the tests of R132 in order, and the accepted job. -/
theorem testPrintIsAccepted : Obligations.TestPrintIsAccepted := by
  refine ⟨fun s n tag r h => ⟨fun hs => handOnForRecord_waits _ s n h hs,
    fun hs hp => handOnForRecord_answers h hs (testPrintWork_printer hp),
    fun hs hp hf => handOnForRecord_answers h hs (testPrintWork_face hp hf)⟩, ?_⟩
  intro s n tag r p i rest h hs hp hf allowed idle next
  have free : s.freeStack ≠ [] := by simp [hs]
  have tests := testPrintWork_inRange (tag := tag) (n := n) (s := { s with port := portAfterTaking s.port }) hp hf
  have forbidden : testPrintForbidden { s with port := portAfterTaking s.port } p = false ↔ allowed :=
    testPrintForbidden_eq_false s p
  have busy : testPrintBusy { s with port := portAfterTaking s.port } p = false ↔ idle := testPrintBusy_eq_false s p
  refine ⟨fun ha => ?_, fun ha hi => ?_, fun ha hi => ?_⟩
  · rw [← forbidden, Bool.not_eq_false] at ha
    exact handOnForRecord_answers h free (tests.trans (if_pos ha))
  · rw [← forbidden] at ha
    rw [← busy, Bool.not_eq_false] at hi
    rw [ha, if_neg Bool.false_ne_true, if_pos hi] at tests
    exact handOnForRecord_answers h free tests
  · rw [← forbidden] at ha
    rw [← busy] at hi
    rw [ha, hi, if_neg Bool.false_ne_true, if_neg Bool.false_ne_true,
      acceptTest_eq (s := { s with port := portAfterTaking s.port }) hs] at tests
    have same : ∀ record, contentOf (testPrintWork tag r n { s with port := portAfterTaking s.port }) record =
        contentOf s record := by
      rw [tests]
      refine contentOf_congr _ _ rfl rfl (fun q => ?_) rfl rfl rfl rfl rfl rfl rfl rfl
      simp only [put_get]
      split
      · next he => subst he; exact ⟨rfl, rfl, rfl, rfl⟩
      · exact ⟨rfl, rfl, rfl, rfl⟩
    have run := handOnForRecord_fetching (testPrintWork tag r) s n h free
    rw [rewriteChecks_same _ _ same, tests] at run
    refine ⟨_, _, run, rfl, ?_, rfl, rfl, rfl, rfl, rfl, rfl, rfl, rfl, rfl, rfl⟩
    simp only [upd_get_self]
    exact (markSet_spec _ false).1

end Sys2Proof.Machine
end

section
/-! PROOF. The office states and the Time Base: one step, RUN and HOLD (R20 to R24), the starts RESTART and COLD begin (R169 to R171),
the office clock (R25), the slips END OF DAY and SET OFFICE (R30, R166), the laws at reset, and the tick (R25 to R29). -/

namespace Sys2Proof.Machine

/-- Settles O1. -/
theorem stepRunsFrontCommand : Obligations.StepRunsFrontCommand :=
  ⟨fun s c rest h => by unfold step; rw [h], fun s h => by unfold step; rw [h]⟩

theorem contentOf_beginStart (cold lost : Bool) (s : State) (r : RetainedRecord) :
    contentOf (beginStart cold lost s) r = contentOf s r := by
  refine contentOf_congr s (beginStart cold lost s) rfl rfl (fun p => ?_) rfl rfl rfl rfl rfl rfl rfl rfl r
  simp [beginStart, clearVolatile, printerAfterStart]

/-- Settles O22. -/
theorem restartAndColdBeginStart : Obligations.RestartAndColdBeginStart := by
  intro s cold h
  have begins : exec (if cold = true then .cold else .restart) s = whenLive s (beginStart cold false) := by
    cases cold <;> rfl
  rw [begins, whenLive_volatile s _ h (contentOf_beginStart cold false s)]
  rfl

/-! ### RUN and HOLD -/

theorem upd_forEach_get {α : Type} {n : Nat} (f : α → α) (l : List (Fin n)) (hl : l.Nodup) (v : Vector α n)
    (i : Fin n) : (l.foldl (fun t k => upd t k f) v)[i] = if i ∈ l then f v[i] else v[i] := by
  induction l generalizing v with
  | nil => simp
  | cons k rest ih =>
    obtain ⟨hk, hr⟩ := List.nodup_cons.mp hl
    rw [List.foldl_cons, ih hr, upd_get]
    by_cases h : k = i
    · subst h
      simp [hk]
    · have hm : i ∈ k :: rest ↔ i ∈ rest := by simp [Ne.symm h]
      simp only [h, if_false, hm]

/-- A change of every entry of a table changes each by the same function. -/
theorem mapAll_get {α : Type} {n : Nat} (v : Vector α n) (f : α → α) (i : Fin n) : (mapAll v f)[i] = f v[i] := by
  unfold mapAll
  rw [upd_forEach_get f _ (List.nodup_finRange n)]
  simp

theorem markSet_plain (m : WriteMark) : markSet m false = if m = .withCause then .withCause else .plain := by
  cases m <;> rfl

/-- Settles O20. -/
theorem runAndHoldByOfficeState : Obligations.RunAndHoldByOfficeState := by
  intro s h
  have run : ∀ {t : State}, runCommand s = t → (∀ r, contentOf t r = contentOf s r) → exec .run s = .next t :=
    fun ht hc => whenLive_eq h ht hc
  have hold : ∀ {t : State}, holdCommand s = t → (∀ r, contentOf t r = contentOf s r) → exec .hold s = .next t :=
    fun ht hc => whenLive_eq h ht hc
  refine ⟨fun ho => ?_, fun ho hd => ?_, fun ho hd => ?_, fun ho => ?_, fun ho => ?_, fun ho hx => ?_, fun ho hx => ?_⟩
  · exact hold (if_neg ho) fun _ => rfl
  · refine hold ?_ fun r => contentOf_office_port s s.port .hold true r
    unfold holdCommand
    rw [if_pos ho, allowanceReload_not_due hd]
    rfl
  · refine hold ?_ fun r => by cases r <;> rfl
    unfold holdCommand
    rw [if_pos ho, allowanceReload_granting ((granting_iff s).mpr (.inl ho)), if_pos hd]
    rfl
  · exact run (by unfold runCommand; rw [ho]) fun _ => rfl
  · refine run ?_ fun r => contentOf_office_port s s.port .running true r
    unfold runCommand
    rcases ho with ho | ho <;> rw [ho] <;> rfl
  · exact run (by unfold runCommand; rw [ho]; exact if_pos hx) fun _ => rfl
  · refine ⟨runFromStandby s, run (by unfold runCommand; rw [ho]; exact if_neg hx) fun r => by cases r <;> rfl, rfl,
      fun i => ⟨?_, ?_⟩⟩
    · exact (mapAll_get _ _ i).trans (markSet_plain _)
    · exact (mapAll_get _ _ i).trans (markSet_plain _)

/-! ### The office clock -/

/-- What an advance of the office clock changes. -/
theorem clockAdvance_eq (s : State) : clockAdvance s = { s with
    time := { s.time with divider := 0 }
    lamp := if s.office = .hold ∨ s.office = .exchangeFault then !s.lamp else s.lamp
    settings := { s.settings with
      clock := if s.start.any StartInProgress.cold then s.settings.clock else s.settings.clock + 1#32 }
    start := s.start.map fun st => if st.cold = true then { st with seconds := st.seconds + 1#32 } else st } := by
  have lamp : lampAtAdvance s.office s.lamp =
      if s.office = .hold ∨ s.office = .exchangeFault then !s.lamp else s.lamp := by
    cases ho : s.office <;> simp [lampAtAdvance]
  rw [← lamp]
  unfold clockAdvance
  dsimp only [modTime]
  cases hs : s.start with
  | none => simp [modSettings]
  | some st => cases hc : st.cold <;> simp [modSettings, hc]

/-- Settles O27. -/
theorem officeClockAdvances : Obligations.OfficeClockAdvances := by
  intro s h
  rw [← clockAdvance_eq]
  exact congrArg goOn (if_pos h)

/-! ### END OF DAY (O46) and SET OFFICE (O47) -/

/-- The day's close after the slip is taken (R166): the register entries protected then are those protected before. -/
theorem closeDay_eq (tag : Word) (n : SlipId) (s : State) :
    closeDay tag n { s with port := portAfterTaking s.port } =
      let kept := s.register.entries.filter (isProtected s)
      { s with
        port := portWithReturn (portAfterTaking s.port) (entryNow s n tag .done 0#32
          (dayBytes s.dayTotals (s.register.entries.length - kept.length) kept.length))
        dayTotals := .cleared (if s.dayTotals.day = 65535 then 1 else s.dayTotals.day + 1)
        settings := { s.settings with clock := 0#32 }
        time := { s.time with divider := 0 }
        register := { entries := kept, lost := 0, overflow := false } } := by
  have same (t : State) (hm : t.magazines = s.magazines) : isProtected t = isProtected s := by
    funext e
    simp only [isProtected, hm]
  unfold closeDay dischargeRegister
  dsimp only [addReturn_eq, modDayTotals, modTime, modSettings, nextDay]
  rw [same { s with port := portAfterTaking s.port } rfl, same _ rfl]
  rfl

/-- Settles O46. -/
theorem endOfDayClosesTheDay : Obligations.EndOfDayClosesTheDay := by
  intro s n tag h
  refine ⟨fun w hw lower => ?_, fun allNone => ?_⟩
  · have lowest : lowestClosing { s with port := portAfterTaking s.port } = some w :=
      firstWhere_every (Option.isSome_iff_ne_none.mpr hw) fun v hv => Option.isSome_eq_false_iff.mpr (by simp [lower v hv])
    refine handOn_answers h ?_
    unfold endOfDayWork
    rw [lowest]
    rfl
  · have lowest : lowestClosing { s with port := portAfterTaking s.port } = none :=
      firstWhere_eq_none fun v => Option.isSome_eq_false_iff.mpr (by simp [allNone v])
    have closes : endOfDayWork tag n { s with port := portAfterTaking s.port } =
        closeDay tag n { s with port := portAfterTaking s.port } := by
      unfold endOfDayWork
      rw [lowest]
    exact (handOn_fetching (endOfDayWork tag) s n h).trans
      (congrArg (fun t => Host.Outcome.next (rewriteChecks s t)) (closes.trans (closeDay_eq tag n s)))

/-- The field tests of Table 2-4, each against the numbers of its range; a sweep period of one byte is always in range. -/
theorem officeBad_eq (r : OfficeRequest) : officeBad r =
    if ¬(r.roundingStep.toNat = 1 ∨ r.roundingStep.toNat = 5 ∨ r.roundingStep.toNat = 10) then some 6
    else if 99999 < r.minimumFare.toNat then some 0 else if 9999 < r.tolerance.toNat then some 4
    else if r.interval.toNat = 0 ∨ 16 < r.interval.toNat then some 8 else if 3 < r.reprintLimit.toNat then some 9
    else if r.spoilRunLimit.toNat < 2 ∨ 9 < r.spoilRunLimit.toNat then some 10 else none := by
  have step (k : Byte) : (r.roundingStep == k) = true ↔ r.roundingStep.toNat = k.toNat := by
    rw [beq_iff_eq, BitVec.toNat_inj]
  have period : r.sweepPeriod.toNat ≤ 255 := by have := r.sweepPeriod.isLt; omega
  have interval : r.interval.toNat = 0 ∨ 16 < r.interval.toNat ↔
      ¬(1 ≤ r.interval.toNat ∧ r.interval.toNat ≤ 16) := by omega
  have run : r.spoilRunLimit.toNat < 2 ∨ 9 < r.spoilRunLimit.toNat ↔
      ¬(2 ≤ r.spoilRunLimit.toNat ∧ r.spoilRunLimit.toNat ≤ 9) := by omega
  have most (k x : Nat) : k < x ↔ ¬x ≤ k := Nat.not_le.symm
  simp only [officeBad, firstBad, Bool.or_eq_true, step, or_assoc, Bool.and_eq_true, decide_eq_true_eq, interval, run,
    most 99999, most 9999, most 3, ite_not, period, if_true]
  rfl

/-- Settles O47. -/
theorem setOfficeWritesSettings : Obligations.SetOfficeWritesSettings := by
  intro s n tag r h
  dsimp only
  rw [← officeBad_eq]
  cases hb : officeBad r with
  | some offset =>
    refine handOn_answers h ?_
    unfold setOfficeWork
    rw [hb]
    rfl
  | none =>
    have writes : setOfficeWork tag r n { s with port := portAfterTaking s.port } =
        addReturn n tag .done 0#32 (settingsBytes (writeOffice r s).settings)
          (writeOffice r { s with port := portAfterTaking s.port }) := by
      unfold setOfficeWork
      rw [hb]
      rfl
    exact (handOn_fetching (setOfficeWork tag r) s n h).trans (by rw [writes]; rfl)

/-! ### Reset (O3) -/

theorem reset_jobs : State.reset.jobs = Vector.replicate 64 { generation := 0, job := none } := rfl
theorem reset_queues : State.reset.queues = Vector.replicate 24 [] := rfl
theorem reset_windows : State.reset.windows = Vector.replicate 24 .default := rfl
theorem reset_cashUps : State.reset.cashUps = Vector.replicate 24 none := rfl
theorem reset_printers : State.reset.printers = Vector.replicate 16 .default := rfl
theorem reset_magazines : State.reset.magazines = Vector.replicate 16 .unloaded := rfl
theorem reset_lines : State.reset.lines = Vector.replicate 2 .start := rfl
theorem reset_kinds : State.reset.kinds = Vector.replicate 16 .default := rfl

theorem reset_jobAt (i : JobIx) : jobAt State.reset i = none := by simp [jobAt, reset_jobs]

theorem reset_port : State.reset.port = .start 0b1000000#7 := rfl

/-- With no magazine loaded every total is 0 and no magazine counts (R149). -/
theorem reset_stock (k : KindId) : availableTotal State.reset k = 0 ∧ loadedCount State.reset k = 0 := by
  simp [availableTotal, loadedCount, reset_magazines, Magazine.unloaded]

theorem reset_placeLaw : PlaceLaw State.reset := by
  simp [PlaceLaw, reset_jobAt, reset_queues, reset_printers, Printer.default]

/-- Settles O3: the tables at reset hold one default each, and every law is judged on it. -/
theorem resetMeetsEveryLaw : Obligations.ResetMeetsEveryLaw := by
  have stock : LowStockLaw State.reset := fun k => by
    obtain ⟨total, loaded⟩ := reset_stock k
    rw [total, loaded]
    simp [reset_kinds, StockKind.default]
  have settings : SettingsLaw State.reset := by
    have h : State.reset.settings = { OfficeSettings.default with startCount := 1#32 } := rfl
    simp [SettingsLaw, h, OfficeSettings.default]
  have store : StoreLaw State.reset := ⟨fun _ h => (nomatch h), fun _ _ => storeValid_sealStore _⟩
  refine ⟨⟨List.nodup_finRange 64, fun i => ?_⟩, ?_, ⟨Nat.zero_le _, .nil⟩, stock, fun p => ?_, fun w p q hp => ?_,
    ⟨fun _ => rfl, fun h => (nomatch h)⟩, settings, ?_, fun i j hj => ?_, fun w => ?_, reset_placeLaw, fun l => ?_, store,
    fun h => (nomatch h), fun w hw => ?_, ?_⟩
  · have all : State.reset.freeStack = List.finRange 64 := rfl
    simp [all, reset_jobAt]
  · simp [TokenLaw, reset_jobs]
  · simp [reset_printers, Printer.default]
  · simp [holds, reset_printers, Printer.default] at hp
  · simp [AccessLaw, reset_port, ExchangePort.start]
  · simp [reset_jobAt] at hj
  · simp [jobCount, jobIs, reset_jobAt, reset_windows, WindowRecord.default]
  · simp [reset_lines, Line.start, RollCall.none]
  · simp [reset_cashUps] at hw
  · simp [AreaLaw, reset_port, ExchangePort.start]

/-! ### The tick (O28) -/

theorem tick_of_ticking {s : State} (h : ticking s = true) : tick s = rewriteChecks s (tickWork s) := if_pos h

theorem live_iff (s : State) : live s = true ↔ ticking s = true ∧ s.start = none := by
  simp [live, ticking]

theorem clockAdvance_of_no_start {s : State} (h : s.start = none) : clockAdvance s = { s with
    time := { s.time with divider := 0 }
    lamp := if s.office = .hold ∨ s.office = .exchangeFault then !s.lamp else s.lamp
    settings := { s.settings with clock := s.settings.clock + 1#32 } } := by
  rw [clockAdvance_eq, h]
  simp only [Option.any_none, Option.map_none, Bool.false_eq_true, if_false]

theorem tickClock_below {s : State} (h : s.time.divider ≠ 999) :
    tickClock s = { s with time := { s.time with divider := s.time.divider + 1 } } := if_neg h

theorem tickClock_at {s : State} (h : s.time.divider = 999) : tickClock s = clockAdvance s := if_pos h

/-- The tick counts nothing toward the sweep in a start, in STANDBY or in HOLD (R26, R170). -/
theorem tickSweep_idle {s : State} (h : s.start ≠ none ∨ s.office = .standby ∨ s.office = .hold) : tickSweep s = s := by
  have idle : (live s && granting s) = false := by
    rcases h with h | h
    · rw [live_of_start s h, Bool.false_and]
    · rw [granting_eq_false h, Bool.and_false]
  unfold tickSweep
  rw [idle]
  rfl

theorem tickSweep_counts {s : State} (hl : live s = true) (hg : granting s = true)
    (hd : sweepDue s.time.sweepCounter s.settings.sweepPeriod = false) :
    tickSweep s = { s with time := { s.time with sweepCounter := s.time.sweepCounter + 1#16 } } := by
  unfold tickSweep
  rw [hl, hg, hd]
  rfl

/-- The sweep of a tick and the reload that comes with it. -/
theorem tickSweep_sweeps {s : State} (hl : live s = true) (hg : granting s = true)
    (hd : sweepDue s.time.sweepCounter s.settings.sweepPeriod = true) :
    tickSweep s = allowanceReload (sweepEvent (Config.sweepBlocks s.time.sweepCount)
      (Config.sweepWindows s.time.sweepCount) (Config.sweepPrinters s.time.sweepCount) s) := by
  unfold tickSweep
  rw [hl, hg, hd]
  rfl

/-- What a tick comes to, whichever of its two counts is made first (log 32). -/
theorem tickWork_cases {s : State} (P : State → Prop) (clockFirst : P (tickSweep (tickClock (allowanceReload s))))
    (sweepFirst : P (tickClock (tickSweep (allowanceReload s)))) : P (tickWork s) := by
  unfold tickWork
  dsimp only
  split
  · exact clockFirst
  · exact sweepFirst

/-- The same with no reload left due by an earlier sweep. -/
theorem tickWork_eq {s t : State} (h : s.time.reloadDue = false) (clockFirst : tickSweep (tickClock s) = t)
    (sweepFirst : tickClock (tickSweep s) = t) : tickWork s = t := by
  refine tickWork_cases (· = t) ?_ ?_ <;> rwa [allowanceReload_not_due h]

theorem step_tick {s : State} (hp : s.pending = []) (h : ticking s = true) :
    step s = .next (rewriteChecks s (tickWork s)) := by
  rw [← tick_of_ticking h]
  exact stepRunsFrontCommand.2 s hp

/-- A tick that changes the Time Base alone. -/
theorem step_tick_time {s : State} {x : TimeBase} (hp : s.pending = []) (h : ticking s = true)
    (hw : tickWork s = { s with time := x }) : step s = .next { s with time := x } := by
  rw [step_tick hp h, hw, rewriteChecks_same _ _ fun r => by cases r <;> rfl]

/-- R26: the sweep points. -/
theorem sweepDue_iff (counter : BitVec 16) (period : Nat) (h : period ≤ 255) :
    sweepDue counter period = true ↔ counter = 0xFFFF#16 ∨ counter.toNat + 1 = period * 256 := by
  have hc := counter.isLt
  have last : counter = 0xFFFF#16 ↔ counter.toNat = 65535 := by rw [← BitVec.toNat_inj]; rfl
  simp only [sweepDue, Bool.or_eq_true, beq_iff_eq, BitVec.toNat_add, BitVec.toNat_ofNat, last]
  omega

/-- A tick that does not find 999, in each office state (R25, R26). -/
theorem tick_below {s : State} (hp : s.pending = []) (ht : ticking s = true) (hd : s.time.reloadDue = false)
    (hn : s.time.divider ≠ 999) :
    (s.start ≠ none ∨ s.office = .standby ∨ s.office = .hold →
      step s = .next { s with time := { s.time with divider := s.time.divider + 1 } }) ∧
    (s.start = none → (s.office = .running ∨ s.office = .exchangeFault) →
      sweepDue s.time.sweepCounter s.settings.sweepPeriod = false →
      step s = .next { s with
        time := { s.time with divider := s.time.divider + 1, sweepCounter := s.time.sweepCounter + 1#16 } }) := by
  refine ⟨fun idle => step_tick_time hp ht (tickWork_eq hd ?_ ?_), fun hs ho due =>
    step_tick_time hp ht (tickWork_eq hd ?_ ?_)⟩
  · rw [tickClock_below hn]
    exact tickSweep_idle idle
  · rw [tickSweep_idle idle, tickClock_below hn]
  · rw [tickClock_below hn]
    exact tickSweep_counts ((live_iff _).mpr ⟨ht, hs⟩) ((granting_iff _).mpr ho) due
  · rw [tickSweep_counts ((live_iff s).mpr ⟨ht, hs⟩) ((granting_iff s).mpr ho) due]
    exact tickClock_below hn

/-- The tick that finds 999 advances the office clock and counts toward the sweep, in each office state (R24 to R26). -/
theorem tick_at {s : State} (hp : s.pending = []) (ht : ticking s = true) (hd : s.time.reloadDue = false)
    (hn : s.time.divider = 999) (hs : s.start = none) :
    (s.office = .standby ∨ s.office = .hold → step s = .next (rewriteChecks s { s with
      time := { s.time with divider := 0 }
      lamp := if s.office = .hold then !s.lamp else s.lamp
      settings := { s.settings with clock := s.settings.clock + 1#32 } })) ∧
    ((s.office = .running ∨ s.office = .exchangeFault) →
      sweepDue s.time.sweepCounter s.settings.sweepPeriod = false → step s = .next (rewriteChecks s { s with
        time := { s.time with divider := 0, sweepCounter := s.time.sweepCounter + 1#16 }
        lamp := if s.office = .exchangeFault then !s.lamp else s.lamp
        settings := { s.settings with clock := s.settings.clock + 1#32 } })) := by
  refine ⟨fun ho => ?_, fun ho due => ?_⟩
  · have lamp : (if s.office = .hold then !s.lamp else s.lamp) =
        if s.office = .hold ∨ s.office = .exchangeFault then !s.lamp else s.lamp := by
      rcases ho with ho | ho <;> simp [ho]
    rw [step_tick hp ht, lamp, ← clockAdvance_of_no_start hs, ← tickClock_at hn]
    refine congrArg (fun t => Host.Outcome.next (rewriteChecks s t)) (tickWork_eq hd ?_ ?_)
    · rw [tickClock_at hn, clockAdvance_of_no_start hs]
      exact tickSweep_idle (.inr ho)
    · rw [tickSweep_idle (.inr ho)]
  · have lamp : (if s.office = .exchangeFault then !s.lamp else s.lamp) =
        if s.office = .hold ∨ s.office = .exchangeFault then !s.lamp else s.lamp := by
      rcases ho with ho | ho <;> simp [ho]
    rw [step_tick hp ht, lamp]
    refine congrArg (fun t => Host.Outcome.next (rewriteChecks s t)) (tickWork_eq hd ?_ ?_)
    · rw [tickClock_at hn, clockAdvance_of_no_start hs]
      exact tickSweep_counts ((live_iff _).mpr ⟨ht, hs⟩) ((granting_iff _).mpr ho) due
    · rw [tickSweep_counts ((live_iff s).mpr ⟨ht, hs⟩) ((granting_iff s).mpr ho) due]
      exact (tickClock_at (by exact hn)).trans (clockAdvance_of_no_start (by exact hs))

/-- A sweep with its own reload after it, from a state with none left due: its counts, and what it leaves (R26 to R29). -/
structure SweptWithReload (s t : State) : Prop where
  time : t.time =
    { divider := s.time.divider
      sweepCounter := 0#16
      sweepCount := s.time.sweepCount + 1#32
      allowanceDivider := if s.settings.interval ≤ s.time.allowanceDivider + 1 then 0 else s.time.allowanceDivider + 1
      reloadDue := false }
  express : t.express =
    if s.settings.interval ≤ s.time.allowanceDivider + 1 then s.windows.map WindowRecord.allowance else s.express
  settings : t.settings = s.settings
  windows : t.windows = s.windows
  office : t.office = s.office
  start : t.start = s.start
  arbiters : t.arbiters = s.arbiters
  header : t.port.headerMark = true

theorem sweptWithReload {s : State} (blocks windows printers : List Nat) (hg : granting s = true)
    (hd : s.time.reloadDue = false) :
    SweptWithReload s (allowanceReload (sweepEvent blocks windows printers s)) := by
  obtain ⟨t, ht⟩ : ∃ t, t = sweepEvent blocks windows printers s := ⟨_, rfl⟩
  have hs := sweepEvent_still blocks windows printers s
  have work := work_sweepEvent blocks windows printers s
  have header := sweepEvent_headerMark blocks windows printers s
  rw [← ht, sweepCounted_granting hg] at hs work
  rw [← ht] at header
  have office : t.office = s.office := congrArg Still.office hs
  have time := congrArg Still.time hs
  have wins : t.windows = s.windows := congrArg Still.windows hs
  have express := work.express
  dsimp only [still] at time express
  rw [hd] at express
  have grants : granting t = true := by rwa [granting_iff, office, ← granting_iff]
  rw [← ht, allowanceReload_granting grants]
  refine ⟨?_, ?_, congrArg Still.settings hs, wins, office, congrArg Still.start hs, work.arbiters, header⟩
  · dsimp only
    rw [time]
  · dsimp only
    rw [time, wins, express]
    simp

/-- A tick's count of milliseconds outside a start, as one next state (R24, R25). -/
theorem tickClock_eq {s : State} (h : s.start = none) : tickClock s = { s with
    time := { s.time with divider := if s.time.divider = 999 then 0 else s.time.divider + 1 }
    lamp := if s.time.divider = 999 ∧ (s.office = .hold ∨ s.office = .exchangeFault) then !s.lamp else s.lamp
    settings := if s.time.divider = 999 then { s.settings with clock := s.settings.clock + 1#32 } else s.settings } := by
  by_cases hn : s.time.divider = 999
  · rw [tickClock_at hn, clockAdvance_of_no_start h]
    simp [hn]
  · rw [tickClock_below hn]
    simp [hn]

/-- A tick that sweeps: its counts, and what it leaves (R25 to R29). -/
structure TickSwept (s t : State) : Prop where
  time : t.time =
    { divider := if s.time.divider = 999 then 0 else s.time.divider + 1
      sweepCounter := 0#16
      sweepCount := s.time.sweepCount + 1#32
      allowanceDivider := if s.settings.interval ≤ s.time.allowanceDivider + 1 then 0 else s.time.allowanceDivider + 1
      reloadDue := false }
  express : t.express =
    if s.settings.interval ≤ s.time.allowanceDivider + 1 then s.windows.map WindowRecord.allowance else s.express
  settings : t.settings =
    if s.time.divider = 999 then { s.settings with clock := s.settings.clock + 1#32 } else s.settings
  windows : t.windows = s.windows
  office : t.office = s.office
  arbiters : t.arbiters = s.arbiters
  header : t.port.headerMark = true

/-- The sweep's point and its interval do not depend on the clock. -/
theorem clock_keeps_settings (c : Prop) [Decidable c] (o : OfficeSettings) (clock : Word) :
    (if c then { o with clock := clock } else o).sweepPeriod = o.sweepPeriod ∧
      (if c then { o with clock := clock } else o).interval = o.interval := by
  split <;> exact ⟨rfl, rfl⟩

theorem tickSwept_clockFirst {s : State} (hl : live s = true) (hg : granting s = true) (hd : s.time.reloadDue = false)
    (due : sweepDue s.time.sweepCounter s.settings.sweepPeriod = true) : TickSwept s (tickSweep (tickClock s)) := by
  have clock := tickClock_eq ((live_iff s).mp hl).2
  obtain ⟨period, interval⟩ := clock_keeps_settings (s.time.divider = 999) s.settings (s.settings.clock + 1#32)
  obtain ⟨c, hc⟩ : ∃ c, c = tickClock s := ⟨_, rfl⟩
  rw [← hc] at clock ⊢
  have live' : live c = true := by rw [clock]; exact hl
  have grants : granting c = true := by rw [clock]; exact hg
  have due' : sweepDue c.time.sweepCounter c.settings.sweepPeriod = true := by rw [clock]; dsimp only; rwa [period]
  rw [tickSweep_sweeps live' grants due']
  have swept := sweptWithReload (Config.sweepBlocks c.time.sweepCount) (Config.sweepWindows c.time.sweepCount)
    (Config.sweepPrinters c.time.sweepCount) grants (by rw [clock]; exact hd)
  obtain ⟨time, express, settings, wins, office, -, arbiters, header⟩ := swept
  refine ⟨time.trans ?_, express.trans ?_, settings.trans ?_, wins.trans ?_, office.trans ?_, arbiters.trans ?_, header⟩
  · simp only [clock, interval]
  · simp only [clock, interval]
  all_goals rw [clock]

theorem tickSwept_sweepFirst {s : State} (hl : live s = true) (hg : granting s = true) (hd : s.time.reloadDue = false)
    (due : sweepDue s.time.sweepCounter s.settings.sweepPeriod = true) : TickSwept s (tickClock (tickSweep s)) := by
  rw [tickSweep_sweeps hl hg due]
  obtain ⟨time, express, settings, wins, office, start, arbiters, header⟩ := sweptWithReload
    (Config.sweepBlocks s.time.sweepCount) (Config.sweepWindows s.time.sweepCount)
    (Config.sweepPrinters s.time.sweepCount) hg hd
  rw [tickClock_eq (start.trans ((live_iff s).mp hl).2)]
  refine ⟨?_, express, ?_, wins, office, arbiters, header⟩
  · simp only [time]
  · simp only [time, settings]

/-- Settles O28: the sweep points, the plain ticks, and the tick that sweeps. -/
theorem tickCounts : Obligations.TickCounts := by
  refine ⟨sweepDue_iff, fun s hp ht hd hn => tick_below hp ht hd hn, fun s hp ht hd hn hs => tick_at hp ht hd hn hs,
    fun s hp hl ho due => ?_⟩
  have hg := (granting_iff s).mpr ho
  obtain ⟨r, hr⟩ : ∃ r, r = allowanceReload s := ⟨_, rfl⟩
  have reloaded := hr.trans (allowanceReload_granting hg)
  have live' : live r = true := by rw [reloaded]; exact hl
  have grants : granting r = true := by rw [reloaded]; exact hg
  have notDue : r.time.reloadDue = false := by rw [reloaded]
  have due' : sweepDue r.time.sweepCounter r.settings.sweepPeriod = true := by rw [reloaded]; exact due
  have swept : TickSwept r (tickWork s) := by
    refine tickWork_cases (TickSwept r) ?_ ?_ <;> rw [← hr]
    · exact tickSwept_clockFirst live' grants notDue due'
    · exact tickSwept_sweepFirst live' grants notDue due'
  obtain ⟨time, express, settings, wins, office, arbiters, header⟩ := swept
  rw [reloaded] at time express settings wins office arbiters
  refine ⟨_, step_tick hp ((live_iff s).mp hl).1, time, settings, header, office, arbiters, wins, fun reload w => ?_,
    fun keep notDue => ?_⟩
  · have all : (tickWork s).express = s.windows.map WindowRecord.allowance := express.trans (if_pos reload)
    show (tickWork s).express[w] = _
    simp [all]
  · have kept := express.trans (if_neg keep)
    simp only [notDue, Bool.false_eq_true, if_false] at kept
    exact kept

end Sys2Proof.Machine
end

section
/-! SUPPORT. The work of every command and of the office tick, outside power and starts, as changes to one home of data after another
(`Worked`): what no such work does is one induction over it. -/

namespace Sys2Proof.Machine

/-! ### Work, one home of data at a time -/

/-- The state `t` is reached from `s` by changes to one home of data after another, as the work of every command and of the
office tick is outside power and starts: no change rewrites a check word or begins or ends a start, and a cash-up becomes
pending only where a CLOSING tally stands (R155, R158). -/
inductive Worked (s : State) : State → Prop
  | protected refl : Worked s s
  | protected office {t : State} {o : OfficeState} {lamp : Bool} (h : Worked s t) :
    Worked s { t with office := o, lamp := lamp }
  | protected time {t : State} {x : TimeBase} (h : Worked s t) : Worked s { t with time := x }
  | protected settings {t : State} {x : OfficeSettings} (h : Worked s t) : Worked s { t with settings := x }
  | protected port {t : State} {x : ExchangePort} (h : Worked s t) : Worked s { t with port := x }
  | protected windows {t : State} {v : Vector WindowRecord 24} (h : Worked s t) : Worked s { t with windows := v }
  | protected routes {t : State} {v : Vector RouteEntry 64} (h : Worked s t) : Worked s { t with routes := v }
  | protected lineConfigs {t : State} {v : Vector LineConfig 2} (h : Worked s t) : Worked s { t with lineConfigs := v }
  | protected arbiters {t : State} {v : Vector Arbiter 8} (h : Worked s t) : Worked s { t with arbiters := v }
  | protected express {t : State} {v : Vector Nat 24} (h : Worked s t) : Worked s { t with express := v }
  | protected queues {t : State} {v : Vector (List JobIx) 24} (h : Worked s t) : Worked s { t with queues := v }
  | protected jobs {t : State} {v : Vector JobRecord 64} {free : List JobIx} (h : Worked s t) :
    Worked s { t with jobs := v, freeStack := free }
  | protected printers {t : State} {v : Vector Printer 16} (h : Worked s t) : Worked s { t with printers := v }
  | protected lines {t : State} {v : Vector Line 2} (h : Worked s t) : Worked s { t with lines := v }
  | protected lineRecords {t : State} {v : Vector LineRecord 16} (h : Worked s t) : Worked s { t with lineRecords := v }
  | protected magazines {t : State} {v : Vector Magazine 16} (h : Worked s t) : Worked s { t with magazines := v }
  | protected kinds {t : State} {v : Vector StockKind 16} (h : Worked s t) : Worked s { t with kinds := v }
  | protected register {t : State} {x : SpoilRegister} (h : Worked s t) : Worked s { t with register := x }
  | protected current {t : State} {v : Vector Tally 24} (h : Worked s t) : Worked s { t with current := v }
  | protected dayTotals {t : State} {x : DayTotals} (h : Worked s t) : Worked s { t with dayTotals := x }
  | protected closing {t : State} {w : WindowId} {c : Tally} (h : Worked s t) :
    Worked s { t with closing := put t.closing w (some c) }
  | protected stated {t : State} {w : WindowId} (h : Worked s t) :
    Worked s { t with closing := put t.closing w none, cashUps := put t.cashUps w none }
  | protected awaits {t : State} {w : WindowId} {c : PendingCashUp} (h : Worked s t) (hc : t.closing[w] ≠ none) :
    Worked s { t with cashUps := put t.cashUps w (some c) }

/-- No such work writes a check word (R167: the event's check words are rewritten at its end). -/
theorem Worked.checkWords {s t : State} (h : Worked s t) : t.checkWords = s.checkWords := by
  induction h <;> first | rfl | assumption

/-- No such work begins or ends a start. -/
theorem Worked.start {s t : State} (h : Worked s t) : t.start = s.start := by
  induction h <;> first | rfl | assumption

/-- A cash-up is pending only where a CLOSING tally stands (R155). -/
def CashUpsClosing (s : State) : Prop := ∀ w : WindowId, s.cashUps[w] ≠ none → s.closing[w] ≠ none

theorem Worked.cashUpsClosing {s t : State} (h : Worked s t) (hs : CashUpsClosing s) : CashUpsClosing t := by
  induction h with
  | refl => exact hs
  | closing h ih =>
    intro v hv
    simp only [put_get]
    split
    · exact Option.some_ne_none _
    · exact ih v hv
  | stated h ih =>
    intro v hv
    simp only [put_get] at hv ⊢
    split
    · next he => simp [he] at hv
    · next he => exact ih v (by simpa [he] using hv)
  | awaits h hc ih =>
    intro v hv
    simp only [put_get] at hv
    split at hv
    · next he => exact he ▸ hc
    · exact ih v hv
  | _ => assumption

section
variable {s t : State}

protected theorem Worked.forEach {α : Type} {l : List α} {f : α → State → State} (h : Worked s t)
    (hf : ∀ a u, Worked s u → Worked s (f a u)) : Worked s (forEach l f t) := forEach_holds (Worked s) l f hf t h

protected theorem Worked.ite {c : Prop} [Decidable c] {u : State} (h : Worked s t) (k : Worked s u) :
    Worked s (if c then t else u) := by split <;> assumption

protected theorem Worked.modPort {f : ExchangePort → ExchangePort} (h : Worked s t) : Worked s (modPort f t) := h.port
protected theorem Worked.modPrinter {p : PrinterId} {f : Printer → Printer} (h : Worked s t) :
    Worked s (modPrinter p f t) := h.printers
protected theorem Worked.modLine {l : LineId} {f : Line → Line} (h : Worked s t) : Worked s (modLine l f t) := h.lines
protected theorem Worked.modLineRecord {p : PrinterId} {f : LineRecord → LineRecord} (h : Worked s t) :
    Worked s (modLineRecord p f t) := h.lineRecords
protected theorem Worked.modCurrent {w : WindowId} {f : Tally → Tally} (h : Worked s t) : Worked s (modCurrent w f t) :=
  h.current
protected theorem Worked.modJob {i : JobIx} {f : Job → Job} (h : Worked s t) : Worked s (modJob i f t) := h.jobs

/-! ### Marks, returns, lists and records -/

protected theorem Worked.markPrinter {p : PrinterId} {cause : Bool} (h : Worked s t) : Worked s (markPrinter p cause t) :=
  h.modPort
protected theorem Worked.markStock {k : KindId} {cause : Bool} (h : Worked s t) : Worked s (markStock k cause t) :=
  h.modPort
protected theorem Worked.markHeader (h : Worked s t) : Worked s (markHeader t) :=
  h.modPort

protected theorem Worked.addReturn {n : SlipId} {tag : Word} {code : ResultCode} {detail : Word} {area : List Byte}
    (h : Worked s t) : Worked s (addReturn n tag code detail area t) :=
  h.modPort

protected theorem Worked.setQueue {w : WindowId} {q : List JobIx} (h : Worked s t) : Worked s (setQueue w q t) := by
  unfold setQueue
  split
  · split
    · exact h.queues
    · exact h.queues.modJob
  · exact h.queues

protected theorem Worked.joinTail {w : WindowId} {i : JobIx} (h : Worked s t) : Worked s (joinTail w i t) := h.setQueue
protected theorem Worked.leaveQueue {w : WindowId} {i : JobIx} (h : Worked s t) : Worked s (leaveQueue w i t) := h.setQueue
protected theorem Worked.joinFront {order : List JobIx} {w : WindowId} {i : JobIx} (h : Worked s t) :
    Worked s (joinFront order w i t) := h.setQueue
protected theorem Worked.leavePrinter {p : PrinterId} {i : JobIx} (h : Worked s t) : Worked s (leavePrinter p i t) :=
  h.modPrinter.modLineRecord.markPrinter
protected theorem Worked.joinPrinter {p : PrinterId} {i : JobIx} (h : Worked s t) : Worked s (joinPrinter p i t) :=
  h.modPrinter.modJob.markPrinter

protected theorem Worked.leaveLists {i : JobIx} {j : Job} (h : Worked s t) : Worked s (leaveLists i j t) := by
  unfold leaveLists
  split
  · exact h.leavePrinter
  · exact h.leaveQueue
  · exact h

protected theorem Worked.releaseHold {p : PrinterId} (h : Worked s t) : Worked s (releaseHold p t) :=
  h.modPrinter.markPrinter.ite h

protected theorem Worked.releaseSaleEnd {j : Job} (h : Worked s t) : Worked s (releaseSaleEnd j t) := by
  unfold releaseSaleEnd
  split
  · exact (h.forEach fun _ _ k => k.releaseHold).ite h
  · exact h

protected theorem Worked.freeRecord {i : JobIx} (h : Worked s t) : Worked s (freeRecord i t) :=
  h.jobs.modPort

protected theorem Worked.takeRecord {i : JobIx} {rest : List JobIx} {j : Job} (h : Worked s t) :
    Worked s (takeRecord i rest j t) := h.jobs

/-! ### Tallies and statements -/

protected theorem Worked.modTally {w : WindowId} {shift : Nat} {f : Tally → Tally} (h : Worked s t) :
    Worked s (modTally w shift f t) := by
  unfold modTally
  refine h.modCurrent.ite ?_
  split
  · split
    · exact h.closing
    · exact h
  · exact h

protected theorem Worked.produceStatement {w : WindowId} {c : PendingCashUp} (h : Worked s t) :
    Worked s (produceStatement w c t) := by
  unfold produceStatement
  split
  · exact h
  · exact h.addReturn.dayTotals.stated

protected theorem Worked.statementIfDue {w : WindowId} (h : Worked s t) : Worked s (statementIfDue w t) := by
  unfold statementIfDue
  split
  · exact h.produceStatement.ite h
  · exact h

protected theorem Worked.shiftOpen {w : WindowId} (h : Worked s t) : Worked s (shiftOpen w t) :=
  h.closing.current

/-! ### The end of a job and its coming back -/

protected theorem Worked.returnJob {i : JobIx} {j : Job} {code : ResultCode} {reason : Nat} (h : Worked s t) :
    Worked s (returnJob i j code reason t) := h.addReturn

protected theorem Worked.lowerOpenJobs {j : Job} (h : Worked s t) : Worked s (lowerOpenJobs j t) := by
  unfold lowerOpenJobs
  split
  · exact h.modTally
  · exact h

protected theorem Worked.statementAfter {j : Job} (h : Worked s t) : Worked s (statementAfter j t) := by
  unfold statementAfter
  split
  · exact h.statementIfDue
  · exact h

protected theorem Worked.finishJob {i : JobIx} {code : ResultCode} {reason : Nat} (h : Worked s t) :
    Worked s (finishJob i code reason t) := by
  unfold finishJob
  split
  · exact h
  · exact h.returnJob.leaveLists.releaseSaleEnd.lowerOpenJobs.statementAfter.freeRecord

protected theorem Worked.finishJobs {code : ResultCode} {reason : Nat} {l : List JobIx} (h : Worked s t) :
    Worked s (finishJobs code reason l t) := h.forEach fun _ _ k => k.finishJob

protected theorem Worked.requeue {order : List JobIx} {p : PrinterId} {w : WindowId} {i : JobIx} (h : Worked s t) :
    Worked s (requeue order p w i t) := h.leavePrinter.modJob.joinFront

protected theorem Worked.sendBack {order : List JobIx} {p : PrinterId} {reason : Nat} {i : JobIx} (h : Worked s t) :
    Worked s (sendBack order p reason i t) := by
  unfold sendBack
  split
  · exact h
  · split
    · exact h.requeue
    · exact h.finishJob

protected theorem Worked.sendBackGranted {order : List JobIx} {p : PrinterId} (h : Worked s t) :
    Worked s (sendBackGranted order p t) := h.forEach fun _ _ k => k.sendBack

/-! ### Stock -/

protected theorem Worked.setMagazine {p : PrinterId} {m : Magazine} (h : Worked s t) : Worked s (setMagazine p m t) :=
  have k : Worked s { t with magazines := put t.magazines p m } := h.magazines
  k.ite k.markPrinter

protected theorem Worked.moveNote {p : PrinterId} {serial : Nat} (h : Worked s t) : Worked s (moveNote p serial t) := by
  unfold moveNote
  dsimp only
  split
  · exact h
  · split
    · exact h.setMagazine.modJob
    · exact h.setMagazine

protected theorem Worked.claimBlank {p : PrinterId} {i : JobIx} (h : Worked s t) : Worked s (claimBlank p i t) := by
  unfold claimBlank
  split
  · exact h
  · exact h.setMagazine.modJob

protected theorem Worked.judgeFlags {k : KindId} (h : Worked s t) : Worked s (judgeFlags k t) :=
  h.kinds.ite h.kinds.markStock

protected theorem Worked.recomputeKind {k : KindId} (h : Worked s t) : Worked s (recomputeKind k t) :=
  (h.kinds.ite h.kinds.markStock).judgeFlags

protected theorem Worked.recomputeOf {p : PrinterId} (h : Worked s t) : Worked s (recomputeOf p t) := h.recomputeKind.ite h

protected theorem Worked.disposeBlank {p : PrinterId} {serial : Nat} {window : Option WindowId} {shift : Nat}
    {cause : SpoilCause} {disposition : Disposition} (h : Worked s t) :
    Worked s (disposeBlank p serial window shift cause disposition t) := 
  Worked.dayTotals (x := countSpoils cause 1 t.dayTotals) (Worked.register (x := addEntry _ t.register) h)

protected theorem Worked.inDoubtBlank {p : PrinterId} {serial : Nat} {token : Byte} {window : Option WindowId} {shift : Nat}
    (h : Worked s t) : Worked s (inDoubtBlank p serial token window shift t) := h.disposeBlank.setMagazine

/-! ### Printers -/

protected theorem Worked.rollRequest {l : LineId} {mask : BitVec 8} (h : Worked s t) : Worked s (rollRequest l mask t) :=
  h.modLine
protected theorem Worked.keepResult {l : LineId} {a : AddressIx} {r : RollResult} (h : Worked s t) :
    Worked s (keepResult l a r t) := h.modLine

protected theorem Worked.leaveSelection {p : PrinterId} (h : Worked s t) : Worked s (leaveSelection p t) :=
  (h.modLine.keepResult.ite h.modLine).ite h

protected theorem Worked.enterState {order : List JobIx} {p : PrinterId} {new : PrinterState} (h : Worked s t) :
    Worked s (enterState order p new t) :=
  (h.modPrinter.markPrinter.releaseHold.sendBackGranted.ite h.modPrinter.markPrinter).recomputeOf

protected theorem Worked.breakReservation {order : List JobIx} {p : PrinterId} (l : List JobIx) :
    ∀ {t : State}, Worked s t → Worked s (breakReservation order p l t) := by
  induction l with
  | nil => exact fun h => h
  | cons i rest ih => exact fun h => h.ite (ih h.sendBack)

protected theorem Worked.magazineChanged {order : List JobIx} {p : PrinterId} (h : Worked s t) :
    Worked s (magazineChanged order p t) :=
  (h.recomputeOf.enterState.ite (h.recomputeOf.breakReservation _)).ite h.recomputeOf

protected theorem Worked.endInDoubt {order : List JobIx} {p : PrinterId} {i : JobIx} (h : Worked s t) :
    Worked s (endInDoubt order p i t) := by
  unfold endInDoubt
  split
  · exact h
  · refine Worked.finishJob ?_
    split
    · refine Worked.modTally ?_
      split
      · exact h.inDoubtBlank.magazineChanged
      · exact h
    · split
      · exact h.inDoubtBlank.magazineChanged
      · exact h

protected theorem Worked.causeEffects {order : List JobIx} {p : PrinterId} {cause : FaultCause} (h : Worked s t) :
    Worked s (causeEffects order p cause t) := by
  unfold causeEffects
  split
  iterate 5 exact h.modLineRecord
  iterate 2 exact h.forEach fun _ _ k => k.endInDoubt
  exact h

protected theorem Worked.raiseFault {order : List JobIx} {p : PrinterId} {f : FaultInfo} (h : Worked s t) :
    Worked s (raiseFault order p f t) := by
  have faulted : ∀ {u : State}, Worked s u →
      Worked s (sendBackGranted order p (enterState order p .faulted (markPrinter p true u))) :=
    fun k => k.markPrinter.enterState.sendBackGranted
  unfold raiseFault
  split
  iterate 2 exact h
  · exact h.modPrinter.markPrinter.causeEffects
  iterate 3 exact ((faulted h.modPrinter).ite (faulted h.modPrinter).leaveSelection).causeEffects

protected theorem Worked.takeCancelled {order : List JobIx} {p : PrinterId} {i : JobIx} (h : Worked s t) :
    Worked s (takeCancelled order p i t) := by
  unfold takeCancelled
  refine Worked.sendBack (Worked.recomputeOf ?_)
  split
  · exact h.setMagazine.moveNote
  · exact h.setMagazine

protected theorem Worked.takePrinted {order : List JobIx} {p : PrinterId} {i : JobIx} {j : Job} (h : Worked s t) :
    Worked s (takePrinted order p i j t) := by
  unfold takePrinted
  extract_lets m base used blank stock tally
  have hb : Worked s blank := by
    unfold blank
    split
    · exact h.setMagazine
    · exact h.disposeBlank.setMagazine
  have ht : Worked s tally := by
    unfold tally
    split
    · exact hb.magazineChanged.modTally
    · exact hb.magazineChanged
  exact ht.finishJob.modPrinter

protected theorem Worked.spoilBlanks {order : List JobIx} {p : PrinterId} {i : JobIx} {j : Job} {k : Nat}
    {cause : SpoilCause} (h : Worked s t) : Worked s (spoilBlanks order p i j k cause t) :=
  (h.forEach fun _ _ k => k.disposeBlank).setMagazine.moveNote.magazineChanged

protected theorem Worked.takeSpoiled {order : List JobIx} {p : PrinterId} {i : JobIx} {j : Job} {flags : BitVec 5}
    {asked : Nat} {cause : SpoilCause} (h : Worked s t) : Worked s (takeSpoiled order p i j flags asked cause t) := by
  unfold takeSpoiled
  extract_lets k token ended blanks job
  have hj : Worked s job := by
    unfold job
    split
    · exact h.spoilBlanks.modTally.modJob.requeue.ite h.spoilBlanks.modTally.finishJob
    · exact h.spoilBlanks.finishJob
  exact hj.modPrinter.raiseFault.modPrinter.ite hj.modPrinter

protected theorem Worked.takeOutcome {order : List JobIx} {p : PrinterId} {flags : BitVec 5} {e : OutcomeEntry} {i : JobIx}
    {j : Job} (h : Worked s t) : Worked s (takeOutcome order p flags e i j t) :=
  h.takeCancelled.ite ((h.takePrinted.ite h.takeSpoiled).ite h.raiseFault)

protected theorem Worked.countStray {p : PrinterId} (h : Worked s t) : Worked s (countStray p t) :=
  h.modLineRecord.ite h.modLineRecord.markPrinter

protected theorem Worked.handleEntry {order : List JobIx} {p : PrinterId} {flags : BitVec 5} {reported : List Byte}
    {e : OutcomeEntry} (h : Worked s t) : Worked s (handleEntry order p flags reported e t) := by
  unfold handleEntry
  refine h.ite (Worked.modLineRecord ?_)
  split
  · split
    · exact h.takeOutcome
    · exact h
  · exact h.countStray

protected theorem Worked.judgeConditionFlags {order : List JobIx} {p : PrinterId} {flags : BitVec 5} (h : Worked s t) :
    Worked s (judgeConditionFlags order p flags t) := (h.forEach fun _ _ k => k.raiseFault).modPrinter

protected theorem Worked.judgeNotReady {order : List JobIx} {p : PrinterId} {flags : BitVec 5} (h : Worked s t) :
    Worked s (judgeNotReady order p flags t) := by
  unfold judgeNotReady
  split
  · exact h
  · exact h.raiseFault.modPrinter

protected theorem Worked.judgeRecovery {order : List JobIx} {p : PrinterId} {flags : BitVec 5} (h : Worked s t) :
    Worked s (judgeRecovery order p flags t) := h.enterState.rollRequest.ite h

protected theorem Worked.impliedCancel {order : List JobIx} {p : PrinterId} {waiting : Nat} (h : Worked s t) :
    Worked s (impliedCancel order p waiting t) := (h.forEach fun _ _ k => k.takeCancelled).ite h

/-! ### Roll calls -/

protected theorem Worked.modRoll {l : LineId} {f : RollCall → RollCall} (h : Worked s t) : Worked s (modRoll l f t) := h.modLine

protected theorem Worked.sendRecall {l : LineId} (h : Worked s t) : Worked s (sendRecall l t) := h.modLine

protected theorem Worked.freeLine {l : LineId} (h : Worked s t) : Worked s (freeLine l t) := h.modLine.sendRecall.ite h.modLine

protected theorem Worked.startRound {l : LineId} (h : Worked s t) : Worked s (startRound l t) := by
  unfold startRound
  split
  iterate 2 exact h.modRoll.sendRecall.ite h.modRoll
  iterate 2 exact h

protected theorem Worked.settleResult {p : PrinterId} {r : RollResult} (h : Worked s t) : Worked s (settleResult p r t) :=
  h.modRoll.keepResult.ite h.modRoll

protected theorem Worked.returnToService {order : List JobIx} {p : PrinterId} (h : Worked s t) :
    Worked s (returnToService order p t) := h.enterState.modPrinter.ite h.enterState.modPrinter.markPrinter

protected theorem Worked.handOver {p : PrinterId} {r : RollResult} (h : Worked s t) : Worked s (handOver p r t) := by
  unfold handOver
  dsimp only
  split
  iterate 2 exact h.returnToService
  iterate 4 exact h.raiseFault
  exact h

protected theorem Worked.applyJudgement {p : PrinterId} {r : RollResult} (h : Worked s t) :
    Worked s (applyJudgement p r t) := by
  unfold applyJudgement
  refine Worked.ite (Worked.recomputeOf (Worked.setMagazine ?_)) h
  split
  · exact h.register
  · exact h

protected theorem Worked.takeSerial {p : PrinterId} {serial kind : Nat} (h : Worked s t) :
    Worked s (takeSerial p serial kind t) := h.applyJudgement.settleResult.handOver.ite h

protected theorem Worked.returnRollSlip {l : LineId} (h : Worked s t) : Worked s (returnRollSlip l t) := by
  unfold returnRollSlip
  split
  · exact h
  · exact h.modLine.addReturn

protected theorem Worked.endRollCall {l : LineId} (h : Worked s t) : Worked s (endRollCall l t) :=
  (h.forEach fun _ _ k => k.settleResult.handOver).returnRollSlip.modRoll

protected theorem Worked.endRound {l : LineId} (h : Worked s t) : Worked s (endRound l t) :=
  (h.endRollCall.ite h.modRoll).freeLine

protected theorem Worked.nextSlot {l : LineId} {slots : BitVec 8} (h : Worked s t) : Worked s (nextSlot l slots t) := by
  unfold nextSlot
  split
  · exact h.modLine
  · exact h.endRound

protected theorem Worked.endSlot {l : LineId} (h : Worked s t) : Worked s (endSlot l t) := by
  unfold endSlot
  split
  · exact h.nextSlot
  · exact h

protected theorem Worked.takeAnswer {l : LineId} {a : AddressIx} {address : Byte} {reply : Reply} (h : Worked s t) :
    Worked s (takeAnswer l a address reply t) := by
  unfold takeAnswer
  refine Worked.endSlot ?_
  split
  · exact h.takeSerial
  · exact h

/-! ### Printer lines -/

protected theorem Worked.sendFrame {l : LineId} {p : PrinterId} {command : CommandKind} {kind : Byte} {payload : List Byte}
    (h : Worked s t) : Worked s (sendFrame l p command kind payload t) := h.modLine

protected theorem Worked.sendPrint {l : LineId} {p : PrinterId} {i : JobIx} (h : Worked s t) : Worked s (sendPrint l p i t) := by
  unfold sendPrint
  split
  · exact h.sendFrame
  · exact h

protected theorem Worked.transmitFirst {l : LineId} {p : PrinterId} {i : JobIx} (h : Worked s t) :
    Worked s (transmitFirst l p i t) := h.claimBlank.modJob.sendPrint.modLineRecord

protected theorem Worked.takeTurn {l : LineId} {p : PrinterId} (h : Worked s t) : Worked s (takeTurn l p t) := by
  unfold takeTurn
  dsimp only
  split
  · exact h.sendFrame
  · exact h.sendPrint
  · exact h.transmitFirst
  · exact h.sendFrame

protected theorem Worked.lineTurn {l : LineId} (h : Worked s t) : Worked s (lineTurn l t) := by
  unfold lineTurn
  refine Worked.ite ?_ h
  split
  · exact h.modLine.takeTurn
  · exact h

protected theorem Worked.keepForRepeat {p : PrinterId} {command : CommandKind} (h : Worked s t) :
    Worked s (keepForRepeat p command t) := by
  unfold keepForRepeat
  split
  · exact h.modLineRecord.ite h
  iterate 2 exact h

protected theorem Worked.exchangeFailed {x : Exchange} (h : Worked s t) : Worked s (exchangeFailed x t) :=
  h.modLineRecord.keepForRepeat.raiseFault.ite h.modLineRecord.keepForRepeat

protected theorem Worked.takeAccept {p : PrinterId} {token : Byte} (h : Worked s t) : Worked s (takeAccept p token t) := by
  unfold takeAccept
  split
  · exact h.modJob.modLineRecord
  · exact h

protected theorem Worked.takeRefuse {p : PrinterId} {token reason : Byte} (h : Worked s t) :
    Worked s (takeRefuse p token reason t) := by
  unfold takeRefuse
  split
  · exact h
  · exact h.modLineRecord.ite (h.modLineRecord.modPrinter.ite h.modLineRecord.raiseFault)

protected theorem Worked.takeStatus {p : PrinterId} {command : CommandKind} {flags : Byte} {waiting : Nat}
    {entries : List OutcomeEntry} (h : Worked s t) : Worked s (takeStatus p command flags waiting entries t) := by
  have noted : ∀ {u : State}, Worked s u → Worked s (noteReported p entries u) := fun k => k.ite k.modLineRecord
  have answered : ∀ {u : State}, Worked s u → Worked s (answerClear p command u) := fun k => k.modLineRecord.ite k
  exact (answered (noted (h.forEach fun _ _ k => k.handleEntry)).judgeConditionFlags.judgeNotReady.impliedCancel).judgeRecovery

protected theorem Worked.takeGoodReply {x : Exchange} {reply : Reply} (h : Worked s t) : Worked s (takeGoodReply x reply t) := by
  unfold takeGoodReply
  dsimp only
  split
  · exact h.modLineRecord.takeStatus
  · exact h.modLineRecord.takeAccept
  · exact h.modLineRecord.takeRefuse
  iterate 2 exact h.modLineRecord

protected theorem Worked.receiveReply {l : LineId} {address : Byte} {reply : Reply} (h : Worked s t) :
    Worked s (receiveReply l address reply t) := by
  unfold receiveReply
  split
  · unfold endExchange
    refine Worked.freeLine (h.ite ?_)
    split
    · exact h.takeGoodReply
    · exact h.exchangeFailed
  · exact h.takeAnswer
  iterate 3 exact h

protected theorem Worked.receiveNothing {l : LineId} (h : Worked s t) : Worked s (receiveNothing l t) := by
  unfold receiveNothing
  split
  · exact (h.ite h.exchangeFailed).freeLine
  · exact h.endSlot
  iterate 3 exact h

protected theorem Worked.receiveRaw {l : LineId} {bytes : List Byte} (h : Worked s t) : Worked s (receiveRaw l bytes t) := by
  unfold receiveRaw
  split
  · exact h
  · exact h.receiveNothing
  · split
    · exact h.receiveReply
    · exact h.receiveNothing

protected theorem Worked.commandFrameEnd {l : LineId} (h : Worked s t) : Worked s (commandFrameEnd l t) := by
  unfold commandFrameEnd
  split
  · exact h.modLine
  · exact h.nextSlot
  iterate 3 exact h

/-! ### Slips -/

protected theorem Worked.refuseField {n : SlipId} {tag : Word} {offset : Nat} {area : List Byte} (h : Worked s t) :
    Worked s (refuseField n tag offset area t) := h.addReturn

protected theorem Worked.issueWork {tag : Word} {r : IssueRequest} {n : SlipId} (h : Worked s t) :
    Worked s (issueWork tag r n t) := by
  unfold issueWork
  split
  · exact h.refuseField
  · split
    · split
      · exact h.addReturn
      · unfold acceptJob
        split
        · exact h.takeRecord.modCurrent.joinTail
        · exact h
    · exact h

protected theorem Worked.testPrintWork {tag : Word} {r : TestPrintRequest} {n : SlipId} (h : Worked s t) :
    Worked s (testPrintWork tag r n t) := by
  unfold testPrintWork
  split
  · exact h.refuseField
  · exact h
  · refine h.addReturn.ite (h.addReturn.ite ?_)
    unfold acceptTest
    split
    · exact h.takeRecord.joinPrinter
    · exact h

protected theorem Worked.voidWork {tag : Word} {window : Byte} {sale : BitVec 16} {n : SlipId} (h : Worked s t) :
    Worked s (voidWork tag window sale n t) := by
  unfold voidWork
  split
  · exact h.refuseField
  · exact h.finishJobs.addReturn

protected theorem Worked.refundWork {tag : Word} {r : RefundRequest} {n : SlipId} (h : Worked s t) :
    Worked s (refundWork tag r n t) := by
  unfold refundWork
  split
  · exact h.refuseField
  · exact h.modCurrent.addReturn
  · exact h

protected theorem Worked.readTallyWork {tag : Word} {window : Byte} {n : SlipId} (h : Worked s t) :
    Worked s (readTallyWork tag window n t) := by
  unfold readTallyWork
  split
  · exact h.refuseField
  · exact h.addReturn

protected theorem Worked.awaitStatement {w : WindowId} {c : PendingCashUp} (h : Worked s t) :
    Worked s (awaitStatement w c t) := by
  unfold awaitStatement
  split
  · next c hc =>
    split
    · exact h.awaits (by simp [hc])
    · exact h.produceStatement
  · exact h

/-- The count of R158 changes the CLOSING tally of a window that has one. -/
protected theorem Worked.countClosing {w : WindowId} (h : Worked s t) : Worked s (countClosing w t) := by
  unfold countClosing upd
  cases hc : t.closing[w] with
  | none =>
    have same : put t.closing w none = t.closing := hc ▸ put_self t.closing w
    simpa only [Option.map_none, same] using h
  | some c => exact h.closing

protected theorem Worked.closeShift {w : WindowId} {withdraw : Bool} {c : PendingCashUp} (h : Worked s t) :
    Worked s (closeShift w withdraw c t) := by
  have counted : Worked s (countClosing w (shiftOpen w t)) := h.shiftOpen.countClosing
  exact (counted.finishJobs.ite counted).awaitStatement

protected theorem Worked.cashUpWork {tag : Word} {r : CashUpRequest} {n : SlipId} (h : Worked s t) :
    Worked s (cashUpWork tag r n t) := by
  unfold cashUpWork
  split
  · exact h.refuseField
  · dsimp only
    split
    · exact h.addReturn.ite h.produceStatement
    · exact h.closeShift
  · exact h

protected theorem Worked.endOfDayWork {tag : Word} {n : SlipId} (h : Worked s t) : Worked s (endOfDayWork tag n t) := by
  unfold endOfDayWork
  split
  · exact h.addReturn
  · exact h.addReturn.dayTotals.settings.time.register

protected theorem Worked.replaceMagazine {p : PrinterId} {m : Magazine} (h : Worked s t) : Worked s (replaceMagazine p m t) :=
  (h.setMagazine.recomputeKind.ite h.setMagazine).recomputeKind.ite (h.setMagazine.recomputeKind.ite h.setMagazine)

protected theorem Worked.loadStockWork {tag : Word} {r : LoadStockRequest} {n : SlipId} (h : Worked s t) :
    Worked s (loadStockWork tag r n t) := by
  unfold loadStockWork
  split
  · exact h.refuseField
  · exact h.addReturn.ite (h.addReturn.ite
      (h.replaceMagazine.enterState.rollRequest.ite h.replaceMagazine).addReturn)
  · exact h

protected theorem Worked.unloadStockWork {tag : Word} {printer : Byte} {n : SlipId} (h : Worked s t) :
    Worked s (unloadStockWork tag printer n t) := by
  unfold unloadStockWork
  split
  · exact h.refuseField
  · exact h.addReturn.ite (h.addReturn.ite h.replaceMagazine.addReturn)

protected theorem Worked.readSpoilsWork {tag : Word} {index : BitVec 16} {n : SlipId} (h : Worked s t) :
    Worked s (readSpoilsWork tag index n t) := h.refuseField.ite h.addReturn

protected theorem Worked.setStockKindWork {tag : Word} {kind : Byte} {lowMark band : BitVec 16} {n : SlipId}
    (h : Worked s t) : Worked s (setStockKindWork tag kind lowMark band n t) := by
  unfold setStockKindWork
  split
  · exact h.refuseField
  · exact h.kinds.markStock.judgeFlags.addReturn
  · exact h

protected theorem Worked.rollCallWork {tag : Word} {line mask : Byte} {n : SlipId} (h : Worked s t) :
    Worked s (rollCallWork tag line mask n t) := by
  unfold rollCallWork
  split
  · exact h.refuseField
  · exact h.addReturn.ite (h.addReturn.ite h.modLine.rollRequest)
  · exact h

protected theorem Worked.serviceAction {p : PrinterId} {action : Byte} (h : Worked s t) :
    Worked s (serviceAction p action t).2 := by
  have left : Worked s (leaveService p t) :=
    have l : Worked s (modLineRecord p (fun r => { r with clearRequest := false })
      (modPrinter p (fun x => { x with notReady := none }) (leaveSelection p (enterState [] p .offline t)))) :=
      h.enterState.leaveSelection.modPrinter.modLineRecord
    l.modPrinter.markPrinter.ite l
  unfold serviceAction
  dsimp only
  split
  · split
    · exact h.enterState.rollRequest
    · exact h
  · split
    · split
      iterate 3
        · split
          · exact left
          · exact h
      iterate 3 exact h
    · split
      · exact h.modPrinter.markPrinter.ite h
      · exact h

protected theorem Worked.printerServiceWork {tag : Word} {printer action : Byte} {n : SlipId} (h : Worked s t) :
    Worked s (printerServiceWork tag printer action n t) := by
  unfold printerServiceWork
  split
  · exact h.refuseField
  · exact h.serviceAction.addReturn.ite h.refuseField

protected theorem Worked.setOfficeWork {tag : Word} {r : OfficeRequest} {n : SlipId} (h : Worked s t) :
    Worked s (setOfficeWork tag r n t) := by
  unfold setOfficeWork
  split
  · exact h.refuseField
  · exact h.settings.addReturn

protected theorem Worked.setWindowWork {tag : Word} {r : WindowRequest} {n : SlipId} (h : Worked s t) :
    Worked s (setWindowWork tag r n t) := by
  have written : ∀ w f, Worked s (modWindow w f t) := fun _ _ => h.windows
  unfold setWindowWork
  split
  · exact h.refuseField
  · exact ((written _ _).ite ((written _ _).forEach fun _ _ k => k.releaseHold)).addReturn
  · exact h

protected theorem Worked.setRouteWork {tag : Word} {r : RouteRequest} {n : SlipId} (h : Worked s t) :
    Worked s (setRouteWork tag r n t) := by
  unfold setRouteWork
  split
  · exact h.refuseField
  · exact h.routes.addReturn
  · exact h

protected theorem Worked.writePrinter {p : PrinterId} {configured : Bool} {group : GroupId} (h : Worked s t) :
    Worked s (writePrinter p configured group t) := by
  unfold writePrinter
  dsimp only
  split
  · exact h.modPrinter.enterState.modLineRecord
  · exact h.modPrinter.enterState.modLineRecord.leaveSelection.modLine
  · exact h.modPrinter

protected theorem Worked.setPrinterWork {tag : Word} {printer configured group : Byte} {n : SlipId} (h : Worked s t) :
    Worked s (setPrinterWork tag printer configured group n t) := by
  unfold setPrinterWork
  split
  · exact h.refuseField
  · exact h.writePrinter.addReturn.ite h.addReturn
  · exact h

protected theorem Worked.setLineWork {tag : Word} {line rate window limit : Byte} {n : SlipId} (h : Worked s t) :
    Worked s (setLineWork tag line rate window limit n t) := by
  unfold setLineWork
  split
  · exact h.refuseField
  · exact (h.lineConfigs.forEach fun _ _ k => k.modLineRecord).addReturn.ite h.addReturn
  · exact h

/-! ### The sweep's blocks -/

protected theorem Worked.ageWindow {w : WindowId} (h : Worked s t) : Worked s (ageWindow w t) := by
  unfold ageWindow
  split
  · exact h
  · split
    · exact h
    · exact h.modJob.ite ((h.modJob.ite h.finishJob).ite h.modJob)

protected theorem Worked.watchOutcomes {p : PrinterId} (h : Worked s t) : Worked s (watchOutcomes p t) := by
  have waits : ∀ f, Worked s (forEach (flightList t p) (fun i => modJob i f) t) := fun _ => h.forEach fun _ _ k => k.modJob
  unfold watchOutcomes
  dsimp only
  split
  · exact waits _
  · exact (waits _).raiseFault

protected theorem Worked.watchHold {p : PrinterId} (h : Worked s t) : Worked s (watchHold p t) := by
  unfold watchHold
  split
  · exact h
  · exact (h.releaseHold.ite h.modPrinter).ite h.modPrinter

protected theorem Worked.blockWork {windows : List WindowId} {printers : List PrinterId} {block : Fin 4} (h : Worked s t) :
    Worked s (blockWork windows printers block t) := by
  unfold blockWork
  split
  · exact h.forEach fun _ _ k => k.ageWindow
  · exact h.forEach fun _ _ k => k.watchOutcomes.watchHold
  · exact h.forEach fun _ _ k => k.startRound
  · exact h.markHeader

protected theorem Worked.allowanceReload (h : Worked s t) : Worked s (allowanceReload t) :=
  h.express.time.ite h

protected theorem Worked.sweepEvent {blocks windows printers : List Nat} (h : Worked s t) :
    Worked s (sweepEvent blocks windows printers t) :=
  h.time.allowanceReload.time.forEach fun _ _ k => k.blockWork

protected theorem Worked.tickSweep (h : Worked s t) : Worked s (tickSweep t) :=
  (h.sweepEvent.allowanceReload.ite h.time).ite h

/-! ### Grants -/

protected theorem Worked.grantTo {w : WindowId} {ring : State → State} (h : Worked s t)
    (hr : ∀ {u}, Worked s u → Worked s (ring u)) : Worked s (grantTo w ring t) := by
  unfold grantTo
  split
  · exact h
  · split
    · exact h
    · split
      · exact h
      · unfold moveToPrinter setHold
        split
        · exact hr h.leaveQueue.joinPrinter.modPrinter
        · exact hr h.leaveQueue.joinPrinter

protected theorem Worked.grantOnce {g : GroupId} (h : Worked s t) : Worked s (grantOnce g t) := by
  unfold grantOnce
  split
  · exact h.grantTo fun k => k.arbiters.express
  · split
    · exact h.grantTo fun k => k.arbiters.arbiters.ite k.arbiters
    · exact h

protected theorem Worked.actRepeatedly {g : GroupId} (fuel : Nat) :
    ∀ {t : State}, Worked s t → Worked s (actRepeatedly g fuel t) := by
  induction fuel with
  | zero => exact fun h => h
  | succ fuel ih => exact fun h => (ih (h.forEach fun _ _ k => k.releaseHold).grantOnce).ite h

/-! ### Register writes and the engine -/

protected theorem Worked.writeXbase {value : Word} (h : Worked s t) : Worked s (writeXbase value t) := h.port.ite h

protected theorem Worked.writePost {value : Word} (h : Worked s t) : Worked s (writePost value t) := by
  have refused : ∀ why, Worked s (refusePost value why t) := fun _ => h.port.port
  unfold writePost
  split
  · exact (refused _).ite ((refused _).ite h.port)
  · exact refused _

protected theorem Worked.runCommand (h : Worked s t) : Worked s (runCommand t) := by
  unfold runCommand
  split
  · exact h.ite h.office.time.port
  · exact h
  iterate 2 exact h.office

protected theorem Worked.holdCommand (h : Worked s t) : Worked s (holdCommand t) := h.allowanceReload.office.ite h

protected theorem Worked.startRetry {f : FailedAccess} (h : Worked s t) : Worked s (startRetry f t) := by
  cases f with
  | fetch n => exact h.port
  | returning =>
    unfold startRetry startReturn
    dsimp only
    split
    · exact h.port
    · exact h
  | header => exact h.port.port
  | printerEntry p => exact h.port.port
  | stockEntry k => exact h.port.port

protected theorem Worked.startFirstWaiting (h : Worked s t) : Worked s (startFirstWaiting t) := by
  unfold startFirstWaiting
  split
  · exact h.startRetry
  · refine (h.startRetry (f := .returning)).ite ?_
    split
    · next u hu =>
      unfold startTableWrite at hu
      split at hu <;> cases hu
      iterate 2 exact h.port.port
    · refine h.port.port.ite ?_
      unfold startFetch
      split
      · exact h.port
      · exact h

protected theorem Worked.exchangeFault {a : Access} (h : Worked s t) : Worked s (exchangeFault a t) := by
  have faulted := h.port (x := { t.port with engine := none, failed := some (failureOf a) })
  cases a with
  | header content => exact faulted.office.port.port
  | printerEntry p content cause => exact faulted.office.port.port
  | stockEntry k content cause => exact faulted.office.port.port
  | fetch n => exact faulted.office.port
  | returnFields e => exact faulted.office.port
  | returnMap e => exact faulted.office.port


end

end Sys2Proof.Machine
end

section
/-! PROOF. What every step keeps of the office and of the Retained Store (R24, R29, R58, R155, R167; Table 2-4). -/

namespace Sys2Proof.Machine

/-! ### What an event carries over before its check words are rewritten -/

/-- The fields the laws of the office speak of. -/
structure OfficeView where
  office : OfficeState
  lamp : Bool
  settings : OfficeSettings
  reloadDue : Bool

/-- Those fields of a state. -/
def officeView (s : State) : OfficeView :=
  { office := s.office, lamp := s.lamp, settings := s.settings, reloadDue := s.time.reloadDue }

theorem officeView_of_still {s t : State} (h : still t = still s) : officeView t = officeView s := by
  have time : t.time = s.time := congrArg Still.time h
  have office : t.office = s.office := congrArg Still.office h
  have lamp : t.lamp = s.lamp := congrArg Still.lamp h
  have settings : t.settings = s.settings := congrArg Still.settings h
  simp only [officeView, time, office, lamp, settings]

/-- The kind of a start in progress: whether cold, and whether it will set RLOST. -/
def startKind (s : State) : Option (Bool × Bool) := s.start.map fun st => (st.cold, st.lost)

theorem startKind_eq_none (s : State) : startKind s = none ↔ s.start = none := by simp [startKind]

/-- What the work of an event, outside power and the beginning and end of a start, carries over from the state it finds:
each law of the office, the start in progress, the check words, and R155's condition on pending cash-ups. -/
structure Carried (s t : State) : Prop where
  lamp : LampLaw s → LampLaw t
  settings : SettingsLaw s → SettingsLaw t
  reload : ReloadLaw s → ReloadLaw t
  ticking : ticking t = ticking s
  start : startKind t = startKind s
  words : t.checkWords = s.checkWords
  cashUps : CashUpsClosing s → CashUpsClosing t

theorem Worked.ticking {s t : State} (h : Worked s t) : ticking t = ticking s := by
  induction h <;> first | rfl | assumption

section
variable {s t u : State}

theorem Carried.refl (s : State) : Carried s s := ⟨id, id, id, rfl, rfl, rfl, id⟩

theorem Carried.trans (h : Carried s t) (k : Carried t u) : Carried s u :=
  ⟨k.lamp ∘ h.lamp, k.settings ∘ h.settings, k.reload ∘ h.reload, k.ticking.trans h.ticking, k.start.trans h.start,
    k.words.trans h.words, k.cashUps ∘ h.cashUps⟩

protected theorem Carried.ite {c : Prop} [Decidable c] (h : Carried s t) (k : Carried s u) :
    Carried s (if c then t else u) := by split <;> assumption

/-- Work that carries the three laws of the office. -/
theorem Worked.carried (w : Worked s t) (lamp : LampLaw s → LampLaw t) (settings : SettingsLaw s → SettingsLaw t)
    (reload : ReloadLaw s → ReloadLaw t) : Carried s t :=
  ⟨lamp, settings, reload, w.ticking, congrArg (Option.map _) w.start, w.checkWords, w.cashUpsClosing⟩

/-- Work that leaves alone the fields those laws speak of. -/
theorem Worked.carried_of_view (w : Worked s t) (hv : officeView t = officeView s) : Carried s t := by
  have office : t.office = s.office := congrArg OfficeView.office hv
  have lamp : t.lamp = s.lamp := congrArg OfficeView.lamp hv
  have settings : t.settings = s.settings := congrArg OfficeView.settings hv
  have due : t.time.reloadDue = s.time.reloadDue := congrArg OfficeView.reloadDue hv
  refine w.carried (fun h => ?_) (fun h => ?_) fun h => ?_
  · unfold LampLaw
    rwa [office, lamp]
  · unfold SettingsLaw
    rwa [settings]
  · unfold ReloadLaw
    rwa [office, due]

/-- Work on jobs, printers, lines, stock and tallies. -/
theorem Worked.carried_of_still (w : Worked s t) (h : still t = still s) : Carried s t :=
  w.carried_of_view (officeView_of_still h)

/-! ### The office states and the Time Base -/

/-- An entry to RUNNING, HOLD or EXCHANGE_FAULT, whose lamp is lit (R24). -/
theorem carried_enterOffice {o : OfficeState} (lit : o ≠ .standby)
    (reload : s.time.reloadDue = true → o = .running ∨ o = .exchangeFault) : Carried s (enterOffice o s) := by
  have lamp : (enterOffice o s).lamp = true := by
    cases o with
    | standby => exact absurd rfl lit
    | _ => rfl
  refine Worked.carried (Worked.refl.office) (fun _ => ⟨fun h => absurd h lit, fun _ => lamp⟩) id fun _ => reload

theorem carried_allowanceReload (s : State) : Carried s (allowanceReload s) := by
  cases hg : granting s with
  | false =>
    rw [allowanceReload_not_granting hg]
    exact .refl s
  | true =>
    refine Worked.refl.allowanceReload.carried ?_ ?_ ?_ <;> rw [allowanceReload_granting hg]
    · exact id
    · exact id
    · exact fun _ h => nomatch h

theorem carried_runCommand (s : State) : Carried s (runCommand s) := by
  have runs : Carried s (enterOffice .running s) := carried_enterOffice (by decide) fun _ => .inl rfl
  unfold runCommand
  split
  · exact (Carried.refl s).ite (runs.trans (Worked.refl.time.port.carried_of_view rfl))
  · exact .refl s
  · exact runs
  · exact runs

/-- HOLD makes a reload left due before it leaves RUNNING, so that none is left in HOLD (R29; log 20). -/
theorem carried_holdCommand (s : State) : Carried s (holdCommand s) := by
  unfold holdCommand
  split
  · next ho =>
    refine (carried_allowanceReload s).trans (carried_enterOffice (by decide) fun due => ?_)
    rw [allowanceReload_granting ((granting_iff s).mpr (.inl ho))] at due
    exact nomatch due
  · exact .refl s

theorem carried_exchangeFault (a : Access) (s : State) : Carried s (exchangeFault a s) := by
  refine Worked.refl.exchangeFault.carried (fun _ => ?_) ?_ ?_ <;> rw [exchangeFault_eq]
  · exact ⟨fun h => (nomatch h), fun _ => rfl⟩
  · exact id
  · exact fun _ _ => .inr rfl

/-- Changes of the clock and the start count keep every setting in its range. -/
theorem settingsLaw_of_clock {clock count : Word} (ht : t.settings = { s.settings with clock := clock, startCount := count })
    (h : SettingsLaw s) : SettingsLaw t := by
  unfold SettingsLaw
  rwa [ht]

theorem carried_clockAdvance (s : State) : Carried s (clockAdvance s) := by
  rw [clockAdvance_eq]
  refine ⟨fun h => ⟨fun ho => ?_, fun ho => ?_⟩, settingsLaw_of_clock rfl, id, rfl, ?_, rfl, id⟩
  · have office : s.office = .standby := ho
    simpa [office] using h.1 office
  · have office : s.office = .running := ho
    simpa [office] using h.2 office
  · cases hs : s.start with
    | none => simp [startKind, hs]
    | some st => cases hc : st.cold <;> simp [startKind, hs, hc]

theorem carried_tickClock (s : State) : Carried s (tickClock s) :=
  (carried_clockAdvance s).ite (Worked.refl.time.carried_of_view rfl)

/-- A sweep leaves its own reload due, which it does where reloads occur alone (R29). -/
theorem carried_sweepEvent {blocks windows printers : List Nat} (hg : granting s = true) :
    Carried s (sweepEvent blocks windows printers s) := by
  have hs := sweepEvent_still blocks windows printers s
  rw [sweepCounted_granting hg] at hs
  have office : (sweepEvent blocks windows printers s).office = s.office := congrArg Still.office hs
  have lamp : (sweepEvent blocks windows printers s).lamp = s.lamp := congrArg Still.lamp hs
  have settings : (sweepEvent blocks windows printers s).settings = s.settings := congrArg Still.settings hs
  refine Worked.refl.sweepEvent.carried (fun h => ?_) (fun h => ?_) fun _ _ => ?_
  · unfold LampLaw
    rwa [office, lamp]
  · unfold SettingsLaw
    rwa [settings]
  · rw [office]
    exact (granting_iff s).mp hg

theorem carried_tickSweep (s : State) : Carried s (tickSweep s) := by
  unfold tickSweep
  split
  · next h =>
    have hg := (Bool.and_eq_true_iff.mp h).2
    exact ((carried_sweepEvent hg).trans (carried_allowanceReload _)).ite (Worked.refl.time.carried_of_view rfl)
  · exact .refl s

theorem carried_tickWork (s : State) : Carried s (tickWork s) :=
  tickWork_cases (Carried s)
    (((carried_allowanceReload s).trans (carried_tickClock _)).trans (carried_tickSweep _))
    (((carried_allowanceReload s).trans (carried_tickSweep _)).trans (carried_tickClock _))

/-! ### Slips -/

theorem carried_takeSlip (s : State) : Carried s (takeSlip s) := Worked.refl.modPort.modPort.carried_of_view rfl

/-- A SET OFFICE whose fields pass the tests leaves settings in range (R30, Table 2-4). -/
theorem settingsLaw_writeOffice {r : OfficeRequest} (h : officeBad r = none) (s : State) :
    SettingsLaw (writeOffice r s) := by
  have tests := (officeBad_eq r).symm.trans h
  have period : r.sweepPeriod.toNat ≤ 255 := by have := r.sweepPeriod.isLt; omega
  split_ifs at tests with step fare tolerance interval reprints run
  refine ⟨step, Nat.not_lt.mp fare, Nat.not_lt.mp tolerance, period, ?_, Nat.not_lt.mp reprints, ?_⟩
  · show 1 ≤ r.interval.toNat ∧ r.interval.toNat ≤ 16
    omega
  · show 2 ≤ r.spoilRunLimit.toNat ∧ r.spoilRunLimit.toNat ≤ 9
    omega

theorem carried_setOfficeWork {tag : Word} {r : OfficeRequest} {n : SlipId} : Carried s (setOfficeWork tag r n s) := by
  cases hb : officeBad r with
  | some offset =>
    have refused : setOfficeWork tag r n s = refuseField n tag offset (settingsBytes s.settings) s := by
      unfold setOfficeWork
      rw [hb]
    rw [refused]
    exact Worked.refl.refuseField.carried_of_view rfl
  | none =>
    have taken : setOfficeWork tag r n s =
        addReturn n tag .done 0#32 (settingsBytes (writeOffice r s).settings) (writeOffice r s) := by
      unfold setOfficeWork
      rw [hb]
    rw [taken]
    exact Worked.refl.settings.addReturn.carried id (fun _ => settingsLaw_writeOffice hb s) id

theorem officeView_addReturn (n : SlipId) (tag : Word) (code : ResultCode) (detail : Word) (area : List Byte) (s : State) :
    officeView (addReturn n tag code detail area s) = officeView s := rfl

theorem officeView_refuseField (n : SlipId) (tag : Word) (offset : Nat) (area : List Byte) (s : State) :
    officeView (refuseField n tag offset area s) = officeView s := rfl

theorem officeView_writeWindow (w : WindowId) (r : WindowRecord) (s : State) :
    officeView (writeWindow w r s) = officeView s := by
  unfold writeWindow
  dsimp only
  split
  · rfl
  · exact (officeView_of_still (forEach_still _ _ releaseHold_still _)).trans rfl

theorem carried_setWindowWork {tag : Word} {r : WindowRequest} {n : SlipId} : Carried s (setWindowWork tag r n s) := by
  refine Worked.refl.setWindowWork.carried_of_view ?_
  unfold setWindowWork
  split
  · rw [officeView_refuseField]
  · dsimp only
    rw [officeView_addReturn, officeView_writeWindow]
  · rfl

theorem carried_setRouteWork {tag : Word} {r : RouteRequest} {n : SlipId} : Carried s (setRouteWork tag r n s) := by
  refine Worked.refl.setRouteWork.carried_of_view ?_
  unfold setRouteWork
  split
  · rw [officeView_refuseField]
  · dsimp only
    rw [officeView_addReturn]
    rfl
  · rfl

theorem officeView_writeLine (l : LineId) (c : LineConfig) (s : State) :
    officeView (writeLine l c s) = officeView s :=
  (officeView_of_still (forEach_still _ _ (fun p => modLineRecord_still p _) _)).trans rfl

theorem carried_setLineWork {tag : Word} {line rate window limit : Byte} {n : SlipId} :
    Carried s (setLineWork tag line rate window limit n s) := by
  refine Worked.refl.setLineWork.carried_of_view ?_
  unfold setLineWork
  split
  · rw [officeView_refuseField]
  · dsimp only
    split
    · rw [officeView_addReturn, officeView_writeLine]
    · rw [officeView_addReturn]
  · rfl

theorem closeDay_office (tag : Word) (n : SlipId) (s : State) : (closeDay tag n s).office = s.office := by unfold closeDay; rfl
theorem closeDay_lamp (tag : Word) (n : SlipId) (s : State) : (closeDay tag n s).lamp = s.lamp := by unfold closeDay; rfl
theorem closeDay_time (tag : Word) (n : SlipId) (s : State) :
    (closeDay tag n s).time = { s.time with divider := 0 } := by unfold closeDay; rfl
theorem closeDay_settings (tag : Word) (n : SlipId) (s : State) :
    (closeDay tag n s).settings = { s.settings with clock := 0#32 } := by unfold closeDay; rfl

theorem carried_endOfDayWork {tag : Word} {n : SlipId} : Carried s (endOfDayWork tag n s) := by
  have work : Worked s (endOfDayWork tag n s) := Worked.refl.endOfDayWork
  unfold endOfDayWork at work ⊢
  split
  · exact Worked.refl.addReturn.carried_of_view (officeView_addReturn ..)
  · next hn =>
    rw [hn] at work
    refine work.carried (fun h => ?_) (settingsLaw_of_clock (closeDay_settings tag n s)) fun h => ?_
    · unfold LampLaw
      rwa [closeDay_office, closeDay_lamp]
    · unfold ReloadLaw
      rwa [closeDay_office, closeDay_time]

theorem printerServiceWork_still (tag : Word) (printer action : Byte) (n : SlipId) (s : State) :
    still (printerServiceWork tag printer action n s) = still s := by
  have served : ∀ p, still (serviceAction p action s).2 = still s := by
    intro p
    unfold serviceAction
    dsimp only
    split
    · split <;> simp
    · split
      · split <;> (try split) <;> simp
      · split <;> simp
  unfold printerServiceWork
  split
  · rfl
  · dsimp only
    split
    · rw [addReturn_still, served]
    · rw [refuseField_still]

end

/-! ### A whole step -/

/-- R58 and R167: each record and its check word stand as they stood, or the word agrees with the record. -/
def WordsKept (s t : State) : Prop := ∀ i : Fin 189,
  (contentOf t (recordAt i) = contentOf s (recordAt i) ∧ t.checkWords[i] = s.checkWords[i]) ∨
    t.checkWords[i] = checkOf t (recordAt i)

/-- What a whole step keeps. -/
structure StepKeeps (s t : State) : Prop where
  lamp : LampLaw s → LampLaw t
  settings : SettingsLaw s → SettingsLaw t
  reload : ReloadLaw s → ReloadLaw t
  cashUp : CashUpLaw s → CashUpLaw t
  store : StoreLaw s → StoreLaw t
  words : WordsKept s t

section
variable {s t u : State}

theorem wordsKept_rewriteChecks (h : u.checkWords = s.checkWords) : WordsKept s (rewriteChecks s u) := by
  intro i
  rw [rewriteChecks_word]
  split
  · next same => exact .inl ⟨(contentOf_rewriteChecks ..).trans same, by rw [h]⟩
  · exact .inr (by simp only [checkOf, contentOf_rewriteChecks])

theorem wordsKept_sealStore : WordsKept s (sealStore u) :=
  fun i => .inr (by rw [sealStore_word]; simp only [checkOf, contentOf_sealStore])

/-- Contents and check words unchanged. -/
theorem wordsKept_of_same (hc : ∀ r, contentOf t r = contentOf s r) (hw : t.checkWords = s.checkWords) :
    WordsKept s t := fun i => .inl ⟨hc _, by rw [hw]⟩

theorem WordsKept.storeValid (h : WordsKept s t) (hs : storeValid s = true) : storeValid t = true := by
  rw [storeValid_iff] at hs ⊢
  intro i
  rcases h i with ⟨content, word⟩ | word
  · rw [word, hs i]
    simp only [checkOf, content]
  · exact word

/-- The store's law through the kind of the start in progress. -/
theorem storeLaw_iff (s : State) : StoreLaw s ↔
    (∀ k, startKind s = some k → k.2 = true → k.1 = true) ∧
      (ticking s = true → (∀ k, startKind s = some k → k.2 = false) → storeValid s = true) := by
  unfold StoreLaw startKind
  cases s.start with
  | none => simp
  | some st => simp

theorem StepKeeps.refl (s : State) : StepKeeps s s :=
  ⟨id, id, id, id, id, wordsKept_of_same (fun _ => rfl) rfl⟩

/-- The work of an event with its check words rewritten at the end (R167). -/
theorem Carried.stepKeeps (h : Carried s u) (pending : s.start ≠ none → u.cashUps = s.cashUps) :
    StepKeeps s (rewriteChecks s u) := by
  have words := wordsKept_rewriteChecks h.words
  have start : u.start = none ↔ s.start = none := by rw [← startKind_eq_none, h.start, startKind_eq_none]
  refine ⟨h.lamp, h.settings, h.reload, fun law w hw => ?_, fun law => ?_, words⟩
  · have closing : CashUpsClosing s := fun v hv => (law v hv).2
    refine ⟨?_, h.cashUps closing w hw⟩
    by_contra hs
    have hs' : s.start ≠ none := fun e => hs (start.mpr e)
    have hp : s.cashUps[w] ≠ none := by rwa [← pending hs']
    exact hs' (law w hp).1
  · rw [storeLaw_iff] at law ⊢
    have kind : startKind (rewriteChecks s u) = startKind s := h.start
    have tick : Machine.ticking (rewriteChecks s u) = Machine.ticking s := h.ticking
    rw [kind, tick]
    exact ⟨law.1, fun ht hl => words.storeValid (law.2 ht hl)⟩

theorem stepKeeps_whenLive {f : State → State} (h : whenLive s f = .next t) (hf : Carried s (f s)) : StepKeeps s t := by
  rw [whenLive_eq_next] at h
  subst h
  split
  · next hl => exact hf.stepKeeps fun hs => absurd ((live_iff s).mp hl).2 hs
  · exact .refl s

/-- Work gated by a test of the state. -/
theorem stepKeeps_whenLive_ite {c : State → Bool} {f : State → State}
    (h : whenLive s (fun u => if c u then f u else u) = .next t) (hf : Carried s (f s)) : StepKeeps s t :=
  stepKeeps_whenLive h (hf.ite (.refl s))

theorem stepKeeps_handOn {work : SlipId → State → State} (h : handOn work s = .next t)
    (hw : ∀ {n : SlipId} {u : State}, Carried u (work n u)) : StepKeeps s t := by
  refine stepKeeps_whenLive h ?_
  split
  · exact (carried_takeSlip s).trans hw
  · exact .refl s

theorem stepKeeps_handOnForRecord {work : SlipId → State → State} (h : handOnForRecord work s = .next t)
    (hw : ∀ {n : SlipId} {u : State}, Carried u (work n u)) : StepKeeps s t := by
  refine stepKeeps_whenLive h ?_
  split
  · exact (Worked.refl.modPort.modPort.carried_of_view rfl).ite ((carried_takeSlip s).trans hw)
  · exact .refl s

/-- Slips whose work leaves the office alone. -/
theorem stepKeeps_slip {work : SlipId → State → State} (h : handOn work s = .next t)
    (hw : ∀ {n : SlipId} {u : State}, Worked u (work n u)) (hs : ∀ n u, still (work n u) = still u) : StepKeeps s t :=
  stepKeeps_handOn h (hw.carried_of_still (hs _ _))

/-! ### Power and starts -/

theorem contentOf_clearVolatile (attn : BitVec 7) (s : State) (r : RetainedRecord) :
    contentOf (clearVolatile attn s) r = contentOf s r := by
  refine contentOf_congr s (clearVolatile attn s) rfl rfl (fun p => ?_) rfl rfl rfl rfl rfl rfl rfl rfl r
  simp [clearVolatile, printerAfterStart]

/-- No cash-up is pending once the volatile state is cleared (R171). -/
theorem clearVolatile_cashUps (attn : BitVec 7) (s : State) (w : WindowId) :
    (clearVolatile attn s).cashUps[w] = none := by
  simp [clearVolatile]

/-- A start begins: cold where it will set RLOST, and where it will not, the store valid or the law of the state before. -/
theorem stepKeeps_beginStart {cold lost : Bool} (hc : lost = true → cold = true) (hu : ∀ r, contentOf u r = contentOf s r)
    (hw : u.checkWords = s.checkWords) (ho : u.settings = s.settings)
    (valid : StoreLaw s → lost = false → storeValid s = true) : StepKeeps s (beginStart cold lost u) := by
  have words : WordsKept s (beginStart cold lost u) :=
    wordsKept_of_same (fun r => (contentOf_beginStart cold lost u r).trans (hu r)) hw
  refine ⟨fun _ => ⟨fun _ => rfl, fun h => (nomatch h)⟩, fun h => ?_, fun _ h => (nomatch h),
    fun _ w hn => absurd (clearVolatile_cashUps 0#7 u w) hn, fun law => ?_, words⟩
  · unfold SettingsLaw
    rwa [show (beginStart cold lost u).settings = s.settings from ho]
  · refine ⟨fun st hs => ?_, fun _ hl => words.storeValid (valid law (hl _ rfl))⟩
    cases hs
    exact hc

theorem stepKeeps_checkedStart {strap : Bool} (hu : ∀ r, contentOf u r = contentOf s r)
    (hw : u.checkWords = s.checkWords) (ho : u.settings = s.settings) : StepKeeps s (checkedStart strap u) := by
  have same : storeValid u = storeValid s := storeValid_congr hw hu
  refine stepKeeps_beginStart (fun h => by rw [h, Bool.or_true]) hu hw ho fun _ h => ?_
  rw [← same]
  simpa using h

/-- RESTART and COLD, taken while the part is live (R169). -/
theorem stepKeeps_asked {cold : Bool} (h : whenLive s (beginStart cold false) = .next t) : StepKeeps s t := by
  rw [whenLive_eq_next, rewriteChecks_same _ _ (contentOf_beginStart cold false s)] at h
  subst h
  split
  · next hl =>
    obtain ⟨ht, hs⟩ := (live_iff s).mp hl
    refine stepKeeps_beginStart (fun h => (nomatch h)) (fun _ => rfl) rfl rfl fun law _ => law.2 ht fun st h => ?_
    rw [hs] at h
    exact nomatch h
  · exact .refl s

theorem stepKeeps_execPowerUp {strap : Bool} (h : execPowerUp strap s = .next t) : StepKeeps s t := by
  unfold execPowerUp at h
  cases h
  split
  · exact .refl s
  · exact stepKeeps_checkedStart (fun r => by cases r <;> rfl) rfl rfl

theorem stepKeeps_execPciResetRelease (h : execPciResetRelease s = .next t) : StepKeeps s t := by
  unfold execPciResetRelease at h
  cases h
  split
  · exact stepKeeps_checkedStart (fun r => by cases r <;> rfl) rfl rfl
  · exact .refl s

theorem stepKeeps_execPciReset (h : execPciReset s = .next t) : StepKeeps s t := by
  unfold execPciReset at h
  cases h
  split
  · refine ⟨id, id, id, fun law w hw => ⟨rfl, (law w hw).2⟩, fun _ => ⟨fun _ h => (nomatch h), fun h => ?_⟩,
      wordsKept_of_same (fun r => by cases r <;> rfl) rfl⟩
    simp [ticking] at h
  · exact .refl s

theorem stepKeeps_execMainPowerLoss (h : execMainPowerLoss s = .next t) : StepKeeps s t := by
  unfold execMainPowerLoss at h
  cases h
  split
  · refine ⟨fun _ => ⟨fun _ => rfl, fun h => (nomatch h)⟩, id, fun _ h => (nomatch h),
      fun _ w hw => absurd (clearVolatile_cashUps 0#7 s w) hw, fun _ => ⟨fun _ h => (nomatch h), fun h => (nomatch h)⟩,
      wordsKept_of_same (fun r => ?_) rfl⟩
    exact Eq.trans (by cases r <;> rfl) (contentOf_clearVolatile 0#7 s r)
  · exact .refl s

end

section
variable {s t u : State}

/-! ### The completion of a start -/

/-- What a warm start settles before it clears the open-job counts (R173, R174). -/
def settleBlanks (s : State) : State :=
  let held (p : PrinterId) : Option Nat := lowestNote s.magazines[p]
  forEach (every 16) recomputeKind (forEach (every 16) recoverPrinter
    (forEach (every 16) (faultHolder held) (forEach (every 16) settleMagazine s)))

theorem settleWarm_eq (s : State) : settleWarm s = clearOpenJobs (settleBlanks s) := rfl

protected theorem Worked.settleNote {p : PrinterId} {n : Note} (h : Worked s t) : Worked s (settleNote p n t) := by
  unfold settleNote
  dsimp only
  split
  · exact h.inDoubtBlank.modTally
  · exact h.inDoubtBlank

protected theorem Worked.faultHolder {held : PrinterId → Option Nat} {p : PrinterId} (h : Worked s t) :
    Worked s (faultHolder held p t) := by
  unfold faultHolder
  split
  · exact h.raiseFault
  · exact h

protected theorem Worked.recoverPrinter {p : PrinterId} (h : Worked s t) : Worked s (recoverPrinter p t) := by
  unfold recoverPrinter
  split
  iterate 3 exact h.enterState.rollRequest
  iterate 3 exact h

theorem worked_settleBlanks (s : State) : Worked s (settleBlanks s) :=
  (((Worked.refl.forEach fun _ _ k => k.forEach fun _ _ k => k.settleNote).forEach fun _ _ k =>
    k.faultHolder).forEach fun _ _ k => k.recoverPrinter).forEach fun _ _ k => k.recomputeKind

theorem settleNote_still (p : PrinterId) (n : Note) (s : State) : still (settleNote p n s) = still s := by
  unfold settleNote
  dsimp only
  split <;> simp

theorem faultHolder_still (held : PrinterId → Option Nat) (p : PrinterId) (s : State) :
    still (faultHolder held p s) = still s := by
  unfold faultHolder
  split <;> simp

theorem recoverPrinter_still (p : PrinterId) (s : State) : still (recoverPrinter p s) = still s := by
  unfold recoverPrinter
  split <;> simp

theorem settleBlanks_still (s : State) : still (settleBlanks s) = still s := by
  unfold settleBlanks
  dsimp only
  rw [forEach_still _ _ recomputeKind_still, forEach_still _ _ recoverPrinter_still,
    forEach_still _ _ (faultHolder_still _), forEach_still _ settleMagazine fun p u => forEach_still _ _ (settleNote_still p) u]

theorem finishStart_settings (lost : Bool) (s : State) :
    (finishStart lost s).settings = { s.settings with startCount := s.settings.startCount + 1#32 } := rfl

/-- R172: the completion of a cold start. -/
theorem stepKeeps_coldComplete {st : StartInProgress} (hs : s.start = some st) :
    StepKeeps s (sealStore (finishStart st.lost (coldRecords st.seconds s))) := by
  refine ⟨id, fun _ => ?_, id, fun law w hw => ?_, fun _ => ⟨fun _ h => (nomatch h), fun _ _ => storeValid_sealStore _⟩,
    wordsKept_sealStore⟩
  · unfold SettingsLaw
    rw [sealStore_settings, finishStart_settings]
    simp [coldRecords, OfficeSettings.default]
  · exact nomatch hs.symm.trans (law w hw).1

theorem carried_clearOpenJobs (s : State) : Carried s (clearOpenJobs s) :=
  ⟨id, id, id, rfl, rfl, rfl, fun h w hw => by simpa [clearOpenJobs] using h w hw⟩

theorem carried_settleWarm (s : State) : Carried s (settleWarm s) :=
  ((worked_settleBlanks s).carried_of_still (settleBlanks_still s)).trans (carried_clearOpenJobs _)

/-- R173 to R175: the completion of a warm start, which R167 lets begin on a valid store alone. -/
theorem stepKeeps_warmComplete {st : StartInProgress} (ht : ticking s = true) (hs : s.start = some st)
    (hc : st.cold = false) (settled : Carried s u) : StepKeeps s (rewriteChecks s (finishStart st.lost u)) := by
  have words : WordsKept s (rewriteChecks s (finishStart st.lost u)) := wordsKept_rewriteChecks settled.words
  refine ⟨settled.lamp, fun law => settingsLaw_of_clock rfl (settled.settings law), settled.reload,
    fun law w hw => ⟨rfl, settled.cashUps (fun v hv => (law v hv).2) w hw⟩,
    fun law => ⟨fun _ h => (nomatch h), fun _ _ => words.storeValid (law.2 ht fun st' h => ?_)⟩, words⟩
  cases hs.symm.trans h
  by_contra hl
  exact nomatch hc.symm.trans (law.1 st hs (by simpa using hl))

theorem stepKeeps_execStartComplete (h : execStartComplete s = .next t) : StepKeeps s t := by
  unfold execStartComplete at h
  cases h
  split
  · next ht =>
    split
    · next st hs =>
      unfold completeStart
      split
      · exact stepKeeps_coldComplete hs
      · next hc => exact stepKeeps_warmComplete ht hs (by simpa using hc) (carried_settleWarm s)
    · exact .refl s
  · exact .refl s

/-! ### Ticks -/

theorem stepKeeps_execOfficeClockAdvance (h : execOfficeClockAdvance s = .next t) : StepKeeps s t := by
  unfold execOfficeClockAdvance at h
  cases h
  split
  · exact (carried_clockAdvance s).stepKeeps fun _ => by rw [clockAdvance_eq]
  · exact .refl s

theorem allowanceReload_cashUps (s : State) : (allowanceReload s).cashUps = s.cashUps := by
  unfold allowanceReload
  split <;> rfl

theorem allowanceReload_start (s : State) : (allowanceReload s).start = s.start := by
  unfold allowanceReload
  split <;> rfl

theorem tickClock_cashUps (s : State) : (tickClock s).cashUps = s.cashUps := by
  unfold tickClock
  split
  · rw [clockAdvance_eq]
  · rfl

theorem tickClock_start (s : State) : (tickClock s).start = none ↔ s.start = none := by
  rw [← startKind_eq_none, (carried_tickClock s).start, startKind_eq_none]

/-- While a start is in progress a tick changes no pending cash-up. -/
theorem tickWork_cashUps (hs : s.start ≠ none) : (tickWork s).cashUps = s.cashUps := by
  have hr : (allowanceReload s).start ≠ none := by rwa [allowanceReload_start]
  refine tickWork_cases (fun t => t.cashUps = s.cashUps) ?_ ?_
  · rw [tickSweep_idle (.inl fun h => hr ((tickClock_start _).mp h)), tickClock_cashUps, allowanceReload_cashUps]
  · rw [tickSweep_idle (.inl hr), tickClock_cashUps, allowanceReload_cashUps]

theorem stepKeeps_tick (s : State) : StepKeeps s (tick s) := by
  unfold tick
  split
  · exact (carried_tickWork s).stepKeeps tickWork_cashUps
  · exact .refl s

/-! ### The commands -/

theorem officeView_writeXbase (value : Word) (s : State) : officeView (writeXbase value s) = officeView s := by
  unfold writeXbase
  dsimp only
  split <;> rfl

theorem officeView_writePost (value : Word) (s : State) : officeView (writePost value s) = officeView s := by
  unfold writePost
  split
  · dsimp only
    split
    · rfl
    · split <;> rfl
  · rfl

/-- A write to the register window, whichever command it spells (R1, R3, R20). -/
theorem stepKeeps_write {write : Instr} (h : whenLive s (writeEffect write) = .next t) : StepKeeps s t := by
  cases write with
  | xbaseWrite value => exact stepKeeps_whenLive h (Worked.refl.writeXbase.carried_of_view (officeView_writeXbase value s))
  | post value => exact stepKeeps_whenLive h (Worked.refl.writePost.carried_of_view (officeView_writePost value s))
  | attnWrite value => exact stepKeeps_whenLive h (Worked.refl.port.carried_of_view rfl)
  | attnEnWrite value => exact stepKeeps_whenLive h (Worked.refl.port.carried_of_view rfl)
  | run => exact stepKeeps_whenLive h (carried_runCommand s)
  | hold => exact stepKeeps_whenLive h (carried_holdCommand s)
  | restart => exact stepKeeps_asked h
  | cold => exact stepKeeps_asked h
  | _ => exact stepKeeps_whenLive h (.refl s)

theorem stepKeeps_execFetchRequest (h : execFetchRequest s = .next t) : StepKeeps s t :=
  stepKeeps_whenLive h ((Worked.refl.port.carried_of_view rfl).ite (.refl s))

theorem stepKeeps_execEngineAccessStart (h : execEngineAccessStart s = .next t) : StepKeeps s t :=
  stepKeeps_whenLive h ((Worked.refl.startFirstWaiting.carried_of_still (startFirstWaiting_still s)).ite (.refl s))

theorem stepKeeps_execReturnResultWritten (h : execReturnResultWritten s = .next t) : StepKeeps s t := by
  refine stepKeeps_whenLive h ?_
  split
  · exact Worked.refl.port.carried_of_view rfl
  · exact .refl s

theorem stepKeeps_execReturnComplete (h : execReturnComplete s = .next t) : StepKeeps s t := by
  refine stepKeeps_whenLive h ?_
  split
  · exact Worked.refl.port.port.port.port.carried_of_view rfl
  · exact .refl s

theorem stepKeeps_execHeaderWriteComplete (h : execHeaderWriteComplete s = .next t) : StepKeeps s t := by
  refine stepKeeps_whenLive h ?_
  split
  · exact Worked.refl.port.carried_of_view rfl
  · exact .refl s

theorem stepKeeps_execTableWriteComplete (h : execTableWriteComplete s = .next t) : StepKeeps s t := by
  have done : Carried s (accessDone s) := Worked.refl.port.carried_of_view rfl
  have caused : ∀ cause, Carried s (setCause cause (accessDone s)) :=
    fun _ => done.trans (Worked.refl.port.carried_of_view rfl)
  refine stepKeeps_whenLive h ?_
  split
  · exact (caused _).ite done
  · exact (caused _).ite done
  · exact .refl s

theorem stepKeeps_execAccessFail (h : execAccessFail s = .next t) : StepKeeps s t := by
  refine stepKeeps_whenLive h ?_
  split
  · exact carried_exchangeFault _ s
  · exact .refl s

theorem stepKeeps_execBadKind {tag : Word} {kind : Byte} (h : execBadKind tag kind s = .next t) : StepKeeps s t := by
  unfold execBadKind at h
  split at h
  · cases h
    exact .refl s
  · exact stepKeeps_slip h Worked.refl.addReturn fun _ _ => addReturn_still ..

theorem actRepeatedly_still (g : GroupId) (fuel : Nat) (s : State) : still (actRepeatedly g fuel s) = still s := by
  induction fuel generalizing s with
  | zero => rfl
  | succ fuel ih =>
    unfold actRepeatedly
    split
    · rw [ih, grantOnce_still, forEach_still _ _ releaseHold_still]
    · rfl

/-- Work on jobs, printers, lines, stock and tallies that a command does. -/
theorem stepKeeps_work {f : State → State} (h : whenLive s f = .next t) (hw : Worked s (f s))
    (hs : still (f s) = still s) : StepKeeps s t := stepKeeps_whenLive h (hw.carried_of_still hs)

/-- What a command that is no loss of VBK keeps. -/
theorem stepKeeps_exec {c : Instr} (hc : c ≠ .vbkLoss) (h : exec c s = .next t) : StepKeeps s t := by
  have own : Worked s s := .refl
  cases c with
  | xbaseWrite value => exact stepKeeps_write (write := .xbaseWrite value) h
  | post value => exact stepKeeps_write (write := .post value) h
  | attnWrite value => exact stepKeeps_write (write := .attnWrite value) h
  | attnEnWrite value => exact stepKeeps_write (write := .attnEnWrite value) h
  | run => exact stepKeeps_write (write := .run) h
  | hold => exact stepKeeps_write (write := .hold) h
  | restart => exact stepKeeps_write (write := .restart) h
  | cold => exact stepKeeps_write (write := .cold) h
  | registerWriteIgnored offset enables value => exact stepKeeps_write h
  | powerUp strap => exact stepKeeps_execPowerUp h
  | pciReset => exact stepKeeps_execPciReset h
  | pciResetRelease => exact stepKeeps_execPciResetRelease h
  | mainPowerLoss => exact stepKeeps_execMainPowerLoss h
  | vbkLoss => exact absurd rfl hc
  | startComplete => exact stepKeeps_execStartComplete h
  | officeClockAdvance => exact stepKeeps_execOfficeClockAdvance h
  | sweep blocks windows printers =>
    refine stepKeeps_whenLive h ?_
    split
    · next hg => exact carried_sweepEvent hg
    · exact .refl s
  | allowanceReload => exact stepKeeps_whenLive h (carried_allowanceReload s)
  | fetchRequest => exact stepKeeps_execFetchRequest h
  | engineAccessStart => exact stepKeeps_execEngineAccessStart h
  | returnResultWritten => exact stepKeeps_execReturnResultWritten h
  | returnComplete => exact stepKeeps_execReturnComplete h
  | headerWriteComplete => exact stepKeeps_execHeaderWriteComplete h
  | tableWriteComplete => exact stepKeeps_execTableWriteComplete h
  | accessFail => exact stepKeeps_execAccessFail h
  | issue tag r =>
    exact stepKeeps_handOnForRecord h (Worked.refl.issueWork.carried_of_still (issueWork_still ..))
  | void tag window sale => exact stepKeeps_slip h Worked.refl.voidWork (voidWork_still tag window sale)
  | refund tag r => exact stepKeeps_slip h Worked.refl.refundWork (refundWork_still tag r)
  | readTally tag window => exact stepKeeps_slip h Worked.refl.readTallyWork (readTallyWork_still tag window)
  | loadStock tag r => exact stepKeeps_slip h Worked.refl.loadStockWork (loadStockWork_still tag r)
  | unloadStock tag printer => exact stepKeeps_slip h Worked.refl.unloadStockWork (unloadStockWork_still tag printer)
  | readSpoils tag index => exact stepKeeps_slip h Worked.refl.readSpoilsWork (readSpoilsWork_still tag index)
  | rollCall tag line mask => exact stepKeeps_slip h Worked.refl.rollCallWork (rollCallWork_still tag line mask)
  | testPrint tag r =>
    exact stepKeeps_handOnForRecord h (Worked.refl.testPrintWork.carried_of_still (testPrintWork_still ..))
  | printerServiceEnter tag printer =>
    exact stepKeeps_slip h Worked.refl.printerServiceWork (printerServiceWork_still tag printer _)
  | printerServiceLeave tag printer =>
    exact stepKeeps_slip h Worked.refl.printerServiceWork (printerServiceWork_still tag printer _)
  | printerServiceAcknowledge tag printer action =>
    exact stepKeeps_slip h Worked.refl.printerServiceWork (printerServiceWork_still tag printer action)
  | cashUp tag r => exact stepKeeps_slip h Worked.refl.cashUpWork (cashUpWork_still tag r)
  | endOfDay tag => exact stepKeeps_handOn h carried_endOfDayWork
  | setOffice tag r => exact stepKeeps_handOn h carried_setOfficeWork
  | setWindow tag r => exact stepKeeps_handOn h carried_setWindowWork
  | setRoute tag r => exact stepKeeps_handOn h carried_setRouteWork
  | setPrinter tag printer configured group =>
    exact stepKeeps_slip h Worked.refl.setPrinterWork (setPrinterWork_still tag printer configured group)
  | setLine tag line rate window limit => exact stepKeeps_handOn h carried_setLineWork
  | setStockKind tag kind lowMark band =>
    exact stepKeeps_slip h Worked.refl.setStockKindWork (setStockKindWork_still tag kind lowMark band)
  | badKind tag kind => exact stepKeeps_execBadKind h
  | arbiterAction g =>
    exact stepKeeps_whenLive_ite h ((own.actRepeatedly 64).carried_of_still (actRepeatedly_still g 64 s))
  | lineTurn l => exact stepKeeps_work h own.lineTurn (lineTurn_still l s)
  | replyWindowExpiry l =>
    exact stepKeeps_whenLive_ite (c := (awaitsReply · l)) h (own.receiveNothing.carried_of_still (receiveNothing_still l s))
  | characterGapTimeout l => exact stepKeeps_work h own.receiveNothing (receiveNothing_still l s)
  | badReply l bytes =>
    exact stepKeeps_whenLive_ite (c := (awaitsReply · l)) h (own.receiveRaw.carried_of_still (receiveRaw_still l bytes s))
  | frameDiscarded l bytes =>
    cases h
    exact .refl s
  | status l address flags waiting entries => exact stepKeeps_work h own.receiveReply (receiveReply_still ..)
  | accept l address token => exact stepKeeps_work h own.receiveReply (receiveReply_still ..)
  | refuse l address token reason => exact stepKeeps_work h own.receiveReply (receiveReply_still ..)
  | serial l address serial kind => exact stepKeeps_work h own.receiveReply (receiveReply_still ..)
  | retry l address => exact stepKeeps_work h own.receiveReply (receiveReply_still ..)
  | slotExpiry l =>
    exact stepKeeps_whenLive_ite (c := (inSlot · l)) h (own.endSlot.carried_of_still (endSlot_still l s))
  | badAnswer l bytes =>
    exact stepKeeps_whenLive_ite (c := (inSlot · l)) h (own.receiveRaw.carried_of_still (receiveRaw_still l bytes s))
  | commandFrameEnd l => exact stepKeeps_work h own.commandFrameEnd (commandFrameEnd_still l s)

/-- What a step that is no loss of VBK keeps. -/
theorem stepKeeps_step (hc : s.pending.head? ≠ some .vbkLoss) (h : step s = .next t) : StepKeeps s t := by
  unfold step at h
  split at h
  · next c rest hp =>
    have keeps := stepKeeps_exec (s := s.withPending rest) (fun he => hc (by rw [hp, he]; rfl)) h
    exact ⟨keeps.lamp, keeps.settings, keeps.reload, keeps.cashUp, keeps.store, keeps.words⟩
  · cases h
    exact stepKeeps_tick s

/-- A loss of VBK changes the check words alone, and those only while main power is absent (R168; log 7). -/
theorem step_vbkLoss (hc : s.pending.head? = some .vbkLoss) (h : step s = .next t) :
    ∃ rest words, t = { s with pending := rest, checkWords := words } ∧ (s.powered = true → words = s.checkWords) := by
  obtain ⟨rest, hp⟩ := List.head?_eq_some_iff.mp hc
  rw [stepRunsFrontCommand.1 s _ rest hp] at h
  cases h
  split
  · exact ⟨rest, s.checkWords, rfl, fun _ => rfl⟩
  · next hn => exact ⟨rest, _, rfl, fun hp => absurd hp hn⟩

/-- A law that every other step keeps, and that a loss of VBK keeps. -/
theorem keptByStep {law : State → Prop} (keeps : ∀ s t, StepKeeps s t → law s → law t)
    (loss : ∀ s rest words, (s.powered = true → words = s.checkWords) → law s →
      law { s with pending := rest, checkWords := words }) : KeptByStep law := by
  intro s t hs h
  by_cases hc : s.pending.head? = some .vbkLoss
  · obtain ⟨rest, words, rfl, hw⟩ := step_vbkLoss hc h
    exact loss s rest words hw hs
  · exact keeps s t (stepKeeps_step hc h) hs

/-- The check words that a loss of VBK leaves are of a part without main power (R168), whose store no law binds. -/
theorem storeLaw_vbkLoss (s : State) (rest : List Instr) (words : Vector (BitVec 16) 189)
    (hw : s.powered = true → words = s.checkWords) (law : StoreLaw s) :
    StoreLaw { s with pending := rest, checkWords := words } := by
  refine ⟨law.1, fun ht hl => ?_⟩
  have powered : s.powered = true := (Bool.and_eq_true_iff.mp ht).1
  rw [hw powered]
  exact (storeValid_congr rfl fun r => by cases r <;> rfl).trans (law.2 ht hl)

/-- Settles O9. -/
theorem officeLawsKept : Obligations.OfficeLawsKept :=
  ⟨keptByStep (fun _ _ k => k.lamp) fun _ _ _ _ law => law,
    keptByStep (fun _ _ k => k.settings) fun _ _ _ _ law => law,
    keptByStep (fun _ _ k => k.cashUp) fun _ _ _ _ law => law,
    keptByStep (fun _ _ k => k.reload) fun _ _ _ _ law => law,
    keptByStep (fun _ _ k => k.store) storeLaw_vbkLoss,
    fun _ _ i h hc => (stepKeeps_step hc h).words i⟩

end

end Sys2Proof.Machine
end

section
/-! SUPPORT. The duties of a sweep (R28) one after another: a property that depends on the duties still to be done holds at the end, in
whatever order they come (log 6). -/

namespace Sys2Proof.Machine

/-! ### Orders of work (R28; log 6) -/

theorem nodup_eraseDups {α : Type} [BEq α] [LawfulBEq α] (l : List α) : l.eraseDups.Nodup := by
  induction hn : l.length using Nat.strong_induction_on generalizing l with
  | _ n ih =>
    cases l with
    | nil => exact .nil
    | cons a rest =>
      subst hn
      rw [List.eraseDups_cons, List.nodup_cons]
      have shorter := List.length_filter_le (fun b => !b == a) rest
      refine ⟨?_, ih _ (by simp only [List.length_cons]; omega) _ rfl⟩
      rw [List.mem_eraseDups, List.mem_filter]
      simp

theorem nodup_completeOrder {n : Nat} (named : List Nat) : (completeOrder n named).Nodup := by
  unfold completeOrder
  refine List.Nodup.append (nodup_eraseDups _) ((List.nodup_finRange n).filter _) fun i hi hf => ?_
  simpa [hi] using (List.mem_filter.mp hf).2

/-- Work done for each element of a list without repetition, with a property that depends on what is still to do. -/
theorem forEach_todo {α : Type} {f : α → State → State} (P : List α → State → Prop)
    (once : ∀ a rest u, a ∉ rest → P (a :: rest) u → P rest (f a u)) {l : List α} (hl : l.Nodup) {s : State}
    (h : P l s) : P [] (forEach l f s) := by
  induction l generalizing s with
  | nil => exact h
  | cons a rest ih =>
    obtain ⟨ha, hr⟩ := List.nodup_cons.mp hl
    exact ih hr (once a rest s ha h)

/-- One duty of a sweep (R28): a window's head job, a printer's outcomes and hold, a line's round, the header mark. -/
inductive Duty where
  | age (w : WindowId)
  | watch (p : PrinterId)
  | round (l : LineId)
  | header

/-- The work of a duty. -/
def Duty.run : Duty → State → State
  | .age w => ageWindow w
  | .watch p => watchPrinter p
  | .round l => startRound l
  | .header => markHeader

/-- The duties of a block (R28). -/
def blockDuties (windows : List WindowId) (printers : List PrinterId) : Fin 4 → List Duty
  | 0 => windows.map .age
  | 1 => printers.map .watch
  | 2 => (every 2).map .round
  | 3 => [.header]

theorem forEach_map {α β : Type} (g : α → β) (f : β → State → State) (l : List α) (s : State) :
    forEach (l.map g) f s = forEach l (fun a => f (g a)) s := List.foldl_map

theorem forEach_flatMap {α β : Type} (g : α → List β) (f : β → State → State) (l : List α) (s : State) :
    forEach (l.flatMap g) f s = forEach l (fun a => forEach (g a) f) s := by
  induction l generalizing s with
  | nil => rfl
  | cons a rest ih =>
    refine Eq.trans ?_ (ih (forEach (g a) f s))
    rw [List.flatMap_cons]
    exact List.foldl_append

theorem blockWork_duties (windows : List WindowId) (printers : List PrinterId) (b : Fin 4) (s : State) :
    blockWork windows printers b s = forEach (blockDuties windows printers b) Duty.run s := by
  match b with
  | 0 => exact (forEach_map Duty.age Duty.run windows s).symm
  | 1 => exact (forEach_map Duty.watch Duty.run printers s).symm
  | 2 => exact (forEach_map Duty.round Duty.run (every 2) s).symm
  | 3 => rfl

theorem nodup_blockDuties {windows : List WindowId} {printers : List PrinterId} (hw : windows.Nodup) (hp : printers.Nodup)
    (b : Fin 4) : (blockDuties windows printers b).Nodup := by
  match b with
  | 0 => exact hw.map fun _ _ e => Duty.age.inj e
  | 1 => exact hp.map fun _ _ e => Duty.watch.inj e
  | 2 => exact (List.nodup_finRange 2).map fun _ _ e => Duty.round.inj e
  | 3 => exact List.nodup_singleton _

theorem disjoint_blockDuties (windows : List WindowId) (printers : List PrinterId) {a b : Fin 4} (h : a ≠ b) :
    List.Disjoint (blockDuties windows printers a) (blockDuties windows printers b) := by
  intro d ha hb
  match a, b with
  | 0, 0 | 1, 1 | 2, 2 | 3, 3 => exact h rfl
  | 0, 1 | 0, 2 | 0, 3 | 1, 0 | 1, 2 | 1, 3 | 2, 0 | 2, 1 | 2, 3 | 3, 0 | 3, 1 | 3, 2 =>
    cases d <;> simp [blockDuties] at ha hb

/-- The duties of a sweep, in the order of its blocks and their objects. -/
def sweepDuties (blocks windows printers : List Nat) : List Duty :=
  (completeOrder 4 blocks).flatMap (blockDuties (completeOrder 24 windows) (completeOrder 16 printers))

theorem sweepEvent_duties (blocks windows printers : List Nat) (s : State) :
    sweepEvent blocks windows printers s = forEach (sweepDuties blocks windows printers) Duty.run (sweepCounted s) := by
  rw [sweepEvent_eq, sweepDuties, forEach_flatMap]
  exact congrArg (forEach _ · _) (funext fun b => funext fun u => blockWork_duties ..)

theorem nodup_sweepDuties (blocks windows printers : List Nat) : (sweepDuties blocks windows printers).Nodup :=
  List.nodup_flatMap.mpr ⟨fun b _ => nodup_blockDuties (nodup_completeOrder _) (nodup_completeOrder _) b,
    (nodup_completeOrder blocks).imp fun h => disjoint_blockDuties _ _ h⟩

/-- Every duty is done. -/
theorem mem_sweepDuties (blocks windows printers : List Nat) (d : Duty) : d ∈ sweepDuties blocks windows printers := by
  have block : ∀ b, d ∈ blockDuties (completeOrder 24 windows) (completeOrder 16 printers) b →
      d ∈ sweepDuties blocks windows printers :=
    fun b hd => List.mem_flatMap.mpr ⟨b, mem_completeOrder blocks b, hd⟩
  cases d with
  | age w => exact block 0 (List.mem_map_of_mem (mem_completeOrder windows w))
  | watch p => exact block 1 (List.mem_map_of_mem (mem_completeOrder printers p))
  | round l => exact block 2 (List.mem_map_of_mem (List.mem_finRange l))
  | header => exact block 3 List.mem_cons_self

/-- A property of the states of a sweep, which depends on the duties still to be done: it holds at the end where each duty
takes it on, in whatever order they come (R28). -/
theorem sweep_todo (P : (Duty → Prop) → State → Prop)
    (once : ∀ (d : Duty) (todo : Duty → Prop) u, ¬todo d → P (fun e => e = d ∨ todo e) u → P todo (d.run u))
    (blocks windows printers : List Nat) {s : State} (h : P (fun _ => True) (sweepCounted s)) :
    P (fun _ => False) (sweepEvent blocks windows printers s) := by
  rw [sweepEvent_duties]
  have all : P (· ∈ sweepDuties blocks windows printers) (sweepCounted s) := by
    simpa [mem_sweepDuties] using h
  have done := forEach_todo (fun l => P (· ∈ l)) (fun d rest u hd hu => once d _ u hd (by simpa using hu))
    (nodup_sweepDuties blocks windows printers) all
  simpa using done

theorem Duty.run_still (d : Duty) (s : State) : still (d.run s) = still s := by
  cases d with
  | age w => exact ageWindow_still w s
  | watch p => exact watchPrinter_still p s
  | round l => exact startRound_still l s
  | header => rfl

theorem Duty.run_work (d : Duty) (s : State) : Work s (d.run s) := by
  cases d with
  | age w => exact (Work.refl s).ageWindow
  | watch p => exact (Work.refl s).watchOutcomes.watchHold
  | round l => exact (Work.refl s).startRound
  | header => exact (Work.refl s).markHeader

end Sys2Proof.Machine
end

section
/-! SUPPORT. Work that spares some jobs of one printer (`Spares`): every duty of a sweep but the watch on that printer is such work. -/

namespace Sys2Proof.Machine

/-! ### Work that spares some jobs of one printer -/

/-- A job in SENDING or SENT (R52). -/
def Job.flying (j : Job) : Bool := j.state == .sending || j.state == .sent

theorem inFlight_eq (s : State) (i : JobIx) : inFlight s i = (jobAt s i).any Job.flying := rfl

theorem Job.flying_iff (j : Job) : j.flying = true ↔ j.state = .sending ∨ j.state = .sent := by simp [Job.flying]

/-- The jobs `K` are of printer `p` alone, each queue holds jobs of its own window, and no head job of the windows `W` is
aged. -/
structure Apart (K : JobIx → Bool) (p : PrinterId) (W : List WindowId) (t : State) : Prop where
  queued : ∀ w : WindowId, ∀ i ∈ t.queues[w], K i = false
  listed : ∀ q : PrinterId, q ≠ p → ∀ i ∈ t.printers[q].outstanding, K i = false
  windows : ∀ w : WindowId, ∀ i ∈ t.queues[w], ∀ j : Job, jobAt t i = some j → j.window = some w
  fresh : ∀ w ∈ W, ∀ i : JobIx, t.queues[w].head? = some i → ∀ j : Job, jobAt t i = some j → j.aged = false

/-- Work that leads from `s` to `t` and spares the jobs `K` of printer `p`: they stay as they are in that printer's list, no
job is made or sent, and the printer's state and fault record and a cause in its mark stand. -/
structure Spares (K : JobIx → Bool) (p : PrinterId) (W : List WindowId) (s t : State) : Prop where
  jobs : ∀ i, K i = true → jobAt t i = jobAt s i
  freed : ∀ i, jobAt s i = none → jobAt t i = none
  tokens : ∀ i, tokenOf t i = tokenOf s i
  flights : ∀ i, inFlight t i = true → inFlight s i = true
  kept : t.printers[p].outstanding.filter K = s.printers[p].outstanding.filter K
  sub : t.printers[p].outstanding.Sublist s.printers[p].outstanding
  state : t.printers[p].state = s.printers[p].state
  fault : t.printers[p].fault = s.printers[p].fault
  mark : s.port.printerMarks[p] = .withCause → t.port.printerMarks[p] = .withCause
  apart : Apart K p W t

/-- What a change of a job may do to it in such work: it is not sent, stays of its window, and does not age. -/
structure Job.Calmer (j' j : Job) : Prop where
  flying : j'.flying = true → j.flying = true
  window : j'.window = j.window
  aged : j'.aged = true → j.aged = true

section
variable {K : JobIx → Bool} {p q : PrinterId} {W : List WindowId} {s t u : State} {i : JobIx} {w : WindowId}

theorem Spares.refl (h : Apart K p W s) : Spares K p W s s :=
  ⟨fun _ _ => rfl, fun _ h => h, fun _ => rfl, fun _ h => h, rfl, .refl _, rfl, rfl, id, h⟩

theorem Spares.trans (h : Spares K p W s t) (k : Spares K p W t u) : Spares K p W s u :=
  ⟨fun i hi => (k.jobs i hi).trans (h.jobs i hi), fun i hi => k.freed i (h.freed i hi),
    fun i => (k.tokens i).trans (h.tokens i), fun i hi => h.flights i (k.flights i hi), k.kept.trans h.kept,
    k.sub.trans h.sub, k.state.trans h.state, k.fault.trans h.fault, k.mark ∘ h.mark, k.apart⟩

/-- Fewer jobs and fewer windows. -/
theorem Apart.mono {K' : JobIx → Bool} {W' : List WindowId} (h : Apart K p W t) (hK : ∀ i, K i = false → K' i = false)
    (hW : ∀ w ∈ W', w ∈ W) : Apart K' p W' t :=
  ⟨fun w i hi => hK i (h.queued w i hi), fun q hq i hi => hK i (h.listed q hq i hi), h.windows,
    fun w hw => h.fresh w (hW w hw)⟩

/-- Work that leaves jobs, queues and lists alone keeps jobs apart. -/
theorem Apart.same (h : Apart K p W t) (jobs : u.jobs = t.jobs) (queues : u.queues = t.queues)
    (lists : ∀ q : PrinterId, u.printers[q].outstanding = t.printers[q].outstanding) : Apart K p W u := by
  have jobAt_eq : ∀ i, jobAt u i = jobAt t i := fun i => by unfold jobAt; rw [jobs]
  refine ⟨fun w i hi => h.queued w i (queues ▸ hi), fun q hq i hi => h.listed q hq i (lists q ▸ hi), fun w i hi j hj => ?_,
    fun w hw i hi j hj => ?_⟩
  · exact h.windows w i (queues ▸ hi) j (jobAt_eq i ▸ hj)
  · exact h.fresh w hw i (queues ▸ hi) j (jobAt_eq i ▸ hj)

/-- Work that leaves jobs, queues, lists, and the printer's state and record alone. -/
theorem Spares.same (h : Spares K p W s t) (jobs : u.jobs = t.jobs) (queues : u.queues = t.queues)
    (lists : ∀ q : PrinterId, u.printers[q].outstanding = t.printers[q].outstanding)
    (state : u.printers[p].state = t.printers[p].state) (fault : u.printers[p].fault = t.printers[p].fault)
    (mark : t.port.printerMarks[p] = .withCause → u.port.printerMarks[p] = .withCause) : Spares K p W s u := by
  have jobAt_eq : ∀ i, jobAt u i = jobAt t i := fun i => by unfold jobAt; rw [jobs]
  refine ⟨fun i hi => (jobAt_eq i).trans (h.jobs i hi), fun i hi => (jobAt_eq i).trans (h.freed i hi), fun i => ?_,
    fun i hi => h.flights i ?_, lists p ▸ h.kept, lists p ▸ h.sub, state.trans h.state, fault.trans h.fault,
    mark ∘ h.mark, h.apart.same jobs queues lists⟩
  · rw [← h.tokens i]
    unfold tokenOf
    rw [jobs]
  · rwa [inFlight_eq, ← jobAt_eq, ← inFlight_eq]

/-- Work that leaves jobs, queues, printers and marks alone. -/
theorem Spares.elsewhere (h : Spares K p W s t) (jobs : u.jobs = t.jobs) (queues : u.queues = t.queues)
    (printers : u.printers = t.printers) (marks : u.port.printerMarks = t.port.printerMarks) : Spares K p W s u :=
  h.same jobs queues (fun _ => by rw [printers]) (by rw [printers]) (by rw [printers]) (by rw [marks]; exact id)

protected theorem Spares.forEach {α : Type} {l : List α} {f : α → State → State} (h : Spares K p W s t)
    (hf : ∀ a ∈ l, ∀ u, Spares K p W s u → Spares K p W s (f a u)) : Spares K p W s (forEach l f t) := by
  induction l generalizing t with
  | nil => exact h
  | cons a rest ih =>
    exact ih (hf a List.mem_cons_self t h) fun b hb => hf b (List.mem_cons_of_mem a hb)

protected theorem Spares.ite {c : Prop} [Decidable c] (h : Spares K p W s t) (k : Spares K p W s u) :
    Spares K p W s (if c then t else u) := by split <;> assumption

/-! ### Jobs, queues and lists -/

/-- A change of job records that keeps the jobs `K`, and leaves every other job calmer or frees it; one that ages is no head
of the windows `W`. -/
theorem Spares.changed (h : Spares K p W s t) (tokens : ∀ i, tokenOf u i = tokenOf t i)
    (jobs : ∀ i, K i = true → jobAt u i = jobAt t i)
    (others : ∀ i j', jobAt u i = some j' → ∃ j, jobAt t i = some j ∧ (j'.flying = true → j.flying = true) ∧
      j'.window = j.window ∧ (j'.aged = true → j.aged = true ∨ ∀ w ∈ W, t.queues[w].head? ≠ some i))
    (queues : u.queues = t.queues) (printers : u.printers = t.printers)
    (marks : u.port.printerMarks = t.port.printerMarks) : Spares K p W s u := by
  refine ⟨fun i hi => (jobs i hi).trans (h.jobs i hi), fun i hi => ?_, fun i => (tokens i).trans (h.tokens i),
    fun i hi => h.flights i ?_, printers ▸ h.kept, printers ▸ h.sub, printers ▸ h.state, printers ▸ h.fault,
    marks ▸ h.mark, fun w i hi => h.apart.queued w i (queues ▸ hi), fun q hq i hi => h.apart.listed q hq i (printers ▸ hi),
    fun w i hi j' hj' => ?_, fun w hw i hi j' hj' => ?_⟩
  · cases hu : jobAt u i with
    | none => rfl
    | some j' =>
      obtain ⟨j, hj, -⟩ := others i j' hu
      simp [h.freed i hi] at hj
  · cases hu : jobAt u i with
    | none => simp [inFlight_eq, hu] at hi
    | some j' =>
      obtain ⟨j, hj, hf, -⟩ := others i j' hu
      rw [inFlight_eq, hu] at hi
      rw [inFlight_eq, hj]
      exact hf hi
  · obtain ⟨j, hj, -, hw, -⟩ := others i j' hj'
    exact hw.trans (h.apart.windows w i (queues ▸ hi) j hj)
  · obtain ⟨j, hj, -, -, ha⟩ := others i j' hj'
    have head : t.queues[w].head? = some i := queues ▸ hi
    cases hag : j'.aged with
    | false => rfl
    | true =>
      rcases ha hag with ha | ha
      · rw [h.apart.fresh w hw i head j hj] at ha
        cases ha
      · exact absurd head (ha w hw)

theorem tokenOf_modJob (i k : JobIx) (f : Job → Job) (s : State) : tokenOf (modJob i f s) k = tokenOf s k := by
  unfold tokenOf modJob
  simp only [upd_get]
  split <;> rfl

theorem tokenOf_freeRecord (i k : JobIx) (s : State) : tokenOf (freeRecord i s) k = tokenOf s k := by
  unfold tokenOf freeRecord
  simp only [modPort_jobs, upd_get]
  split <;> rfl

protected theorem Spares.modJob {f : Job → Job} (h : Spares K p W s t) (hi : K i = false) (hf : ∀ j, (f j).Calmer j) :
    Spares K p W s (modJob i f t) := by
  refine h.changed (fun k => tokenOf_modJob i k f t) (fun k hk => ?_) (fun k j' hj' => ?_) rfl rfl rfl
  · rw [jobAt_modJob, if_neg fun e => by simp [← e, hi] at hk]
  · rw [jobAt_modJob] at hj'
    split at hj'
    · obtain ⟨j, hj, rfl⟩ := Option.map_eq_some_iff.mp hj'
      exact ⟨j, hj, (hf j).flying, (hf j).window, .inl ∘ (hf j).aged⟩
    · exact ⟨j', hj', id, rfl, .inl⟩

protected theorem Spares.freeRecord (h : Spares K p W s t) (hi : K i = false) : Spares K p W s (freeRecord i t) := by
  refine h.changed (fun k => tokenOf_freeRecord i k t) (fun k hk => ?_) (fun k j' hj' => ?_) rfl rfl ?_
  · rw [jobAt_freeRecord, if_neg fun e => by simp [← e, hi] at hk]
  · rw [jobAt_freeRecord] at hj'
    split at hj'
    · cases hj'
    · exact ⟨j', hj', id, rfl, .inl⟩
  · unfold freeRecord
    simp only [modPort_port]
    split <;> rfl

/-- The head of a queue replaced is the head it had, its job as it stood, or its job is not aged (R47). -/
theorem setQueue_head {l : List JobIx} {j : Job} (hi : l.head? = some i) (hj : jobAt (setQueue w l t) i = some j) :
    (t.queues[w].head? = some i ∧ jobAt t i = some j) ∨ j.aged = false := by
  unfold setQueue at hj
  rw [hi] at hj
  dsimp only at hj
  split at hj
  · next same => exact .inl ⟨same, hj⟩
  · rw [jobAt_modJob, if_pos rfl] at hj
    obtain ⟨j, -, rfl⟩ := Option.map_eq_some_iff.mp hj
    exact .inr rfl

theorem setQueue_frame (w : WindowId) (l : List JobIx) (t : State) :
    (∀ i, tokenOf (setQueue w l t) i = tokenOf t i) ∧ (setQueue w l t).printers = t.printers ∧
      (setQueue w l t).port = t.port := by
  unfold setQueue
  dsimp only
  split
  · split
    · exact ⟨fun _ => rfl, rfl, rfl⟩
    · exact ⟨fun i => tokenOf_modJob .., rfl, rfl⟩
  · exact ⟨fun _ => rfl, rfl, rfl⟩

/-- A queue replaced changes the record of no job outside it. -/
theorem setQueue_jobAt_other {l : List JobIx} {k : JobIx} (hk : k ∉ l) : jobAt (setQueue w l t) k = jobAt t k := by
  unfold setQueue
  dsimp only
  split
  · next h hh =>
    have other : h ≠ k := fun e => hk (e ▸ List.mem_of_mem_head? hh)
    split
    · rfl
    · rw [jobAt_modJob, if_neg other]
      rfl
  · rfl

/-- A window's queue is replaced by one that holds jobs of the window and none of the jobs `K`. -/
protected theorem Spares.setQueue {l : List JobIx} (h : Spares K p W s t) (hl : ∀ i ∈ l, K i = false)
    (hw : ∀ i ∈ l, ∀ j, jobAt t i = some j → j.window = some w) : Spares K p W s (setQueue w l t) := by
  obtain ⟨tokens, printers, port⟩ := setQueue_frame w l t
  have jobs : ∀ i, K i = true → jobAt (setQueue w l t) i = jobAt t i := fun i hi =>
    setQueue_jobAt_other fun hm => by simp [hl i hm] at hi
  have before : ∀ i j', jobAt (setQueue w l t) i = some j' →
      ∃ j, jobAt t i = some j ∧ j'.flying = j.flying ∧ j'.window = j.window ∧ (j'.aged = true → j.aged = true) := by
    intro i j' hj'
    rcases setQueue_jobAt w l t i with e | e
    · exact ⟨j', e.symm.trans hj', rfl, rfl, id⟩
    · obtain ⟨j, hj, rfl⟩ := Option.map_eq_some_iff.mp (e.symm.trans hj')
      exact ⟨j, hj, rfl, rfl, fun ha => nomatch ha⟩
  have queue : ∀ v : WindowId, (setQueue w l t).queues[v] = if w = v then l else t.queues[v] := fun v => by
    rw [setQueue_queues, put_get]
  refine ⟨fun i hi => (jobs i hi).trans (h.jobs i hi), fun i hi => ?_, fun i => (tokens i).trans (h.tokens i),
    fun i hi => h.flights i ?_, printers ▸ h.kept, printers ▸ h.sub, printers ▸ h.state, printers ▸ h.fault, port ▸ h.mark,
    fun v i hi => ?_, fun q hq i hi => h.apart.listed q hq i (printers ▸ hi), fun v i hi j' hj' => ?_,
    fun v hv i hi j' hj' => ?_⟩
  · cases hu : jobAt (setQueue w l t) i with
    | none => rfl
    | some j' =>
      obtain ⟨j, hj, -⟩ := before i j' hu
      simp [h.freed i hi] at hj
  · cases hu : jobAt (setQueue w l t) i with
    | none => simp [inFlight_eq, hu] at hi
    | some j' =>
      obtain ⟨j, hj, hf, -⟩ := before i j' hu
      rw [inFlight_eq, hu] at hi
      rw [inFlight_eq, hj]
      exact hf.symm.trans hi
  · rw [queue] at hi
    split at hi
    · exact hl i hi
    · exact h.apart.queued v i hi
  · obtain ⟨j, hj, -, hjw, -⟩ := before i j' hj'
    rw [queue] at hi
    split at hi
    · next e => exact hjw.trans (e ▸ hw i hi j hj)
    · exact hjw.trans (h.apart.windows v i hi j hj)
  · rw [queue] at hi
    split at hi
    · next e =>
      rcases setQueue_head hi hj' with ⟨head, hj⟩ | ha
      · exact h.apart.fresh v hv i (e ▸ head) j' hj
      · exact ha
    · obtain ⟨j, hj, -, -, ha⟩ := before i j' hj'
      simpa [h.apart.fresh v hv i hi j hj] using ha

protected theorem Spares.leaveQueue (h : Spares K p W s t) : Spares K p W s (leaveQueue w i t) :=
  h.setQueue (fun k hk => h.apart.queued w k (List.mem_of_mem_filter hk))
    fun k hk => h.apart.windows w k (List.mem_of_mem_filter hk)

theorem mem_joinFront {order l : List JobIx} {k : JobIx}
    (hk : k ∈ l.takeWhile order.contains ++ i :: l.dropWhile order.contains) : k = i ∨ k ∈ l := by
  rcases List.mem_append.mp hk with hk | hk
  · exact .inr (List.takeWhile_subset _ hk)
  · rcases List.mem_cons.mp hk with rfl | hk
    · exact .inl rfl
    · exact .inr (List.dropWhile_subset _ hk)

protected theorem Spares.joinFront {order : List JobIx} (h : Spares K p W s t) (hi : K i = false)
    (hw : ∀ j, jobAt t i = some j → j.window = some w) : Spares K p W s (joinFront order w i t) := by
  refine h.setQueue (fun k hk => ?_) fun k hk => ?_
  · rcases mem_joinFront hk with rfl | hk
    · exact hi
    · exact h.apart.queued w k hk
  · rcases mem_joinFront hk with rfl | hk
    · exact hw
    · exact h.apart.windows w k hk

protected theorem Spares.markPrinter {cause : Bool} (h : Spares K p W s t) : Spares K p W s (markPrinter q cause t) := by
  refine h.same rfl rfl (fun _ => rfl) rfl rfl fun hm => ?_
  rw [markPrinter_marks, hm]
  split <;> rfl

/-- A change of a printer record that leaves its list, and for printer `p` its state and fault record. -/
protected theorem Spares.modPrinter {f : Printer → Printer} (h : Spares K p W s t)
    (list : ∀ x : Printer, (f x).outstanding = x.outstanding)
    (own : q = p → ∀ x : Printer, (f x).state = x.state ∧ (f x).fault = x.fault) :
    Spares K p W s (modPrinter q f t) := by
  refine h.same rfl rfl (fun r => ?_) ?_ ?_ id
  all_goals
    simp only [modPrinter, upd_get]
    split
  · exact list _
  · rfl
  · next e => exact (own e _).1
  · rfl
  · next e => exact (own e _).2
  · rfl

protected theorem Spares.modLineRecord {f : LineRecord → LineRecord} (h : Spares K p W s t) :
    Spares K p W s (modLineRecord q f t) := h.elsewhere rfl rfl rfl rfl

protected theorem Spares.leavePrinter (h : Spares K p W s t) (hi : K i = false) : Spares K p W s (leavePrinter q i t) := by
  have left : Spares K p W s (modPrinter q (fun x => { x with outstanding := x.outstanding.filter (· != i) }) t) := by
    have list : ∀ r : PrinterId,
        (modPrinter q (fun x => { x with outstanding := x.outstanding.filter (· != i) }) t).printers[r].outstanding =
          if q = r then t.printers[r].outstanding.filter (· != i) else t.printers[r].outstanding := fun r => by
      simp only [modPrinter, upd_get]
      split <;> rfl
    have keeps : (t.printers[p].outstanding.filter (· != i)).filter K = t.printers[p].outstanding.filter K := by
      rw [List.filter_filter]
      refine List.filter_congr fun k _ => ?_
      cases hk : K k with
      | false => rfl
      | true =>
        have hki : k ≠ i := fun e => by simp [e, hi] at hk
        simp [hki]
    refine ⟨h.jobs, h.freed, h.tokens, h.flights, ?_, ?_, ?_, ?_, h.mark, h.apart.queued, fun r hr k hk => ?_,
      h.apart.windows, h.apart.fresh⟩
    · rw [list]
      split
      · exact keeps.trans h.kept
      · exact h.kept
    · rw [list]
      split
      · exact List.filter_sublist.trans h.sub
      · exact h.sub
    · simp only [modPrinter, upd_get]
      split <;> exact h.state
    · simp only [modPrinter, upd_get]
      split <;> exact h.fault
    · rw [list] at hk
      split at hk
      · exact h.apart.listed r hr k (List.mem_of_mem_filter hk)
      · exact h.apart.listed r hr k hk
  exact left.modLineRecord.markPrinter

protected theorem Spares.leaveLists {j : Job} (h : Spares K p W s t) (hi : K i = false) :
    Spares K p W s (leaveLists i j t) := by
  unfold leaveLists
  split
  · exact h.leavePrinter hi
  · exact h.leaveQueue
  · exact h

protected theorem Spares.releaseHold (h : Spares K p W s t) : Spares K p W s (releaseHold q t) := by
  unfold releaseHold
  split
  · refine (h.modPrinter ?_ ?_).markPrinter
    · exact fun _ => rfl
    · exact fun _ _ => ⟨rfl, rfl⟩
  · exact h

protected theorem Spares.releaseSaleEnd {j : Job} (h : Spares K p W s t) : Spares K p W s (releaseSaleEnd j t) := by
  unfold releaseSaleEnd
  split
  · exact (h.forEach fun _ _ _ k => k.releaseHold).ite h
  · exact h

/-! ### Tallies, statements and results -/

protected theorem Spares.addReturn {n : SlipId} {tag : Word} {code : ResultCode} {detail : Word} {area : List Byte}
    (h : Spares K p W s t) : Spares K p W s (addReturn n tag code detail area t) := h.elsewhere rfl rfl rfl rfl

protected theorem Spares.modTally {shift : Nat} {f : Tally → Tally} (h : Spares K p W s t) :
    Spares K p W s (modTally w shift f t) := by
  unfold modTally
  split
  · exact h.elsewhere rfl rfl rfl rfl
  · split
    · split
      · exact h.elsewhere rfl rfl rfl rfl
      · exact h
    · exact h

protected theorem Spares.lowerOpenJobs {j : Job} (h : Spares K p W s t) : Spares K p W s (lowerOpenJobs j t) := by
  unfold lowerOpenJobs
  split
  · exact h.modTally
  · exact h

protected theorem Spares.statementAfter {j : Job} (h : Spares K p W s t) : Spares K p W s (statementAfter j t) := by
  unfold statementAfter
  split
  · unfold statementIfDue
    split
    · refine Spares.ite ?_ h
      unfold produceStatement
      split
      · exact h
      · exact h.elsewhere rfl rfl rfl rfl
    · exact h
  · exact h

/-- The end of a job that is none of those spared. -/
protected theorem Spares.finishJob {code : ResultCode} {reason : Nat} (h : Spares K p W s t) (hi : K i = false) :
    Spares K p W s (finishJob i code reason t) := by
  unfold finishJob
  split
  · exact h
  · have returned : ∀ j, Spares K p W s (returnJob i j code reason t) := fun _ => h.addReturn
    exact (((returned _).leaveLists hi).releaseSaleEnd.lowerOpenJobs.statementAfter).freeRecord hi

/-- The coming back of a job that is none of those spared. -/
protected theorem Spares.sendBack {order : List JobIx} {reason : Nat} (h : Spares K p W s t) (hi : K i = false) :
    Spares K p W s (sendBack order q reason i t) := by
  unfold sendBack
  split
  · exact h
  · next j hj =>
    split
    · next w hw =>
      unfold requeue
      refine ((h.leavePrinter hi).modJob hi fun _ => ?_).joinFront hi fun j' hj' => ?_
      · exact ⟨fun hf => (nomatch hf), rfl, id⟩
      rw [jobAt_modJob, if_pos rfl] at hj'
      obtain ⟨j₁, hj₁, rfl⟩ := Option.map_eq_some_iff.mp hj'
      have hj₂ : jobAt t i = some j₁ := hj₁
      rw [hj] at hj₂
      cases hj₂
      exact hw
    · exact h.finishJob hi

/-- The granted jobs of a printer come back, where none of them is spared. -/
theorem Spares.sendBackGranted_of {order : List JobIx} (h : Spares K p W s t)
    (hq : ∀ i ∈ t.printers[q].outstanding, isGranted t i = true → K i = false) :
    Spares K p W s (sendBackGranted order q t) :=
  h.forEach fun i hi _ k => by
    obtain ⟨hm, hg⟩ := List.mem_filter.mp hi
    exact k.sendBack (hq i hm hg)

end

section
variable {K : JobIx → Bool} {p q : PrinterId} {W : List WindowId} {s t u : State} {i : JobIx} {w : WindowId}
  {order : List JobIx}

/-! ### Magazines, kinds and roll calls -/

protected theorem Spares.judgeFlags {k : KindId} (h : Spares K p W s t) : Spares K p W s (judgeFlags k t) := by
  unfold judgeFlags
  dsimp only
  split <;> exact h.elsewhere rfl rfl rfl rfl

protected theorem Spares.recomputeOf (h : Spares K p W s t) : Spares K p W s (recomputeOf q t) := by
  unfold recomputeOf recomputeKind
  refine Spares.ite (Spares.judgeFlags ?_) h
  split <;> exact h.elsewhere rfl rfl rfl rfl

protected theorem Spares.setMagazine {m : Magazine} (h : Spares K p W s t) : Spares K p W s (setMagazine q m t) := by
  have put : Spares K p W s { t with magazines := put t.magazines q m } := h.elsewhere rfl rfl rfl rfl
  exact put.ite put.markPrinter

protected theorem Spares.inDoubtBlank {n : Nat} {token : Byte} {window : Option WindowId} {shift : Nat}
    (h : Spares K p W s t) : Spares K p W s (inDoubtBlank q n token window shift t) := by
  have disposed : Spares K p W s (disposeBlank q n window shift .inDoubt .inDoubt t) := h.elsewhere rfl rfl rfl rfl
  exact disposed.setMagazine

protected theorem Spares.leaveSelection (h : Spares K p W s t) : Spares K p W s (leaveSelection q t) := by
  unfold leaveSelection
  split
  · dsimp only
    split <;> exact h.elsewhere rfl rfl rfl rfl
  · exact h

/-! ### Changes of state and faults -/

/-- A job in flight is not GRANTED. -/
theorem isGranted_eq_false (h : inFlight t i = true) : isGranted t i = false := by
  unfold inFlight isGranted jobIs at *
  cases hj : jobAt t i with
  | none => rfl
  | some j =>
    rw [hj] at h
    have flying : j.state = .sending ∨ j.state = .sent := (Job.flying_iff j).mp h
    rcases flying with e | e <;> simp [e]

/-- The granted jobs of a printer come back: those spared are of another printer, or in flight. -/
protected theorem Spares.sendBackGranted (h : Spares K p W s t)
    (hq : q ≠ p ∨ ∀ k, K k = true → inFlight s k = true) : Spares K p W s (sendBackGranted order q t) := by
  refine h.sendBackGranted_of fun i hi hg => ?_
  rcases hq with hq | hq
  · exact h.apart.listed q hq i hi
  · refine Bool.eq_false_iff.mpr fun hK => ?_
    have flight : inFlight t i = true := by
      rw [inFlight_eq, h.jobs i hK, ← inFlight_eq]
      exact hq i hK
    simp [isGranted_eq_false flight] at hg

/-- What follows a printer's entry to a state (R116, R117). -/
theorem Spares.entered {c : Prop} [Decidable c] (h : Spares K p W s t)
    (hq : q ≠ p ∨ ∀ k, K k = true → inFlight s k = true) :
    Spares K p W s (recomputeOf q (if c then sendBackGranted order q (releaseHold q t) else t)) :=
  ((h.releaseHold.sendBackGranted hq).ite h).recomputeOf

protected theorem Spares.enterState {new : PrinterState} (h : Spares K p W s t) (hq : q ≠ p) :
    Spares K p W s (enterState order q new t) := by
  unfold enterState
  refine Spares.entered (Spares.markPrinter (h.modPrinter ?_ ?_)) (.inl hq)
  · exact fun _ => rfl
  · exact fun e => absurd e hq

protected theorem Spares.breakReservation {l : List JobIx} (h : Spares K p W s t) (hl : ∀ i ∈ l, K i = false) :
    Spares K p W s (breakReservation order q l t) := by
  induction l generalizing t with
  | nil => exact h
  | cons i rest ih =>
    exact h.ite (ih (h.sendBack (hl i List.mem_cons_self)) fun k hk => hl k (List.mem_cons_of_mem i hk))

protected theorem Spares.magazineChanged (h : Spares K p W s t) (hq : q ≠ p ∨ t.printers[q].state ≠ .ready) :
    Spares K p W s (magazineChanged order q t) := by
  unfold magazineChanged
  have recomputed : Spares K p W s (recomputeOf q t) := h.recomputeOf
  have printers : (recomputeOf q t).printers = t.printers := by
    unfold recomputeOf recomputeKind judgeFlags
    dsimp only
    (repeat' split) <;> rfl
  dsimp only
  split
  · next ready =>
    rcases hq with hq | hq
    · refine Spares.ite (recomputed.enterState hq) (recomputed.breakReservation fun i hi => ?_)
      exact recomputed.apart.listed q hq i (List.mem_of_mem_filter (List.mem_reverse.mp hi))
    · exact absurd (printers ▸ ready) hq
  · exact recomputed

/-- An IN_DOUBT return of a job not spared, on another printer or on one that is not READY. -/
protected theorem Spares.endInDoubt (h : Spares K p W s t) (hi : K i = false)
    (hq : q ≠ p ∨ t.printers[q].state ≠ .ready) : Spares K p W s (endInDoubt order q i t) := by
  unfold endInDoubt
  split
  · exact h
  · have blank : ∀ {n : Nat} {token : Byte} {window : Option WindowId} {shift : Nat},
        Spares K p W s (magazineChanged order q (inDoubtBlank q n token window shift t)) := by
      intro n token window shift
      refine h.inDoubtBlank.magazineChanged (hq.imp_right fun hs => ?_)
      have printers : (inDoubtBlank q n token window shift t).printers = t.printers := by
        unfold inDoubtBlank setMagazine
        dsimp only
        split <;> rfl
      rwa [printers]
    dsimp only
    refine Spares.finishJob ?_ hi
    split
    · refine Spares.modTally ?_
      split
      · exact blank
      · exact h
    · split
      · exact blank
      · exact h

theorem mem_insertBySerial {k : JobIx} {l : List JobIx} : k ∈ insertBySerial s i l ↔ k = i ∨ k ∈ l := by
  induction l with
  | nil => simp [insertBySerial]
  | cons a rest ih =>
    unfold insertBySerial
    split
    · simp
    · simp only [List.mem_cons, ih]
      tauto

theorem mem_bySerial {k : JobIx} {l : List JobIx} : k ∈ bySerial s l ↔ k ∈ l := by
  induction l with
  | nil => simp [bySerial]
  | cons a rest ih => simpa [bySerial, mem_insertBySerial] using or_congr_right ih

protected theorem Spares.causeEffects {cause : FaultCause} (h : Spares K p W s t) (hq : q ≠ p) :
    Spares K p W s (causeEffects order q cause t) := by
  unfold causeEffects
  split
  case h_6 | h_7 =>
    refine h.forEach fun i hi u hu => hu.endInDoubt ?_ (.inl hq)
    exact h.apart.listed q hq i (List.mem_of_mem_filter (mem_bySerial.mp hi))
  case h_8 => exact h
  all_goals exact h.modLineRecord

protected theorem Spares.raiseFault {f : FaultInfo} (h : Spares K p W s t) (hq : q ≠ p) :
    Spares K p W s (raiseFault order q f t) := by
  have record : ∀ g : Printer → FaultRecord,
      Spares K p W s (modPrinter q (fun x => { x with fault := g x, notReady := none }) t) := fun g =>
    h.modPrinter (fun _ => rfl) fun e => absurd e hq
  unfold raiseFault
  split
  · exact h
  · exact h
  · exact Spares.causeEffects (Spares.markPrinter (record _)) hq
  all_goals
    have entered := ((record (fun x => firstFault f x t.settings.clock)).markPrinter (q := q) (cause := true)).enterState
      (order := order) (new := .faulted) hq |>.sendBackGranted (order := order) (.inl hq)
    exact Spares.causeEffects (entered.ite entered.leaveSelection) hq

/-! ### The duties of a sweep -/

protected theorem Spares.watchOutcomes (h : Spares K p W s t) (hq : q ≠ p) : Spares K p W s (watchOutcomes q t) := by
  have waited : Spares K p W s (forEach (flightList t q) (fun i => modJob i fun j => { j with outcomeWait := true }) t) :=
    h.forEach fun i hi _ hu =>
      hu.modJob (h.apart.listed q hq i (List.mem_of_mem_filter hi)) fun _ => ⟨id, rfl, id⟩
  unfold watchOutcomes
  dsimp only
  split
  · exact waited
  · exact waited.raiseFault hq

protected theorem Spares.watchHold (h : Spares K p W s t) : Spares K p W s (watchHold q t) := by
  have judged : ∀ x : Option Hold, Spares K p W s (modPrinter q (fun y => { y with hold := x }) t) := fun x =>
    h.modPrinter (fun _ => rfl) fun _ _ => ⟨rfl, rfl⟩
  unfold watchHold
  split
  · exact h
  · exact Spares.ite (h.releaseHold.ite (judged _)) (judged _)

protected theorem Spares.watchPrinter (h : Spares K p W s t) (hq : q ≠ p) : Spares K p W s (watchPrinter q t) :=
  (h.watchOutcomes hq).watchHold

/-- A job of one window's queue is in no other. -/
theorem Apart.one_queue (h : Apart K p W t) {j : Job} {v : WindowId} (hj : jobAt t i = some j) (hw : i ∈ t.queues[w])
    (hv : i ∈ t.queues[v]) : w = v :=
  Option.some.inj ((h.windows w i hw j hj).symm.trans (h.windows v i hv j hj))

protected theorem Spares.ageWindow (h : Spares K p W s t) (hw : w ∉ W) : Spares K p W s (ageWindow w t) := by
  unfold ageWindow
  split
  · exact h
  · next i head =>
    have queued := List.mem_of_mem_head? head
    have hi := h.apart.queued w i queued
    split
    · exact h
    · next j hj =>
      refine Spares.ite (h.modJob hi fun _ => ⟨id, rfl, fun ha => (nomatch ha)⟩) (Spares.ite ?_ ?_)
      · unfold handleStale
        exact Spares.ite (h.modJob hi fun _ => ⟨id, rfl, fun ha => (nomatch ha)⟩) (h.finishJob hi)
      · refine h.changed (fun k => tokenOf_modJob i k _ t) (fun k hk => ?_) (fun k j' hj' => ?_) rfl rfl rfl
        · rw [jobAt_modJob, if_neg fun e => by simp [← e, hi] at hk]
        · rw [jobAt_modJob] at hj'
          split at hj'
          · next e =>
            subst e
            obtain ⟨j₁, hj₁, rfl⟩ := Option.map_eq_some_iff.mp hj'
            refine ⟨j₁, hj₁, id, rfl, fun _ => .inr fun v hv hh => hw ?_⟩
            exact h.apart.one_queue hj₁ queued (List.mem_of_mem_head? hh) ▸ hv
          · exact ⟨j', hj', id, rfl, .inl⟩

protected theorem Spares.startRound {l : LineId} (h : Spares K p W s t) : Spares K p W s (startRound l t) := by
  unfold startRound recallIfFree
  split
  case h_1 | h_2 => split <;> exact h.elsewhere rfl rfl rfl rfl
  all_goals exact h

protected theorem Spares.markHeader (h : Spares K p W s t) : Spares K p W s (markHeader t) := h.elsewhere rfl rfl rfl rfl

end

end Sys2Proof.Machine
end

section
/-! SUPPORT. A fault that ends a printer's jobs in flight IN_DOUBT (R126 to R128): the state in which the ends begin (`Faulting`), and
that each job is freed and returned. -/

namespace Sys2Proof.Machine

section
variable {K : JobIx → Bool} {p q : PrinterId} {W : List WindowId} {s t u : State} {i : JobIx} {w : WindowId} {j : Job}
  {order : List JobIx}

/-! ### What the operations on stock and tallies change -/

theorem recomputeOf_eq (p : PrinterId) (s : State) :
    ∃ kinds marks, recomputeOf p s = { s with kinds := kinds, port := { s.port with stockMarks := marks } } := by
  unfold recomputeOf recomputeKind judgeFlags
  dsimp only
  (repeat' split) <;> exact ⟨_, _, rfl⟩

theorem setMagazine_eq (p : PrinterId) (m : Magazine) (s : State) : ∃ marks, setMagazine p m s =
    { s with magazines := put s.magazines p m, port := { s.port with printerMarks := marks } } := by
  unfold setMagazine
  dsimp only
  split <;> exact ⟨_, rfl⟩

theorem modTally_eq (w : WindowId) (shift : Nat) (f : Tally → Tally) (s : State) :
    ∃ current closing, modTally w shift f s = { s with current := current, closing := closing } := by
  unfold modTally
  split
  · exact ⟨_, _, rfl⟩
  · (repeat' split) <;> exact ⟨_, _, rfl⟩

theorem magazineChanged_not_ready (h : s.printers[p].state ≠ .ready) : magazineChanged order p s = recomputeOf p s := by
  obtain ⟨kinds, marks, e⟩ := recomputeOf_eq p s
  unfold magazineChanged
  dsimp only
  rw [if_neg]
  rw [e]
  exact h

/-! ### The end of a job -/

/-- A job that ends is freed, and its entry joins the Return Hold list (R43). -/
theorem finishJob_ends (hj : jobAt s i = some j) (code : ResultCode) (reason : Nat) :
    jobAt (finishJob i code reason s) i = none ∧
      s.port.returns ++ [entryNow s j.slip j.tag code (detailOf reason ||| clampedBit j.clamped)
        (jobResultBytes (tokenOf s i) j)] <+: (finishJob i code reason s).port.returns := by
  unfold finishJob
  rw [hj]
  dsimp only
  refine ⟨?_, ?_⟩
  · rw [jobAt_freeRecord, if_pos rfl]
  · obtain ⟨more, grown, -⟩ := (((((Work.refl (returnJob i j code reason s)).leaveLists (i := i) (j := j)).releaseSaleEnd
      (j := j)).lowerOpenJobs (j := j)).statementAfter (j := j)).freeRecord (i := i) |>.port.returns
    exact ⟨more, grown.symm⟩

/-- The state in which an IN_DOUBT return ends its job: the blank (R142) and the amount (R64) are in the books. -/
def inDoubtBooked (order : List JobIx) (p : PrinterId) (i : JobIx) (j : Job) (s : State) : State :=
  let t := match j.serial with
    | some n => magazineChanged order p (inDoubtBlank p n (tokenOf s i) j.window j.shift s)
    | none => s
  match j.window, j.tender with
  | some w, some x => modTally w j.shift (addInDoubt x j.amount) t
  | _, _ => t

theorem endInDoubt_eq (hj : jobAt s i = some j) :
    endInDoubt order p i s = finishJob i .inDoubt 0 (inDoubtBooked order p i j s) := by
  unfold endInDoubt inDoubtBooked
  rw [hj] <;> rfl

/-- A magazine after one of its blanks is turned in doubt (R142). -/
def magazineAfter (token : Byte) (n : Nat) (m : Magazine) : Magazine :=
  { m with
    notes := m.notes.filter fun x => x.token != token
    next := m.next + 1
    inDoubt := m.inDoubt + 1
    unverified := some (m.unverified.getD n) }

/-- A blank turned in doubt on a printer that is not READY, as one next state but for kinds and marks. -/
theorem blankBooked (h : s.printers[p].state ≠ .ready) (order : List JobIx) (n : Nat) (token : Byte)
    (window : Option WindowId) (shift : Nat) : ∃ kinds printerMarks stockMarks,
      magazineChanged order p (inDoubtBlank p n token window shift s) =
        { s with
          magazines := put s.magazines p (magazineAfter token n s.magazines[p])
          register := addEntry (inDoubtEntry s p n window shift) s.register
          dayTotals := countSpoils .inDoubt 1 s.dayTotals
          kinds := kinds
          port := { s.port with printerMarks := printerMarks, stockMarks := stockMarks } } := by
  obtain ⟨marks, e⟩ := setMagazine_eq p (magazineAfter token n s.magazines[p])
    (disposeBlank p n window shift .inDoubt .inDoubt s)
  have blank : inDoubtBlank p n token window shift s = _ := e
  have printers : (inDoubtBlank p n token window shift s).printers = s.printers := by rw [blank]; rfl
  obtain ⟨kinds, marks', e'⟩ := recomputeOf_eq p (inDoubtBlank p n token window shift s)
  rw [magazineChanged_not_ready (by rw [printers]; exact h), e', blank]
  exact ⟨kinds, marks, marks', rfl⟩

/-- On a printer that is not READY no other job is touched by that. -/
theorem inDoubtBooked_frame (h : s.printers[p].state ≠ .ready) :
    (inDoubtBooked order p i j s).jobs = s.jobs ∧ (inDoubtBooked order p i j s).settings = s.settings ∧
      (inDoubtBooked order p i j s).port.returns = s.port.returns := by
  have blank : ∀ n, let t := magazineChanged order p (inDoubtBlank p n (tokenOf s i) j.window j.shift s)
      t.jobs = s.jobs ∧ t.settings = s.settings ∧ t.port.returns = s.port.returns := fun n => by
    obtain ⟨_, _, _, e⟩ := blankBooked h order n (tokenOf s i) j.window j.shift
    rw [e]
    exact ⟨rfl, rfl, rfl⟩
  unfold inDoubtBooked
  dsimp only
  split
  · next w x _ _ =>
    obtain ⟨current, closing, e⟩ := modTally_eq w j.shift (addInDoubt x j.amount) (match j.serial with
      | some n => magazineChanged order p (inDoubtBlank p n (tokenOf s i) j.window j.shift s)
      | none => s)
    rw [e]
    dsimp only
    split
    · exact blank _
    · exact ⟨rfl, rfl, rfl⟩
  · split
    · exact blank _
    · exact ⟨rfl, rfl, rfl⟩

/-- A job returned IN_DOUBT is freed and its entry joins the Return Hold list. -/
theorem endInDoubt_ends (h : s.printers[p].state ≠ .ready) (hj : jobAt s i = some j) :
    jobAt (endInDoubt order p i s) i = none ∧
      s.port.returns ++ [entryNow s j.slip j.tag .inDoubt (clampedBit j.clamped) (jobResultBytes (tokenOf s i) j)] <+:
        (endInDoubt order p i s).port.returns := by
  obtain ⟨jobs, settings, returns⟩ := inDoubtBooked_frame (order := order) (i := i) (j := j) h
  have hb : jobAt (inDoubtBooked order p i j s) i = some j := by
    rw [← hj]
    unfold jobAt
    rw [jobs]
  have token : tokenOf (inDoubtBooked order p i j s) i = tokenOf s i := by
    unfold tokenOf
    rw [jobs]
  have detail : detailOf 0 ||| clampedBit j.clamped = clampedBit j.clamped := by
    simp [detailOf]
  obtain ⟨freed, entry⟩ := finishJob_ends hb .inDoubt 0
  rw [endInDoubt_eq hj]
  refine ⟨freed, ?_⟩
  rw [returns, token, detail] at entry
  have now : ∀ area, entryNow (inDoubtBooked order p i j s) j.slip j.tag .inDoubt (clampedBit j.clamped) area =
      entryNow s j.slip j.tag .inDoubt (clampedBit j.clamped) area := fun area => by
    unfold entryNow
    rw [settings]
  rwa [now] at entry

/-! ### The fault that ends jobs in doubt -/

/-- The entry of a job returned IN_DOUBT. -/
def inDoubtReturn (s : State) (i : JobIx) (j : Job) : ReturnEntry :=
  entryNow s j.slip j.tag .inDoubt (clampedBit j.clamped) (jobResultBytes (tokenOf s i) j)

theorem inDoubtReturn_eq (clock : t.settings = s.settings) (token : tokenOf t i = tokenOf s i) :
    inDoubtReturn t i j = inDoubtReturn s i j := by
  unfold inDoubtReturn entryNow
  rw [clock, token]

/-- The jobs of a list are ended in doubt: each is freed, its entry in the Return Hold list. -/
def EndedInDoubt (l : List JobIx) (s t : State) : Prop :=
  ∀ k ∈ l, ∀ j : Job, jobAt s k = some j → jobAt t k = none ∧ inDoubtReturn s k j ∈ t.port.returns

theorem EndedInDoubt.later {l : List JobIx} (h : EndedInDoubt l s t) (freed : ∀ k, jobAt t k = none → jobAt u k = none)
    (work : Work t u) : EndedInDoubt l s u := fun k hk j hj => by
  obtain ⟨none, entry⟩ := h k hk j hj
  obtain ⟨more, grown, -⟩ := work.port.returns
  exact ⟨freed k none, grown ▸ List.mem_append_left more entry⟩

theorem endInDoubt_settings (order : List JobIx) (p : PrinterId) (i : JobIx) (s : State) :
    (endInDoubt order p i s).settings = s.settings := congrArg Still.settings (endInDoubt_still order p i s)

/-- The jobs of a list returned IN_DOUBT one by one, on a printer that is not READY. -/
theorem forEach_endInDoubt {l : List JobIx} (hl : l.Nodup) (ready : t.printers[p].state ≠ .ready)
    (h : Apart (fun k => decide (k ∈ l)) p W t) :
    Spares (fun _ => false) p W t (forEach l (endInDoubt order p) t) ∧
      EndedInDoubt l t (forEach l (endInDoubt order p) t) := by
  induction l generalizing t with
  | nil => exact ⟨.refl (h.mono (fun _ _ => rfl) fun _ hw => hw), fun k hk => (nomatch hk)⟩
  | cons i rest ih =>
    obtain ⟨hi, hr⟩ := List.nodup_cons.mp hl
    have apart : Apart (fun k => decide (k ∈ rest)) p W t := h.mono (fun k hk => by
      simp only [decide_eq_false_iff_not, List.mem_cons, not_or] at hk ⊢
      exact hk.2) fun _ hw => hw
    have one : Spares (fun k => decide (k ∈ rest)) p W t (endInDoubt order p i t) :=
      (Spares.refl apart).endInDoubt (decide_eq_false hi) (.inr ready)
    have oneAny : Spares (fun _ => false) p W t (endInDoubt order p i t) :=
      (Spares.refl (h.mono (fun _ _ => rfl) fun _ hw => hw)).endInDoubt rfl (.inr ready)
    obtain ⟨spares, ended⟩ := ih hr (one.state ▸ ready) one.apart
    refine ⟨oneAny.trans spares, fun k hk j hj => ?_⟩
    rcases List.mem_cons.mp hk with rfl | hk
    · obtain ⟨none, entry⟩ := endInDoubt_ends (order := order) ready hj
      obtain ⟨more, grown, -⟩ :=
        ((Work.refl (endInDoubt order p k t)).forEach (l := rest) fun a _ k => k.endInDoubt (order := order) (p := p)
          (i := a)).port.returns
      refine ⟨spares.freed k none, grown ▸ List.mem_append_left more ?_⟩
      exact entry.subset (List.mem_append_right _ List.mem_cons_self)
    · obtain ⟨none, entry⟩ := ended k hk j ((one.jobs k (decide_eq_true hk)).trans hj)
      exact ⟨none, inDoubtReturn_eq (endInDoubt_settings order p i t) (one.tokens k) ▸ entry⟩

end

/-! ### The books -/

/-- The records an IN_DOUBT return writes: magazines, register, Day Totals and tallies. -/
structure Books where
  magazines : Vector Magazine 16
  register : SpoilRegister
  dayTotals : DayTotals
  current : Vector Tally 24
  closing : Vector (Option Tally) 24

/-- Those records of a state. -/
def books (s : State) : Books :=
  { magazines := s.magazines, register := s.register, dayTotals := s.dayTotals, current := s.current,
    closing := s.closing }

section
variable {p q : PrinterId} {s t : State} {i : JobIx} {w : WindowId} {order : List JobIx}

theorem books_ite {c : Prop} [Decidable c] : books (if c then s else t) = if c then books s else books t :=
  apply_ite books c s t

theorem books_setQueue (w : WindowId) (l : List JobIx) (s : State) : books (setQueue w l s) = books s := by
  unfold setQueue
  dsimp only
  split
  · split <;> rfl
  · rfl

theorem books_leaveLists (i : JobIx) (j : Job) (s : State) : books (leaveLists i j s) = books s := by
  unfold leaveLists
  split
  · rfl
  · exact books_setQueue ..
  · rfl

theorem books_releaseHold (p : PrinterId) (s : State) : books (releaseHold p s) = books s := by
  unfold releaseHold
  split <;> rfl

theorem books_releaseSaleEnd (j : Job) (s : State) : books (releaseSaleEnd j s) = books s := by
  unfold releaseSaleEnd
  split
  · split
    · exact forEach_keeps books _ _ books_releaseHold _
    · rfl
  · rfl

theorem books_freeRecord (i : JobIx) (s : State) : books (freeRecord i s) = books s := rfl

theorem books_recomputeOf (p : PrinterId) (s : State) : books (recomputeOf p s) = books s := by
  obtain ⟨kinds, marks, e⟩ := recomputeOf_eq p s
  rw [e]
  rfl

theorem books_leaveSelection (p : PrinterId) (s : State) : books (leaveSelection p s) = books s := by
  unfold leaveSelection
  split
  · dsimp only
    split <;> rfl
  · rfl

/-- A job that leaves its printer unprinted leaves the books alone: it comes back, or is a test print, of no tally. -/
theorem books_sendBack (order : List JobIx) (p : PrinterId) (reason : Nat) (i : JobIx) (s : State) :
    books (sendBack order p reason i s) = books s := by
  unfold sendBack
  split
  · rfl
  · next j hj =>
    split
    · exact books_setQueue ..
    · next test =>
      unfold finishJob
      rw [hj]
      have release : ∀ u, releaseSaleEnd j u = u := fun u => by unfold releaseSaleEnd; rw [test]
      have lower : ∀ u, lowerOpenJobs j u = u := fun u => by unfold lowerOpenJobs; rw [test]
      have statement : ∀ u, statementAfter j u = u := fun u => by unfold statementAfter; rw [test]
      dsimp only
      rw [release, lower, statement, books_freeRecord, books_leaveLists]
      rfl

theorem books_sendBackGranted (order : List JobIx) (p : PrinterId) (s : State) :
    books (sendBackGranted order p s) = books s :=
  forEach_keeps books _ _ (fun _ _ => books_sendBack ..) _

theorem books_watchHold (p : PrinterId) (s : State) : books (watchHold p s) = books s := by
  unfold watchHold
  split
  · rfl
  · split
    · split
      · exact books_releaseHold ..
      · rfl
    · rfl

theorem books_startRound (l : LineId) (s : State) : books (startRound l s) = books s := by
  unfold startRound recallIfFree
  split
  · split <;> rfl
  · split <;> rfl
  · rfl
  · rfl

end

/-! ### A fault that ends jobs in doubt -/

/-- The state in which the ends of a fault's jobs in flight begin: the record is written, the printer is FAULTED, and its
jobs in flight, the books and the settings are as they were. -/
structure Faulting (p : PrinterId) (W : List WindowId) (record : FaultRecord) (s t : State) : Prop where
  state : t.printers[p].state = .faulted
  fault : t.printers[p].fault = record
  mark : t.port.printerMarks[p] = .withCause
  apart : Apart (fun k => decide (k ∈ flightList s p)) p W t
  jobs : ∀ k ∈ flightList s p, jobAt t k = jobAt s k
  tokens : ∀ k, tokenOf t k = tokenOf s k
  flights : flightList t p = flightList s p
  freed : ∀ k, jobAt s k = none → jobAt t k = none
  work : Work s t
  still : still t = still s
  books : books t = books s

section
variable {p : PrinterId} {W : List WindowId} {s t u : State} {order : List JobIx} {f : FaultInfo}

theorem mem_flightList {k : JobIx} : k ∈ flightList s p ↔ k ∈ s.printers[p].outstanding ∧ inFlight s k = true :=
  List.mem_filter

theorem flightList_congr (jobs : t.jobs = s.jobs) (lists : t.printers[p].outstanding = s.printers[p].outstanding) :
    flightList t p = flightList s p := by
  unfold flightList
  rw [lists]
  exact List.filter_congr fun k _ => by unfold inFlight jobIs jobAt; rw [jobs]

/-- Work that spares a printer's jobs in flight leaves them its jobs in flight. -/
theorem Spares.flightList (h : Spares (fun k => decide (k ∈ flightList s p)) p W s t) :
    Machine.flightList t p = Machine.flightList s p := by
  have here : t.printers[p].outstanding.filter (inFlight t) =
      t.printers[p].outstanding.filter fun k => decide (k ∈ Machine.flightList s p) := by
    refine List.filter_congr fun k hk => ?_
    rw [Bool.eq_iff_iff, decide_eq_true_iff]
    refine ⟨fun hf => mem_flightList.mpr ⟨h.sub.subset hk, h.flights k hf⟩, fun hf => ?_⟩
    rw [inFlight_eq, h.jobs k (decide_eq_true hf), ← inFlight_eq]
    exact (mem_flightList.mp hf).2
  have there : s.printers[p].outstanding.filter (fun k => decide (k ∈ Machine.flightList s p)) =
      s.printers[p].outstanding.filter (inFlight s) := by
    refine List.filter_congr fun k hk => ?_
    rw [Bool.eq_iff_iff, decide_eq_true_iff, mem_flightList]
    exact ⟨And.right, fun hf => ⟨hk, hf⟩⟩
  exact here.trans (h.kept.trans there)

/-- A state that differs in the printer's state and record alone, followed by work that spares its jobs in flight. -/
theorem Faulting.of_spares {record : FaultRecord} (jobs : t.jobs = s.jobs)
    (lists : t.printers[p].outstanding = s.printers[p].outstanding)
    (spares : Spares (fun k => decide (k ∈ flightList t p)) p W t u) (state : t.printers[p].state = .faulted)
    (fault : t.printers[p].fault = record) (mark : t.port.printerMarks[p] = .withCause)
    (work : Work s u) (still : Machine.still u = Machine.still s) (books : Machine.books u = Machine.books s) :
    Faulting p W record s u := by
  have jobAt_eq : ∀ k, jobAt t k = jobAt s k := fun k => by unfold jobAt; rw [jobs]
  have flights : flightList t p = flightList s p := flightList_congr jobs lists
  refine ⟨spares.state.trans state, spares.fault.trans fault, spares.mark mark, flights ▸ spares.apart,
    fun k hk => (spares.jobs k (decide_eq_true (flights ▸ hk))).trans (jobAt_eq k), fun k => ?_,
    spares.flightList.trans flights, fun k hk => spares.freed k ((jobAt_eq k).trans hk), work, still, books⟩
  rw [spares.tokens]
  unfold tokenOf
  rw [jobs]

/-- The record that a fault leaves, from the state it finds (R126). -/
def recordAfter (f : FaultInfo) (s : State) (p : PrinterId) : FaultRecord :=
  if s.printers[p].state = .faulted then furtherFault f s.printers[p].fault
  else firstFault f s.printers[p] s.settings.clock

/-- A fault written in a printer's record. -/
def faultNoted (p : PrinterId) (record : Printer → FaultRecord) (s : State) : State :=
  markPrinter p true (modPrinter p (fun x => { x with fault := record x, notReady := none }) s)

/-- The printer as it enters FAULTED, before what follows from that (R117). -/
def faultEntered (p : PrinterId) (s : State) : State :=
  markPrinter p false (modPrinter p (fun x => { x with state := .faulted, spoilRun := x.spoilRun }) s)

theorem faultNoted_printers (p q : PrinterId) (record : Printer → FaultRecord) (s : State) :
    (faultNoted p record s).printers[q] =
      if p = q then { s.printers[q] with fault := record s.printers[q], notReady := none } else s.printers[q] :=
  upd_get ..

theorem faultEntered_printers (p q : PrinterId) (s : State) :
    (faultEntered p s).printers[q] = if p = q then { s.printers[q] with state := .faulted } else s.printers[q] :=
  upd_get ..

theorem faultNoted_mark (p : PrinterId) (record : Printer → FaultRecord) (s : State) :
    (faultNoted p record s).port.printerMarks[p] = .withCause := by
  unfold faultNoted
  rw [markPrinter_marks, if_pos rfl]
  exact (markSet_spec _ _).2.mpr (.inr rfl)

theorem faultEntered_mark (h : s.port.printerMarks[p] = .withCause) :
    (faultEntered p s).port.printerMarks[p] = .withCause := by
  unfold faultEntered
  rw [markPrinter_marks, if_pos rfl]
  exact (markSet_spec _ _).2.mpr (.inl h)

theorem faultNoted_lists (p q : PrinterId) (record : Printer → FaultRecord) (s : State) :
    (faultNoted p record s).printers[q].outstanding = s.printers[q].outstanding := by
  rw [faultNoted_printers]
  split <;> rfl

theorem faultEntered_lists (p q : PrinterId) (s : State) :
    (faultEntered p s).printers[q].outstanding = s.printers[q].outstanding := by
  rw [faultEntered_printers]
  split <;> rfl

/-- The state in which the ends of a first fault's jobs in flight begin. -/
def faultStarted (order : List JobIx) (p : PrinterId) (f : FaultInfo) (s : State) : State :=
  let noted := faultNoted p (fun x => firstFault f x s.settings.clock) s
  let t := sendBackGranted order p (enterState order p .faulted noted)
  if f.own then t else leaveSelection p t

theorem faultStarted_faulting (hs : s.printers[p].state ≠ .faulted)
    (h : Apart (fun k => decide (k ∈ flightList s p)) p W s) :
    Faulting p W (recordAfter f s p) s (faultStarted order p f s) := by
  let noted := faultNoted p (fun x => firstFault f x s.settings.clock) s
  let t := faultEntered p noted
  have lists : ∀ q : PrinterId, t.printers[q].outstanding = s.printers[q].outstanding := fun q =>
    (faultEntered_lists p q noted).trans (faultNoted_lists p q _ s)
  have printer : t.printers[p] = { s.printers[p] with
      fault := firstFault f s.printers[p] s.settings.clock, notReady := none, state := .faulted } := by
    rw [faultEntered_printers, if_pos rfl, faultNoted_printers, if_pos rfl]
  have begun : Spares (fun k => decide (k ∈ flightList t p)) p W t t := by
    refine .refl ?_
    rw [flightList_congr (s := s) (t := t) rfl (lists p)]
    exact h.same rfl rfl lists
  have flying : p ≠ p ∨ ∀ k, decide (k ∈ flightList t p) = true → inFlight t k = true :=
    .inr fun k hk => (mem_flightList.mp (of_decide_eq_true hk)).2
  have entered : Spares (fun k => decide (k ∈ flightList t p)) p W t (enterState order p .faulted noted) :=
    begun.entered flying
  have back := entered.sendBackGranted (order := order) flying
  have work : Work s (sendBackGranted order p (enterState order p .faulted noted)) :=
    (Work.refl s).modPrinter.markPrinter.enterState.sendBackGranted
  have books_noted : books (sendBackGranted order p (enterState order p .faulted noted)) = books s := by
    rw [books_sendBackGranted]
    unfold enterState
    dsimp only
    rw [books_recomputeOf, books_ite, books_sendBackGranted, books_releaseHold, ite_self]
    rfl
  have still_noted : still (sendBackGranted order p (enterState order p .faulted noted)) = still s := by
    rw [sendBackGranted_still, enterState_still]
    rfl
  refine .of_spares (t := t) rfl (lists p) (back.ite back.leaveSelection) (by rw [printer]) ?_
    (faultEntered_mark (faultNoted_mark ..)) (work.ite work.leaveSelection) ?_ ?_
  · rw [printer, recordAfter, if_neg hs]
  · unfold faultStarted
    dsimp only
    split
    · exact still_noted
    · exact (leaveSelection_still ..).trans still_noted
  · unfold faultStarted
    dsimp only
    split
    · exact books_noted
    · exact (books_leaveSelection ..).trans books_noted

/-- A missing outcome faults its printer: its jobs in flight are then returned IN_DOUBT in order of serial (R126 to
R128). -/
theorem raiseFault_noOutcome (hs : s.printers[p].state ≠ .unconfigured) (hs' : s.printers[p].state ≠ .offline)
    (cause : f.cause = .noOutcome) (h : Apart (fun k => decide (k ∈ flightList s p)) p W s) :
    ∃ t, Faulting p W (recordAfter f s p) s t ∧
      raiseFault order p f s = forEach (bySerial t (flightList t p)) (endInDoubt order p) t := by
  unfold raiseFault
  split
  · next e => exact absurd e hs
  · next e => exact absurd e hs'
  · next faulted =>
    rw [cause]
    let t := faultNoted p (furtherFault f ·.fault) s
    have lists : ∀ q : PrinterId, t.printers[q].outstanding = s.printers[q].outstanding := fun q => faultNoted_lists ..
    have printer : t.printers[p] = { s.printers[p] with
        fault := furtherFault f s.printers[p].fault, notReady := none } := by
      rw [faultNoted_printers, if_pos rfl]
    refine ⟨t, .of_spares (t := t) rfl (lists p) (.refl ?_) (by rw [printer]; exact faulted) ?_ (faultNoted_mark ..)
      (Work.refl s).modPrinter.markPrinter rfl rfl, rfl⟩
    · rw [flightList_congr (s := s) (t := t) rfl (lists p)]
      exact h.same rfl rfl lists
    · rw [printer, recordAfter, if_pos faulted]
  all_goals
    next e =>
    rw [cause]
    have unfaulted : s.printers[p].state ≠ .faulted := by
      rw [e]
      exact fun h => (nomatch h)
    exact ⟨faultStarted order p f s, faultStarted_faulting unfaulted h, rfl⟩

end

section
variable {K : JobIx → Bool} {p q : PrinterId} {W : List WindowId} {s t u : State} {i : JobIx} {order : List JobIx}

/-! ### Outcomes awaited (R125) -/

/-- The jobs in flight of a printer await their outcomes. -/
def awaitOutcomes (p : PrinterId) (s : State) : State :=
  forEach (flightList s p) (fun i => modJob i fun j => { j with outcomeWait := true }) s

/-- What the fault of a missing outcome is raised with. -/
def noOutcomeInfo (s : State) (i : JobIx) : FaultInfo :=
  { cause := .noOutcome, flags := none, token := some (tokenOf s i), serial := serialOf s i, own := false }

theorem watchOutcomes_owed {later : List JobIx} (h : owedJobs s p = i :: later) : 
    watchOutcomes p s = raiseFault s.printers[p].outstanding p (noOutcomeInfo s i) (awaitOutcomes p s) := by
  unfold watchOutcomes awaitOutcomes
  rw [h]
  rfl

theorem watchOutcomes_none (h : owedJobs s p = []) : watchOutcomes p s = awaitOutcomes p s := by
  unfold watchOutcomes awaitOutcomes
  rw [h]

theorem watchPrinter_quiet (none : owedJobs s p = []) : watchPrinter p s = watchHold p (awaitOutcomes p s) :=
  congrArg (watchHold p) (watchOutcomes_none none)

/-- Changes of jobs one by one change the job records alone. -/
theorem forEach_modJob_eq (l : List JobIx) (f : Job → Job) (s : State) :
    ∃ jobs, forEach l (fun i => modJob i f) s = { s with jobs := jobs } := by
  induction l generalizing s with
  | nil => exact ⟨s.jobs, rfl⟩
  | cons a rest ih =>
    obtain ⟨jobs, e⟩ := ih (modJob a f s)
    exact ⟨jobs, e⟩

theorem forEach_modJob_tokenOf (l : List JobIx) (f : Job → Job) (s : State) (k : JobIx) :
    tokenOf (forEach l (fun i => modJob i f) s) k = tokenOf s k :=
  forEach_keeps (tokenOf · k) l _ (fun a u => tokenOf_modJob a k f u) s

theorem forEach_modJob_jobAt {l : List JobIx} (hl : l.Nodup) (f : Job → Job) (s : State) (k : JobIx) :
    jobAt (forEach l (fun i => modJob i f) s) k = if k ∈ l then (jobAt s k).map f else jobAt s k := by
  induction l generalizing s with
  | nil => rfl
  | cons a rest ih =>
    obtain ⟨ha, hr⟩ := List.nodup_cons.mp hl
    refine (ih hr (modJob a f s)).trans ?_
    rw [jobAt_modJob]
    by_cases hk : k = a
    · subst hk
      simp [ha]
    · simp [hk, Ne.symm hk]

theorem awaitOutcomes_eq (p : PrinterId) (s : State) : ∃ jobs, awaitOutcomes p s = { s with jobs := jobs } :=
  forEach_modJob_eq ..

theorem jobAt_awaitOutcomes (h : s.printers[p].outstanding.Nodup) (k : JobIx) : jobAt (awaitOutcomes p s) k =
    if k ∈ flightList s p then (jobAt s k).map fun j => { j with outcomeWait := true } else jobAt s k :=
  forEach_modJob_jobAt (h.filter _) ..

theorem awaitOutcomes_frame (p : PrinterId) (s : State) :
    (awaitOutcomes p s).queues = s.queues ∧ (awaitOutcomes p s).printers = s.printers ∧
      (awaitOutcomes p s).port = s.port ∧ (awaitOutcomes p s).lines = s.lines ∧ books (awaitOutcomes p s) = books s ∧
      still (awaitOutcomes p s) = still s ∧ ∀ k, tokenOf (awaitOutcomes p s) k = tokenOf s k := by
  obtain ⟨jobs, e⟩ := awaitOutcomes_eq p s
  refine ⟨?_, ?_, ?_, ?_, ?_, ?_, forEach_modJob_tokenOf _ _ s⟩ <;> rw [e] <;> rfl

theorem inFlight_awaitOutcomes (h : s.printers[p].outstanding.Nodup) (k : JobIx) :
    inFlight (awaitOutcomes p s) k = inFlight s k := by
  rw [inFlight_eq, inFlight_eq, jobAt_awaitOutcomes h]
  split
  · cases jobAt s k <;> rfl
  · rfl

theorem flightList_awaitOutcomes (h : s.printers[p].outstanding.Nodup) :
    flightList (awaitOutcomes p s) p = flightList s p := by
  obtain ⟨-, printers, -⟩ := awaitOutcomes_frame p s
  unfold flightList
  rw [printers]
  exact List.filter_congr fun k _ => inFlight_awaitOutcomes h k

/-- Jobs stay apart while outcomes begin to be awaited. -/
theorem Apart.awaitOutcomes (h : Apart K p W s) : Apart K p W (awaitOutcomes q s) := by
  obtain ⟨queues, printers, -⟩ := awaitOutcomes_frame q s
  have any : Spares (fun _ => false) p W s (Machine.awaitOutcomes q s) :=
    (Spares.refl (h.mono (fun _ _ => rfl) fun _ hw => hw)).forEach fun i _ _ hu => hu.modJob rfl fun _ => ⟨id, rfl, id⟩
  exact ⟨queues ▸ h.queued, printers ▸ h.listed, any.apart.windows, any.apart.fresh⟩

/-! ### The places of jobs (R42) -/

/-- The jobs of a printer's list. -/
def onList (s : State) (p : PrinterId) (k : JobIx) : Bool := decide (k ∈ s.printers[p].outstanding)

theorem onList_iff {k : JobIx} : onList s p k = true ↔ k ∈ s.printers[p].outstanding := decide_eq_true_iff

/-- No head job of the windows is aged. -/
def FreshHeads (W : List WindowId) (s : State) : Prop :=
  ∀ w ∈ W, ∀ i : JobIx, s.queues[w].head? = some i → ∀ j : Job, jobAt s i = some j → j.aged = false

theorem PlaceLaw.apart (h : PlaceLaw s) (fresh : FreshHeads W s) (p : PrinterId) : Apart (onList s p) p W s := by
  obtain ⟨-, -, -, place⟩ := h
  refine ⟨fun w i hi => ?_, fun q hq i hi => ?_, fun w i hi j hj => ?_, fresh⟩
  all_goals obtain ⟨queue, list, -⟩ := place i
  · obtain ⟨j, hj, -, hn⟩ := (queue w).mp hi
    refine decide_eq_false fun hm => ?_
    obtain ⟨j', hj', hp⟩ := (list p).mp hm
    rw [hj] at hj'
    cases hj'
    rw [hn] at hp
    cases hp
  · obtain ⟨j, hj, hn⟩ := (list q).mp hi
    refine decide_eq_false fun hm => ?_
    obtain ⟨j', hj', hp⟩ := (list p).mp hm
    rw [hj] at hj'
    cases hj'
    rw [hn] at hp
    exact hq (Option.some.inj hp)
  · obtain ⟨j', hj', hw, -⟩ := (queue w).mp hi
    rw [hj] at hj'
    cases hj'
    exact hw

/-- Work that spares all of a printer's jobs leaves its list as it was. -/
theorem Spares.outstanding (h : Spares (onList s p) p W s t) : t.printers[p].outstanding = s.printers[p].outstanding := by
  refine h.sub.eq_of_length_le ?_
  have all : s.printers[p].outstanding.filter (onList s p) = s.printers[p].outstanding :=
    List.filter_eq_self.mpr fun k hk => onList_iff.mpr hk
  rw [← all, ← h.kept]
  exact List.length_filter_le _ _

theorem Spares.inFlight_onList (h : Spares (onList s p) p W s t) {k : JobIx} (hk : k ∈ s.printers[p].outstanding) :
    inFlight t k = inFlight s k := by
  rw [inFlight_eq, inFlight_eq, h.jobs k (onList_iff.mpr hk)]

theorem Spares.flightList_onList (h : Spares (onList s p) p W s t) : Machine.flightList t p = Machine.flightList s p := by
  unfold Machine.flightList
  rw [h.outstanding]
  exact List.filter_congr fun k hk => h.inFlight_onList hk

theorem Spares.owedJobs (h : Spares (onList s p) p W s t) : Machine.owedJobs t p = Machine.owedJobs s p := by
  unfold Machine.owedJobs
  rw [h.flightList_onList]
  refine List.filter_congr fun k hk => ?_
  unfold jobIs
  rw [h.jobs k (onList_iff.mpr (mem_flightList.mp hk).1)]

/-! ### A missing outcome (R125 to R128) -/

theorem perm_insertBySerial (s : State) (i : JobIx) (l : List JobIx) : (insertBySerial s i l).Perm (i :: l) := by
  induction l with
  | nil => exact .refl _
  | cons a rest ih =>
    unfold insertBySerial
    split
    · exact .refl _
    · exact (ih.cons a).trans (.swap ..)

theorem perm_bySerial (s : State) (l : List JobIx) : (bySerial s l).Perm l := by
  induction l with
  | nil => exact .refl _
  | cons a rest ih => exact (perm_insertBySerial s a _).trans (ih.cons a)

/-- The record that the fault of a missing outcome leaves, with the flags of a printer that was not FAULTED (R126). -/
def noOutcomeRecord (s : State) (p : PrinterId) (i : JobIx) (flags : BitVec 5) : FaultRecord :=
  if s.printers[p].state = .faulted then furtherFault (noOutcomeInfo s i) s.printers[p].fault
  else { state := .opened, first := some .noOutcome, latest := some .noOutcome, flags := flags,
         clock := s.settings.clock, further := 0, token := some (tokenOf s i), serial := serialOf s i }

/-- The printer's fault of a missing outcome stands in its record, its entry is marked, its jobs in flight are ended. -/
structure FaultedOut (p : PrinterId) (i : JobIx) (s t : State) : Prop where
  state : t.printers[p].state = .faulted
  fault : ∃ flags, t.printers[p].fault = noOutcomeRecord s p i flags
  mark : t.port.printerMarks[p] = .withCause
  ended : EndedInDoubt (flightList s p) s t

theorem FaultedOut.later (h : FaultedOut p i s t) (spares : Spares (fun _ => false) p W t u) (work : Work t u) :
    FaultedOut p i s u :=
  ⟨spares.state.trans h.state, spares.fault ▸ h.fault, spares.mark h.mark, h.ended.later spares.freed work⟩

/-- In a state that spares the printer's jobs, where an outcome is owed: the state in which the ends of its jobs in flight
begin. -/
theorem watchOutcomes_faults {later : List JobIx} (h : Spares (onList s p) p W s t) (clock : t.settings = s.settings)
    (place : PlaceLaw s) (hs : s.printers[p].state ≠ .unconfigured) (hs' : s.printers[p].state ≠ .offline)
    (owed : owedJobs s p = i :: later) :
    ∃ v flags, Faulting p W (noOutcomeRecord s p i flags) (awaitOutcomes p t) v ∧
      watchOutcomes p t = forEach (bySerial v (flightList v p)) (endInDoubt t.printers[p].outstanding p) v := by
  have nodup : t.printers[p].outstanding.Nodup := h.outstanding ▸ place.2.2.1 p
  obtain ⟨-, printers, -, -, -, hstill, -⟩ := awaitOutcomes_frame p t
  have info : noOutcomeInfo t i = noOutcomeInfo s i := by
    have hi : i ∈ s.printers[p].outstanding := by
      have : i ∈ owedJobs s p := owed ▸ List.mem_cons_self
      exact (mem_flightList.mp (List.mem_of_mem_filter this)).1
    unfold noOutcomeInfo serialOf
    rw [h.tokens, h.jobs i (onList_iff.mpr hi)]
  have apart : Apart (fun k => decide (k ∈ flightList (awaitOutcomes p t) p)) p W (awaitOutcomes p t) := by
    refine h.apart.awaitOutcomes.mono (fun k hk => decide_eq_false fun hm => ?_) fun _ hw => hw
    rw [flightList_awaitOutcomes nodup, h.flightList_onList] at hm
    exact absurd (mem_flightList.mp hm).1 (of_decide_eq_false hk)
  obtain ⟨v, faulting, e⟩ := raiseFault_noOutcome (order := t.printers[p].outstanding) (f := noOutcomeInfo s i)
    (by rw [printers, h.state]; exact hs) (by rw [printers, h.state]; exact hs') rfl apart
  refine ⟨v, t.printers[p].lastFlags, ?_, ?_⟩
  · convert faulting using 1
    have settings : (awaitOutcomes p t).settings = t.settings := congrArg Still.settings hstill
    unfold noOutcomeRecord recordAfter
    rw [printers, h.state, h.fault, settings, clock]
    rfl
  · rw [watchOutcomes_owed (h.owedJobs.trans owed), info]
    exact e

/-- The printer's jobs in flight are then ended in doubt. -/
theorem watchOutcomes_faultedOut {later : List JobIx} (h : Spares (onList s p) p W s t) (clock : t.settings = s.settings)
    (place : PlaceLaw s) (hs : s.printers[p].state ≠ .unconfigured) (hs' : s.printers[p].state ≠ .offline)
    (owed : owedJobs s p = i :: later) :
    FaultedOut p i s (watchOutcomes p t) ∧ Apart (fun _ => false) p W (watchOutcomes p t) := by
  have nodup : t.printers[p].outstanding.Nodup := h.outstanding ▸ place.2.2.1 p
  obtain ⟨-, -, -, -, -, hstill, htokens⟩ := awaitOutcomes_frame p t
  obtain ⟨v, flags, faulting, e⟩ := watchOutcomes_faults h clock place hs hs' owed
  have flights : flightList (awaitOutcomes p t) p = flightList s p :=
    (flightList_awaitOutcomes nodup).trans h.flightList_onList
  have mem : ∀ k, k ∈ bySerial v (flightList v p) ↔ k ∈ flightList s p := fun k => by
    rw [mem_bySerial, faulting.flights, flights]
  have hl : (bySerial v (flightList v p)).Nodup := by
    rw [(perm_bySerial v _).nodup_iff, faulting.flights, flights]
    exact (place.2.2.1 p).filter _
  have apart : Apart (fun k => decide (k ∈ bySerial v (flightList v p))) p W v :=
    faulting.apart.mono (fun k hk => by simpa [mem, flights] using hk) fun _ hw => hw
  have ready : v.printers[p].state ≠ .ready := by
    rw [faulting.state]
    exact fun h => (nomatch h)
  obtain ⟨spares, ended⟩ := forEach_endInDoubt (order := t.printers[p].outstanding) hl ready apart
  rw [e]
  refine ⟨⟨spares.state.trans faulting.state, ⟨flags, spares.fault.trans faulting.fault⟩, spares.mark faulting.mark,
    fun k hk j hj => ?_⟩, spares.apart⟩
  have hk' : k ∈ flightList t p := h.flightList_onList ▸ hk
  have waiting : jobAt v k = some { j with outcomeWait := true } := by
    rw [faulting.jobs k (flights ▸ hk), jobAt_awaitOutcomes nodup, if_pos hk',
      h.jobs k (onList_iff.mpr (mem_flightList.mp hk).1), hj]
    rfl
  have entry : inDoubtReturn v k { j with outcomeWait := true } = inDoubtReturn s k j := by
    refine Eq.trans ?_ (inDoubtReturn_eq (s := s) (t := v) (i := k) (j := j) ?_ ?_)
    · rfl
    · exact (congrArg Still.settings (faulting.still.trans hstill)).trans clock
    · rw [faulting.tokens, htokens, h.tokens]
  exact entry ▸ ended k ((mem k).mpr hk) _ waiting

end

end Sys2Proof.Machine
end

section
/-! PROOF. A missing outcome in a sweep (R125 to R128): the printer's fault, and what its IN_DOUBT returns write in magazine, register,
Day Totals and tallies (R142, R152, R165, R64, R43). -/

namespace Sys2Proof.Machine

section
variable {K : JobIx → Bool} {p : PrinterId} {W : List WindowId} {s t u : State} {i : JobIx}

theorem sweepCounted_eq (h : granting s = true) :
    ∃ time express, sweepCounted s = { s with time := time, express := express } :=
  ⟨_, _, sweepCounted_granting h⟩

/-- A duty other than the watch on the printer, and other than the aging of the windows named. -/
protected theorem Spares.duty {d : Duty} (h : Spares K p W s t) (hp : d ≠ .watch p) (hw : ∀ w ∈ W, d ≠ .age w) :
    Spares K p W s (d.run t) := by
  cases d with
  | age w => exact h.ageWindow fun hm => hw w hm rfl
  | watch q => exact h.watchPrinter fun e => hp (congrArg Duty.watch e)
  | round l => exact h.startRound
  | header => exact h.markHeader

theorem Duty.run_settings (d : Duty) (s : State) : (d.run s).settings = s.settings :=
  congrArg Still.settings (d.run_still s)

/-! ### R125 to R128 in a sweep -/

/-- Before the watch on the printer its jobs are spared; after it, its fault stands. -/
def FaultsPrinter (s : State) (p : PrinterId) (i : JobIx) (todo : Duty → Prop) (u : State) : Prop :=
  u.settings = s.settings ∧ (todo (.watch p) → Spares (onList s p) p [] s u) ∧
    (¬todo (.watch p) → FaultedOut p i s u ∧ Apart (fun _ => false) p [] u)

theorem FaultsPrinter.duty {later : List JobIx} (place : PlaceLaw s) (hs : s.printers[p].state ≠ .unconfigured)
    (hs' : s.printers[p].state ≠ .offline) (owed : owedJobs s p = i :: later) {d : Duty} {todo : Duty → Prop} {u : State}
    (hd : ¬todo d) (h : FaultsPrinter s p i (fun e => e = d ∨ todo e) u) : FaultsPrinter s p i todo (d.run u) := by
  obtain ⟨clock, before, after⟩ := h
  refine ⟨(d.run_settings u).trans clock, fun ht => ?_, fun ht => ?_⟩
  · have other : d ≠ .watch p := fun e => hd (e ▸ ht)
    exact (before (.inr ht)).duty other fun _ hw => (nomatch hw)
  · by_cases hd : d = .watch p
    · subst hd
      obtain ⟨out, apart⟩ := watchOutcomes_faultedOut (before (.inl rfl)) clock place hs hs' owed
      have spares := (Spares.refl apart).watchHold (q := p)
      exact ⟨out.later spares (Work.refl _).watchHold, spares.apart⟩
    · obtain ⟨out, apart⟩ := after fun h => h.elim (fun e => hd e.symm) ht
      have spares := (Spares.refl apart).duty hd fun _ hw => (nomatch hw)
      exact ⟨out.later spares (d.run_work u), spares.apart⟩

theorem sweep_faultedOut {later : List JobIx} (hg : granting s = true) (place : PlaceLaw s)
    (hs : s.printers[p].state ≠ .unconfigured) (hs' : s.printers[p].state ≠ .offline) (owed : owedJobs s p = i :: later)
    (blocks windows printers : List Nat) : FaultedOut p i s (sweepEvent blocks windows printers s) := by
  obtain ⟨time, express, counted⟩ := sweepCounted_eq hg
  have start : FaultsPrinter s p i (fun _ => True) (sweepCounted s) := by
    rw [counted]
    refine ⟨rfl, fun _ => ?_, fun h => absurd trivial h⟩
    exact (Spares.refl (place.apart (W := []) (fun _ hw => absurd hw List.not_mem_nil) p)).elsewhere rfl rfl rfl rfl
  exact ((sweep_todo (FaultsPrinter s p i) (fun _ _ _ hd h => h.duty place hs hs' owed hd) blocks windows printers
    start).2.2 id).1

end

/-! ### Tallies and columns (R62, R64) -/

/-- A tally after the amount of a job in doubt is noted (R64). -/
def amountNoted (j : Job) (c : Tally) : Tally :=
  match j.tender with
  | some x => addInDoubt x j.amount c
  | none => c

theorem amountNoted_shift (j : Job) (c : Tally) : (amountNoted j c).shift = c.shift := by
  unfold amountNoted
  split
  · next x _ => cases x <;> rfl
  · rfl

/-- A tally after a job is returned IN_DOUBT: its amount noted (R64), one job less open (R43). -/
def tallyAfter (j : Job) (c : Tally) : Tally := { amountNoted j c with openJobs := (amountNoted j c).openJobs - 1 }

/-- The columns after one amount in doubt. -/
def columnsAfter (c : TenderColumns) (amount : Nat) : TenderColumns :=
  { c with inDoubt := satAdd Config.max32 c.inDoubt amount, inDoubtCount := satAdd Config.max16 c.inDoubtCount 1 }

theorem inDoubtColumns_cons (c : TenderColumns) (a : Nat) (rest : List Nat) :
    inDoubtColumns c (a :: rest) = inDoubtColumns (columnsAfter c a) rest := by
  unfold inDoubtColumns columnsAfter satAdd
  cases rest with
  | nil => simp [Config.max32, Config.max16]
  | cons b rest =>
    simp only [reduceCtorEq, if_false, List.sum_cons, List.length_cons, Config.max32, Config.max16]
    congr 1 <;> omega

theorem saturates_iff (limit a b : Nat) : saturates limit a b = true ↔ limit < a + b := decide_eq_true_iff

theorem inDoubtOverflows_cons (c : TenderColumns) (a : Nat) (rest : List Nat) : inDoubtOverflows c (a :: rest) =
    (saturates Config.max32 c.inDoubt a || saturates Config.max16 c.inDoubtCount 1 ||
      inDoubtOverflows (columnsAfter c a) rest) := by
  have some : ∀ (b : Nat) (l : List Nat), (b :: l != []) = true := fun _ _ => rfl
  unfold inDoubtOverflows columnsAfter satAdd
  rw [some, Bool.eq_iff_iff]
  cases rest with
  | nil => simp [saturates_iff, Config.max32, Config.max16]
  | cons b rest =>
    rw [some]
    simp only [saturates_iff, Bool.or_eq_true, Bool.true_and, decide_eq_true_eq]
    simp only [List.sum_cons, List.length_cons, Config.max32, Config.max16]
    omega

theorem amountsIn_cons (j : Job) (rest : List Job) (x : Tender) :
    amountsIn (j :: rest) x = if j.tender = some x then j.amount :: amountsIn rest x else amountsIn rest x := by
  unfold amountsIn
  rw [List.filter_cons]
  by_cases h : j.tender = some x <;> simp [h]

theorem ofShift_cons (x : JobIx × Job) (rest : List (JobIx × Job)) (w : WindowId) (shift : Nat) :
    ofShift (x :: rest) w shift =
      if x.2.window = some w ∧ x.2.shift = shift then x.2 :: ofShift rest w shift else ofShift rest w shift := by
  unfold ofShift
  rw [List.map_cons, List.filter_cons]
  by_cases h : x.2.window = some w ∧ x.2.shift = shift <;> simp [h]

theorem inDoubtTally_nil (c : Tally) : inDoubtTally c (amountsIn []) = c := by
  simp [inDoubtTally, inDoubtColumns, inDoubtOverflows, amountsIn]

/-- Amounts noted one by one: the first, then the rest. -/
theorem inDoubtTally_cons (j : Job) (rest : List Job) (c : Tally) :
    { inDoubtTally c (amountsIn (j :: rest)) with openJobs := c.openJobs - (rest.length + 1) } =
      { inDoubtTally (tallyAfter j c) (amountsIn rest) with openJobs := (tallyAfter j c).openJobs - rest.length } := by
  have fewer : c.openJobs - (rest.length + 1) = c.openJobs - 1 - rest.length := by omega
  rw [fewer]
  unfold tallyAfter amountNoted
  cases ht : j.tender with
  | none => simp [inDoubtTally, amountsIn_cons, ht, columnsOf]
  | some x =>
    cases x <;>
      simp [inDoubtTally, amountsIn_cons, ht, columnsOf, withColumns, addInDoubt, noteSaturation, inDoubtColumns_cons,
        inDoubtOverflows_cons, columnsAfter] <;>
      ac_rfl

/-! ### What one IN_DOUBT return writes in the books -/

section
variable {p : PrinterId} {W : List WindowId} {s t u : State} {i : JobIx} {j : Job} {n : Nat} {order : List JobIx}

/-- A window's CLOSING tally after a change to the tally of a shift. -/
theorem modTally_closing {w v : WindowId} {shift : Nat} {f : Tally → Tally} {c : Tally} (h : s.closing[v] = some c)
    (hc : c.shift ≠ s.current[v].shift) :
    (modTally w shift f s).closing[v] = some (if w = v ∧ c.shift = shift then f c else c) := by
  by_cases own : w = v ∧ c.shift = shift
  · rw [if_pos own]
    obtain ⟨rfl, rfl⟩ := own
    unfold modTally
    rw [if_neg hc.symm, h]
    dsimp only
    rw [if_pos rfl]
    exact put_get_self ..
  · rw [if_neg own]
    unfold modTally
    split
    · exact h
    · split
      · next t ht =>
        split
        · next hs =>
          have other : w ≠ v := fun e => by
            subst e
            rw [ht] at h
            cases h
            exact own ⟨rfl, hs⟩
          exact (put_get_other _ _ _ _ other).trans h
        · exact h
      · exact h

/-- A change to the tally of a job's shift; a test print has none. -/
def modTallyOf (j : Job) (f : Tally → Tally) (s : State) : State :=
  match j.window with
  | some w => modTally w j.shift f s
  | none => s

theorem lowerOpenJobs_eq (j : Job) (s : State) :
    lowerOpenJobs j s = modTallyOf j (fun t => { t with openJobs := t.openJobs - 1 }) s := rfl

theorem modTallyOf_eq (j : Job) (f : Tally → Tally) (s : State) :
    ∃ current closing, modTallyOf j f s = { s with current := current, closing := closing } := by
  unfold modTallyOf
  split
  · exact modTally_eq ..
  · exact ⟨s.current, s.closing, rfl⟩

theorem modTallyOf_current (j : Job) (f : Tally → Tally) (s : State) (v : WindowId) : (modTallyOf j f s).current[v] =
    if j.window = some v ∧ j.shift = s.current[v].shift then f s.current[v] else s.current[v] := by
  unfold modTallyOf
  split
  · next w hw =>
    rw [modTally_current, hw]
    refine if_congr ?_ rfl rfl
    constructor
    · rintro ⟨rfl, e⟩
      exact ⟨rfl, e.symm⟩
    · rintro ⟨e, hs⟩
      cases e
      exact ⟨rfl, hs.symm⟩
  · next hw => rw [hw, if_neg fun e => (nomatch e.1)]

theorem modTallyOf_closing {f : Tally → Tally} {v : WindowId} {c : Tally} (h : s.closing[v] = some c)
    (hc : c.shift ≠ s.current[v].shift) :
    (modTallyOf j f s).closing[v] = some (if j.window = some v ∧ j.shift = c.shift then f c else c) := by
  unfold modTallyOf
  split
  · next w hw =>
    rw [modTally_closing h hc, hw]
    refine congrArg some (if_congr ?_ rfl rfl)
    constructor
    · rintro ⟨rfl, e⟩
      exact ⟨rfl, e.symm⟩
    · rintro ⟨e, hs⟩
      cases e
      exact ⟨rfl, hs.symm⟩
  · next hw =>
    rw [hw, if_neg fun e => (nomatch e.1)]
    exact h

theorem addStatement_inDoubtSpoils (t : Tally) (c : StatementClass) (variance : Int) (d : DayTotals) :
    (addStatement t c variance d).inDoubtSpoils = d.inDoubtSpoils := by cases c <;> rfl

/-- What a statement leaves of the books: it discards a CLOSING tally without open jobs (R159). -/
theorem statementAfter_books (j : Job) (s : State) :
    (statementAfter j s).magazines = s.magazines ∧ (statementAfter j s).register = s.register ∧
      (statementAfter j s).dayTotals.inDoubtSpoils = s.dayTotals.inDoubtSpoils ∧
      (statementAfter j s).current = s.current ∧
      ∀ (v : WindowId) (c : Tally), s.closing[v] = some c → c.openJobs ≠ 0 → (statementAfter j s).closing[v] = some c := by
  unfold statementAfter
  split
  · next w _ =>
    unfold statementIfDue
    split
    · next t d ht hd =>
      split
      · next none =>
        unfold produceStatement
        rw [ht]
        dsimp only
        refine ⟨rfl, rfl, addStatement_inDoubtSpoils .., rfl, fun v c hv hc => ?_⟩
        have other : w ≠ v := fun e => by
          subst e
          rw [ht] at hv
          cases hv
          exact hc none
        exact (put_get_other _ _ _ _ other).trans hv
      · exact ⟨rfl, rfl, rfl, rfl, fun _ _ h _ => h⟩
    · exact ⟨rfl, rfl, rfl, rfl, fun _ _ h _ => h⟩
  · exact ⟨rfl, rfl, rfl, rfl, fun _ _ h _ => h⟩

/-- What the end of a job writes in the books: its shift's tally counts one open job less (R43). -/
theorem finishJob_books (hj : jobAt s i = some j) (code : ResultCode) (reason : Nat) :
    (finishJob i code reason s).magazines = s.magazines ∧ (finishJob i code reason s).register = s.register ∧
      (finishJob i code reason s).dayTotals.inDoubtSpoils = s.dayTotals.inDoubtSpoils ∧
      (∀ v : WindowId, (finishJob i code reason s).current[v] =
        if j.window = some v ∧ j.shift = s.current[v].shift then
          { s.current[v] with openJobs := s.current[v].openJobs - 1 } else s.current[v]) ∧
      ∀ (v : WindowId) (c : Tally), s.closing[v] = some c → c.shift ≠ s.current[v].shift →
        let after := if j.window = some v ∧ j.shift = c.shift then { c with openJobs := c.openJobs - 1 } else c
        after.openJobs ≠ 0 → (finishJob i code reason s).closing[v] = some after := by
  unfold finishJob
  rw [hj]
  dsimp only
  have same : books (releaseSaleEnd j (leaveLists i j (returnJob i j code reason s))) = books s := by
    rw [books_releaseSaleEnd, books_leaveLists]
    rfl
  generalize releaseSaleEnd j (leaveLists i j (returnJob i j code reason s)) = x at same
  have magazines : x.magazines = s.magazines := congrArg Books.magazines same
  have register : x.register = s.register := congrArg Books.register same
  have totals : x.dayTotals = s.dayTotals := congrArg Books.dayTotals same
  have current : x.current = s.current := congrArg Books.current same
  have closing : x.closing = s.closing := congrArg Books.closing same
  obtain ⟨hm, hr, hd, hc, hcl⟩ := statementAfter_books j (lowerOpenJobs j x)
  obtain ⟨current', closing', e⟩ := modTallyOf_eq j (fun t => { t with openJobs := t.openJobs - 1 }) x
  rw [lowerOpenJobs_eq] at *
  refine ⟨hm.trans (e ▸ magazines), hr.trans (e ▸ register), hd.trans (e ▸ congrArg DayTotals.inDoubtSpoils totals),
    fun v => ?_, fun v c hv hs hn => hcl v _ ?_ hn⟩
  · rw [← current]
    exact (congrArg (·[v]) hc).trans (modTallyOf_current j _ x v)
  · exact modTallyOf_closing (closing ▸ hv) (current ▸ hs)

/-- What the return of one job IN_DOUBT, its provisional serial `n`, writes (R142, R152, R165, R64, R43). -/
structure EndedOne (p : PrinterId) (i : JobIx) (j : Job) (n : Nat) (s t : State) : Prop where
  magazine : t.magazines[p] = { s.magazines[p] with
    notes := s.magazines[p].notes.filter fun x => x.token != tokenOf s i
    next := s.magazines[p].next + 1
    inDoubt := s.magazines[p].inDoubt + 1
    unverified := some (s.magazines[p].unverified.getD n) }
  register : t.register = addEntry (inDoubtEntry s p n j.window j.shift) s.register
  spoils : t.dayTotals.inDoubtSpoils = min 65535 (s.dayTotals.inDoubtSpoils + 1)
  current : ∀ v : WindowId, t.current[v] =
    if j.window = some v ∧ j.shift = s.current[v].shift then tallyAfter j s.current[v] else s.current[v]
  closing : ∀ (v : WindowId) (c : Tally), s.closing[v] = some c → c.shift ≠ s.current[v].shift →
    let after := if j.window = some v ∧ j.shift = c.shift then tallyAfter j c else c
    after.openJobs ≠ 0 → t.closing[v] = some after
  freed : jobAt t i = none
  returns : s.port.returns ++ [inDoubtReturn s i j] <+: t.port.returns
  tokens : ∀ k, tokenOf t k = tokenOf s k
  settings : t.settings = s.settings

/-- A tally left as it is. -/
theorem modTally_id (w : WindowId) (shift : Nat) (s : State) : modTally w shift (fun c => c) s = s := by
  unfold modTally
  split
  · unfold modCurrent upd
    rw [put_self]
  · split
    · next t ht =>
      split
      · rw [← ht, put_self]
      · rfl
    · rfl

/-- The books in the state in which an IN_DOUBT return ends its job. -/
theorem inDoubtBooked_books (h : s.printers[p].state ≠ .ready) (hn : j.serial = some n) :
    let t := inDoubtBooked order p i j s
    t.magazines = put s.magazines p (magazineAfter (tokenOf s i) n s.magazines[p]) ∧
    t.register = addEntry (inDoubtEntry s p n j.window j.shift) s.register ∧
    t.dayTotals.inDoubtSpoils = min 65535 (s.dayTotals.inDoubtSpoils + 1) ∧
    (∀ v : WindowId, t.current[v] =
      if j.window = some v ∧ j.shift = s.current[v].shift then amountNoted j s.current[v] else s.current[v]) ∧
    ∀ (v : WindowId) (c : Tally), s.closing[v] = some c → c.shift ≠ s.current[v].shift →
      t.closing[v] = some (if j.window = some v ∧ j.shift = c.shift then amountNoted j c else c) := by
  obtain ⟨kinds, marks, marks', blank⟩ := blankBooked h order n (tokenOf s i) j.window j.shift
  have booked : inDoubtBooked order p i j s = modTallyOf j (amountNoted j)
      (magazineChanged order p (inDoubtBlank p n (tokenOf s i) j.window j.shift s)) := by
    unfold inDoubtBooked modTallyOf amountNoted
    rw [hn]
    cases j.window with
    | none => rfl
    | some w =>
      cases j.tender with
      | some x => rfl
      | none => exact (modTally_id w j.shift _).symm
  obtain ⟨current, closing, e⟩ := modTallyOf_eq j (amountNoted j)
    (magazineChanged order p (inDoubtBlank p n (tokenOf s i) j.window j.shift s))
  dsimp only
  rw [booked]
  refine ⟨?_, ?_, ?_, fun v => ?_, fun v c hv hc => ?_⟩
  · rw [e, blank]
  · rw [e, blank]
  · rw [e, blank]
    rfl
  · rw [modTallyOf_current, blank]
  · rw [modTallyOf_closing (c := c)]
    · rw [blank]
      exact hv
    · rw [blank]
      exact hc

theorem endInDoubt_one (h : s.printers[p].state ≠ .ready) (hj : jobAt s i = some j) (hn : j.serial = some n)
    (tokens : ∀ k, tokenOf (endInDoubt order p i s) k = tokenOf s k) : EndedOne p i j n s (endInDoubt order p i s) := by
  obtain ⟨freed, returns⟩ := endInDoubt_ends (order := order) h hj
  obtain ⟨jobs, -, -⟩ := inDoubtBooked_frame (order := order) (i := i) (j := j) h
  obtain ⟨magazines, register, spoils, current, closing⟩ := inDoubtBooked_books (order := order) (i := i) h hn
  have hb : jobAt (inDoubtBooked order p i j s) i = some j := by
    unfold jobAt
    rw [jobs]
    exact hj
  obtain ⟨magazines', register', spoils', current', closing'⟩ := finishJob_books hb .inDoubt 0
  rw [← endInDoubt_eq hj] at magazines' register' spoils' current' closing'
  have shift : ∀ v : WindowId, (inDoubtBooked order p i j s).current[v].shift = s.current[v].shift := fun v => by
    rw [current]
    split
    · exact amountNoted_shift ..
    · rfl
  refine ⟨?_, register'.trans register, spoils'.trans spoils, fun v => ?_, fun v c hv hc => ?_, freed, returns, tokens,
    endInDoubt_settings ..⟩
  · rw [magazines', magazines, put_get_self]
    rfl
  · rw [current', shift, current]
    split <;> rfl
  · have noted := closing v c hv hc
    by_cases own : j.window = some v ∧ j.shift = c.shift
    · rw [if_pos own] at noted ⊢
      have ends := closing' v _ noted (by rw [amountNoted_shift, shift]; exact hc)
      rw [if_pos ⟨own.1, own.2.trans (amountNoted_shift j c).symm⟩] at ends
      exact ends
    · rw [if_neg own] at noted ⊢
      have ends := closing' v _ noted (by rw [shift]; exact hc)
      rw [if_neg own] at ends
      exact ends

end

/-! ### IN_DOUBT returns one after another (R142) -/

section
variable {p : PrinterId} {W : List WindowId} {s t u : State} {i : JobIx} {j : Job} {n : Nat} {order : List JobIx}
  {l : List (JobIx × Job)}

/-- A magazine after blanks are turned in doubt, the first of serial `first`, their jobs' notes dropped (R142). -/
def magazineAfterAll (tokens : List Byte) (count : Nat) (first : Option Nat) (m : Magazine) : Magazine :=
  { m with
    notes := m.notes.filter fun n => !tokens.contains n.token
    next := m.next + count
    inDoubt := m.inDoubt + count
    unverified := match m.unverified with
      | some v => some v
      | none => first }

theorem magazineAfterAll_nil (m : Magazine) : magazineAfterAll [] 0 none m = m := by
  obtain ⟨loaded, kind, first, last, next, issued, spoiled, inDoubt, notes, unverified, frozen⟩ := m
  cases unverified <;> simp [magazineAfterAll]

theorem magazineAfterAll_cons (token : Byte) (tokens : List Byte) (n count : Nat) (first : Option Nat) (m : Magazine) :
    magazineAfterAll (token :: tokens) (count + 1) (some n) m =
      magazineAfterAll tokens count first (magazineAfter token n m) := by
  obtain ⟨loaded, kind, first', last, next, issued, spoiled, inDoubt, notes, unverified, frozen⟩ := m
  have both : notes.filter (fun x => !(token :: tokens).contains x.token) =
      (notes.filter fun x => x.token != token).filter fun x => !tokens.contains x.token := by
    rw [List.filter_filter]
    refine List.filter_congr fun x _ => ?_
    rw [List.contains_cons, Bool.not_or, Bool.and_comm]
    rfl
  unfold magazineAfterAll magazineAfter
  dsimp only
  rw [both]
  congr 1
  · omega
  · omega
  · cases unverified <;> rfl

theorem inDoubtEffects_nil (p : PrinterId) (s : State) : InDoubtEffects s s p [] := by
  refine ⟨?_, rfl, rfl, fun w => ?_, fun w c hc _ _ => ?_, fun x hx => (nomatch hx), by simp⟩
  · exact (magazineAfterAll_nil _).symm
  · exact (inDoubtTally_nil _).symm
  · rw [hc]
    exact congrArg some (inDoubtTally_nil _).symm

theorem ofShift_length_cons (x : JobIx × Job) (w : WindowId) (shift : Nat) :
    (ofShift (x :: l) w shift).length =
      (ofShift l w shift).length + if x.2.window = some w ∧ x.2.shift = shift then 1 else 0 := by
  rw [ofShift_cons]
  split <;> simp

theorem tallyAfter_shift (j : Job) (c : Tally) : (tallyAfter j c).shift = c.shift := amountNoted_shift j c

theorem amountNoted_openJobs (j : Job) (c : Tally) : (amountNoted j c).openJobs = c.openJobs := by
  unfold amountNoted
  split
  · next x _ => cases x <;> rfl
  · rfl

theorem tallyAfter_openJobs (j : Job) (c : Tally) : (tallyAfter j c).openJobs = c.openJobs - 1 := by
  unfold tallyAfter
  rw [amountNoted_openJobs]

/-- A tally after the jobs of its shift, the first of them apart. -/
theorem tally_cons (x : JobIx × Job) (l : List (JobIx × Job)) (w : WindowId) (c : Tally) :
    let first := if x.2.window = some w ∧ x.2.shift = c.shift then tallyAfter x.2 c else c
    { inDoubtTally c (amountsIn (ofShift (x :: l) w c.shift)) with
        openJobs := c.openJobs - (ofShift (x :: l) w c.shift).length } =
      { inDoubtTally first (amountsIn (ofShift l w first.shift)) with
        openJobs := first.openJobs - (ofShift l w first.shift).length } := by
  dsimp only
  rw [ofShift_cons]
  split
  · rw [tallyAfter_shift]
    exact inDoubtTally_cons ..
  · rfl

/-- The first of the jobs, then the rest. -/
theorem inDoubtEffects_cons (one : EndedOne p i j n s t) (hn : j.serial = some n) (rest : InDoubtEffects t u p l)
    (freed : jobAt u i = none) : InDoubtEffects s u p ((i, j) :: l) := by
  obtain ⟨magazine, register, spoils, current, closing, ended, returns⟩ := rest
  have kind : t.magazines[p].kind = s.magazines[p].kind := by rw [one.magazine]
  have tokens : (l.map fun x => tokenOf t x.1) = l.map fun x => tokenOf s x.1 :=
    List.map_congr_left fun x _ => one.tokens x.1
  have shift : ∀ w : WindowId, t.current[w].shift = s.current[w].shift := fun w => by
    rw [one.current]
    split
    · exact tallyAfter_shift ..
    · rfl
  refine ⟨?_, ?_, ?_, fun w => ?_, fun w c hc hs => ?_, fun x hx => ?_, ?_⟩
  · have first : t.magazines[p] = magazineAfter (tokenOf s i) n s.magazines[p] := one.magazine
    rw [first, tokens] at magazine
    refine magazine.trans ((magazineAfterAll_cons _ _ n _ (l.head?.bind (·.2.serial)) _).symm.trans ?_)
    rw [← hn]
    rfl
  · have entry : ∀ a b c, inDoubtEntry t p a b c = inDoubtEntry s p a b c := fun _ _ _ => by
      unfold inDoubtEntry
      rw [kind, one.settings]
    rw [register, one.register, List.foldl_cons]
    simp only [entry, hn, Option.getD_some]
  · rw [spoils, one.spoils]
    cases l with
    | nil => simp
    | cons x l =>
      simp only [reduceCtorEq, if_false, List.length_cons]
      omega
  · have later := current w
    dsimp only at later ⊢
    rw [tally_cons, later, one.current]
  · have first := one.closing w c hc hs
    have merged := tally_cons (i, j) l w c
    have length := ofShift_length_cons (l := l) (i, j) w c.shift
    dsimp only at first merged length ⊢
    intro fewer
    rw [length] at fewer
    rw [merged]
    split at first
    · next own =>
      rw [if_pos own] at fewer ⊢
      refine closing w _ (first ?_) ?_ ?_
      · rw [tallyAfter_openJobs]
        omega
      · rw [tallyAfter_shift, shift]
        exact hs
      · rw [tallyAfter_shift, tallyAfter_openJobs]
        omega
    · next own =>
      rw [if_neg own] at fewer ⊢
      refine closing w _ (first ?_) ?_ ?_
      · omega
      · rw [shift]
        exact hs
      · exact fewer
  · rcases List.mem_cons.mp hx with rfl | hx
    · exact freed
    · exact ended x hx
  · have entries : (l.map fun x => entryNow t x.2.slip x.2.tag .inDoubt (clampedBit x.2.clamped)
          (jobResultBytes (tokenOf t x.1) x.2)) =
        l.map fun x => entryNow s x.2.slip x.2.tag .inDoubt (clampedBit x.2.clamped)
          (jobResultBytes (tokenOf s x.1) x.2) :=
      List.map_congr_left fun x _ => inDoubtReturn_eq one.settings (one.tokens x.1)
    rw [entries] at returns
    rw [List.map_cons]
    refine List.Sublist.trans ?_ returns
    rw [← List.singleton_append, ← List.append_assoc]
    exact one.returns.sublist.append_right _

/-- No effect depends on the outcome being awaited. -/
theorem EndedOne.of_waiting (h : EndedOne p i { j with outcomeWait := true } n s t) : EndedOne p i j n s t :=
  ⟨h.magazine, h.register, h.spoils, h.current, h.closing, h.freed, h.returns, h.tokens, h.settings⟩

/-- The jobs of a list that await their outcomes returned IN_DOUBT in its order, on a printer that is not READY. -/
theorem inDoubtEffects_forEach (hl : (l.map (·.1)).Nodup) (ready : s.printers[p].state ≠ .ready)
    (apart : Apart (fun k => decide (k ∈ l.map (·.1))) p W s)
    (jobs : ∀ x ∈ l, jobAt s x.1 = some { x.2 with outcomeWait := true } ∧ x.2.serial ≠ none) :
    InDoubtEffects s (forEach (l.map (·.1)) (endInDoubt order p) s) p l := by
  induction l generalizing s with
  | nil => exact inDoubtEffects_nil p s
  | cons x rest ih =>
    obtain ⟨i, j⟩ := x
    rw [List.map_cons] at hl apart ⊢
    obtain ⟨hi, hr⟩ := List.nodup_cons.mp hl
    obtain ⟨hj, hn⟩ := jobs (i, j) List.mem_cons_self
    obtain ⟨n, hn⟩ := Option.ne_none_iff_exists'.mp hn
    have less : Apart (fun k => decide (k ∈ rest.map (·.1))) p W s := apart.mono (fun k hk => by
      simp only [decide_eq_false_iff_not, List.mem_cons, not_or] at hk ⊢
      exact hk.2) fun _ hw => hw
    have step : Spares (fun k => decide (k ∈ rest.map (·.1))) p W s (endInDoubt order p i s) :=
      (Spares.refl less).endInDoubt (decide_eq_false hi) (.inr ready)
    have ready' : (endInDoubt order p i s).printers[p].state ≠ .ready := step.state ▸ ready
    have one := (endInDoubt_one ready hj hn step.tokens).of_waiting
    obtain ⟨spares, -⟩ := forEach_endInDoubt (order := order) hr ready' step.apart
    refine inDoubtEffects_cons one hn (ih hr ready' step.apart fun x hx => ?_) (spares.freed i one.freed)
    obtain ⟨hx', hn'⟩ := jobs x (List.mem_cons_of_mem _ hx)
    exact ⟨(step.jobs x.1 (decide_eq_true (List.mem_map_of_mem hx))).trans hx', hn'⟩

/-- The same effects counted from an earlier state with the same books. -/
theorem InDoubtEffects.earlier (h : InDoubtEffects t u p l) (same : books t = books s) (clock : t.settings = s.settings)
    (tokens : ∀ k, tokenOf t k = tokenOf s k) (port : PortGrows s.port t.port) : InDoubtEffects s u p l := by
  obtain ⟨magazine, register, spoils, current, closing, ended, returns⟩ := h
  have hm : t.magazines = s.magazines := congrArg Books.magazines same
  have hr : t.register = s.register := congrArg Books.register same
  have hd : t.dayTotals = s.dayTotals := congrArg Books.dayTotals same
  have hc : t.current = s.current := congrArg Books.current same
  have hcl : t.closing = s.closing := congrArg Books.closing same
  have entries : (l.map fun x => entryNow t x.2.slip x.2.tag .inDoubt (clampedBit x.2.clamped)
        (jobResultBytes (tokenOf t x.1) x.2)) =
      l.map fun x => entryNow s x.2.slip x.2.tag .inDoubt (clampedBit x.2.clamped)
        (jobResultBytes (tokenOf s x.1) x.2) :=
    List.map_congr_left fun x _ => inDoubtReturn_eq clock (tokens x.1)
  have entry : ∀ a b c, inDoubtEntry t p a b c = inDoubtEntry s p a b c := fun _ _ _ => by
    unfold inDoubtEntry
    rw [hm, clock]
  refine ⟨?_, ?_, ?_, fun w => ?_, fun w c hs => ?_, ended, ?_⟩
  · simpa only [hm, tokens] using magazine
  · simpa only [hr, entry] using register
  · rw [spoils, hd]
  · have later := current w
    rwa [hc] at later
  · have later := closing w c (hcl ▸ hs)
    rwa [hc] at later
  · obtain ⟨more, grown, -⟩ := port.returns
    rw [entries, grown] at returns
    exact ((List.sublist_append_left _ _).append_right _).trans returns

/-- Work that leaves the books alone, and frees no less, leaves the effects as they are. -/
theorem InDoubtEffects.later (h : InDoubtEffects s t p l) (same : books u = books t)
    (freed : ∀ k, jobAt t k = none → jobAt u k = none) (work : Work t u) : InDoubtEffects s u p l := by
  obtain ⟨magazine, register, spoils, current, closing, ended, returns⟩ := h
  have hm : u.magazines = t.magazines := congrArg Books.magazines same
  have hr : u.register = t.register := congrArg Books.register same
  have hd : u.dayTotals = t.dayTotals := congrArg Books.dayTotals same
  have hc : u.current = t.current := congrArg Books.current same
  have hcl : u.closing = t.closing := congrArg Books.closing same
  obtain ⟨more, grown, -⟩ := work.port.returns
  refine ⟨hm ▸ magazine, hr.trans register, hd ▸ spoils, hc ▸ current, hcl ▸ closing, fun x hx => freed _ (ended x hx), ?_⟩
  rw [grown]
  exact returns.trans (List.sublist_append_left _ _)

/-! ### Order of serial -/

/-- The serial by which jobs are ordered. -/
def serialKey (s : State) (i : JobIx) : Nat := (serialOf s i).getD 0

theorem pairwise_insertBySerial (s : State) (i : JobIx) {l : List JobIx}
    (h : l.Pairwise fun a b => serialKey s a ≤ serialKey s b) :
    (insertBySerial s i l).Pairwise fun a b => serialKey s a ≤ serialKey s b := by
  induction l with
  | nil => exact List.pairwise_singleton _ _
  | cons k rest ih =>
    obtain ⟨hk, hr⟩ := List.pairwise_cons.mp h
    unfold insertBySerial
    split
    · next le =>
      refine List.pairwise_cons.mpr ⟨fun a ha => ?_, h⟩
      rcases List.mem_cons.mp ha with rfl | ha
      · exact le
      · exact Nat.le_trans le (hk a ha)
    · next gt =>
      refine List.pairwise_cons.mpr ⟨fun a ha => ?_, ih hr⟩
      rcases mem_insertBySerial.mp ha with rfl | ha
      · exact Nat.le_of_not_le gt
      · exact hk a ha

theorem pairwise_bySerial (s : State) (l : List JobIx) :
    (bySerial s l).Pairwise fun a b => serialKey s a ≤ serialKey s b := by
  induction l with
  | nil => exact List.Pairwise.nil
  | cons a rest ih => exact pairwise_insertBySerial s a ih

/-- A list in strict order of serial is the one order of its jobs. -/
theorem bySerial_eq {l l' : List JobIx} (perm : l'.Perm l)
    (order : l'.Pairwise fun a b => serialKey t a < serialKey t b) : bySerial t l = l' := by
  have apart : ∀ a ∈ l', ∀ b ∈ l', a = b ∨ serialKey t a ≠ serialKey t b := by
    have there := order.imp (S := fun a b => a = b ∨ serialKey t a ≠ serialKey t b) fun h => .inr (Nat.ne_of_lt h)
    have back := order.imp (S := flip fun a b => a = b ∨ serialKey t a ≠ serialKey t b) fun h => .inr (Nat.ne_of_gt h)
    exact fun a ha b hb => there.forall_of_forall_of_flip (fun _ _ => .inl rfl) back ha hb
  refine List.Perm.eq_of_pairwise (fun a b ha hb hab hba => ?_) (pairwise_bySerial t l)
    (order.imp Nat.le_of_lt) ((perm_bySerial t l).trans perm.symm)
  have ha' : a ∈ l' := perm.mem_iff.mpr (mem_bySerial.mp ha)
  exact (apart a ha' b hb).resolve_right fun ne => ne (Nat.le_antisymm hab hba)

end

section
variable {K : JobIx → Bool} {p : PrinterId} {W : List WindowId} {s t u : State} {i : JobIx} {l : List (JobIx × Job)}

/-! ### In-doubt effects in a sweep (R128, R142) -/

theorem books_awaitOutcomes (p : PrinterId) (s : State) : books (awaitOutcomes p s) = books s := by
  obtain ⟨-, -, -, -, same, -⟩ := awaitOutcomes_frame p s
  exact same

theorem watchOutcomes_effects {later : List JobIx} (h : Spares (onList s p) p W s t) (hstill : t.settings = s.settings)
    (place : PlaceLaw s) (hs : s.printers[p].state ≠ .unconfigured) (hs' : s.printers[p].state ≠ .offline)
    (owed : owedJobs s p = i :: later) (same : books t = books s) (port : PortGrows s.port t.port) (hl : InFlightInOrder s p l) :
    InDoubtEffects s (watchOutcomes p t) p l := by
  have nodup : t.printers[p].outstanding.Nodup := h.outstanding ▸ place.2.2.1 p
  obtain ⟨-, -, -, -, books_await, still_await, tokens_await⟩ := awaitOutcomes_frame p t
  obtain ⟨v, flags, faulting, e⟩ := watchOutcomes_faults h hstill place hs hs' owed
  obtain ⟨perm, jobs, order⟩ := hl
  have flights : flightList (awaitOutcomes p t) p = flightList s p :=
    (flightList_awaitOutcomes nodup).trans h.flightList_onList
  have waiting : ∀ x ∈ l, jobAt v x.1 = some { x.2 with outcomeWait := true } ∧ x.2.serial ≠ none := by
    intro x hx
    obtain ⟨hj, hn⟩ := jobs x hx
    have hk : x.1 ∈ flightList s p := perm.mem_iff.mp (List.mem_map_of_mem hx)
    have hk' : x.1 ∈ flightList t p := h.flightList_onList ▸ hk
    refine ⟨?_, hn⟩
    rw [faulting.jobs x.1 (flights ▸ hk), jobAt_awaitOutcomes nodup, if_pos hk',
      h.jobs x.1 (onList_iff.mpr (mem_flightList.mp hk).1), hj]
    rfl
  have key : ∀ x ∈ l, serialKey v x.1 = x.2.serial.getD 0 := fun x hx => by
    unfold serialKey serialOf
    rw [(waiting x hx).1]
    rfl
  have sorted : bySerial v (flightList v p) = l.map (·.1) := by
    refine bySerial_eq (faulting.flights.trans flights ▸ perm) (List.pairwise_map.mpr ?_)
    refine order.imp_of_mem fun ha hb hab => ?_
    rw [key _ ha, key _ hb]
    exact hab
  have ready : v.printers[p].state ≠ .ready := by
    rw [faulting.state]
    exact fun h => (nomatch h)
  have apart : Apart (fun k => decide (k ∈ l.map (·.1))) p W v :=
    faulting.apart.mono (fun k hk => by simpa only [flights, perm.mem_iff] using hk) fun _ hw => hw
  have effects := inDoubtEffects_forEach (order := t.printers[p].outstanding)
    (perm.nodup_iff.mpr ((place.2.2.1 p).filter _)) ready apart waiting
  rw [e, sorted]
  refine effects.earlier (faulting.books.trans (books_await.trans same)) ?_ (fun k => ?_) ?_
  · exact (congrArg Still.settings (faulting.still.trans still_await)).trans hstill
  · exact (faulting.tokens k).trans ((tokens_await k).trans (h.tokens k))
  · have awaited : Work t (awaitOutcomes p t) := (Work.refl t).forEach fun _ _ k => k.modJob
    exact port.trans (awaited.port.trans faulting.work.port)

theorem books_ageWindow {w : WindowId} (fresh : ∀ i, s.queues[w].head? = some i → ∀ j, jobAt s i = some j → j.aged = false) :
    books (ageWindow w s) = books s := by
  unfold ageWindow
  split
  · rfl
  · next i head =>
    split
    · rfl
    · next j hj =>
      rw [fresh i head j hj]
      split <;> rfl

theorem books_watchPrinter (none : owedJobs s p = []) : books (watchPrinter p s) = books s := by
  unfold watchPrinter
  rw [books_watchHold, watchOutcomes_none none, books_awaitOutcomes]

/-- A duty that ages no aged head and finds no outcome owed leaves the books alone. -/
theorem books_duty {d : Duty}
    (fresh : ∀ w, d = .age w → ∀ i, s.queues[w].head? = some i → ∀ j, jobAt s i = some j → j.aged = false)
    (none : ∀ q, d = .watch q → owedJobs s q = []) : books (d.run s) = books s := by
  cases d with
  | age w => exact books_ageWindow (fresh w rfl)
  | watch q => exact books_watchPrinter (none q rfl)
  | round l => exact books_startRound l s
  | header => rfl

/-- Before the watch on the printer its jobs are spared, as are those of every printer not yet watched, and the books stand;
after it the in-doubt effects are there. The head jobs of windows not yet worked on are not aged. -/
structure EndsInDoubt (s : State) (p : PrinterId) (l : List (JobIx × Job)) (todo : Duty → Prop) (u : State) : Prop where
  settings : u.settings = s.settings
  spares : ∀ q, todo (.watch q) → ∀ W : List WindowId, (∀ w ∈ W, todo (.age w)) → Spares (onList s q) q W s u
  apart : ∀ W : List WindowId, (∀ w ∈ W, todo (.age w)) → Apart (fun _ => false) p W u
  before : todo (.watch p) → books u = books s ∧ PortGrows s.port u.port
  after : ¬todo (.watch p) → InDoubtEffects s u p l

theorem EndsInDoubt.duty {later : List JobIx} (place : PlaceLaw s) (hs : s.printers[p].state ≠ .unconfigured)
    (hs' : s.printers[p].state ≠ .offline) (owed : owedJobs s p = i :: later)
    (others : ∀ q : PrinterId, q ≠ p → owedJobs s q = []) (hl : InFlightInOrder s p l) {d : Duty} {todo : Duty → Prop}
    {u : State} (hd : ¬todo d) (h : EndsInDoubt s p l (fun e => e = d ∨ todo e) u) : EndsInDoubt s p l todo (d.run u) := by
  have later : ∀ W : List WindowId, (∀ w ∈ W, todo (.age w)) → ∀ w ∈ W, d ≠ .age w :=
    fun W hW w hw e => hd (e ▸ hW w hw)
  have either : ∀ W : List WindowId, (∀ w ∈ W, todo (.age w)) → ∀ w ∈ W, Duty.age w = d ∨ todo (.age w) :=
    fun W hW w hw => .inr (hW w hw)
  have spares : ∀ q, todo (.watch q) → ∀ W : List WindowId, (∀ w ∈ W, todo (.age w)) →
      Spares (onList s q) q W s (d.run u) := fun q hq W hW =>
    (h.spares q (.inr hq) W (either W hW)).duty (fun e => hd (e ▸ hq)) (later W hW)
  by_cases own : d = .watch p
  · subst own
    have watched : ∀ W : List WindowId, (∀ w ∈ W, todo (.age w)) → Apart (fun _ => false) p W (watchOutcomes p u) :=
      fun W hW => (watchOutcomes_faultedOut (h.spares p (.inl rfl) W (either W hW)) h.settings place hs hs' owed).2
    have hold : ∀ W : List WindowId, (∀ w ∈ W, todo (.age w)) →
        Spares (fun _ => false) p W (watchOutcomes p u) (watchPrinter p u) :=
      fun W hW => (Spares.refl (watched W hW)).watchHold
    obtain ⟨same, port⟩ := h.before (.inl rfl)
    have effects := watchOutcomes_effects (h.spares p (.inl rfl) [] fun _ hw => (nomatch hw)) h.settings place hs hs' owed
      same port hl
    refine ⟨(Duty.run_settings (.watch p) u).trans h.settings, spares, fun W hW => (hold W hW).apart, fun ht => absurd ht hd,
      fun _ => ?_⟩
    exact effects.later (books_watchHold ..) (hold [] fun _ hw => (nomatch hw)).freed (Work.refl _).watchHold
  · have same : books (d.run u) = books u := by
      refine books_duty (fun w e => ?_) fun q e => ?_
      · refine (h.apart [w] fun v hv => .inl ?_).fresh w List.mem_cons_self
        rw [e, List.mem_singleton.mp hv]
      · have other : q ≠ p := fun hq => own (hq ▸ e)
        rw [(h.spares q (.inl e.symm) [] fun _ hw => (nomatch hw)).owedJobs]
        exact others q other
    have apart : ∀ W : List WindowId, (∀ w ∈ W, todo (.age w)) → Spares (fun _ => false) p W u (d.run u) := fun W hW =>
      (Spares.refl (h.apart W (either W hW))).duty own (later W hW)
    refine ⟨(d.run_settings u).trans h.settings, spares, fun W hW => (apart W hW).apart, fun ht => ?_, fun ht => ?_⟩
    · obtain ⟨before, port⟩ := h.before (.inr ht)
      exact ⟨same.trans before, port.trans (d.run_work u).port⟩
    · exact (h.after fun e => e.elim (fun e => own e.symm) ht).later same (apart [] fun _ hw => (nomatch hw)).freed
        (d.run_work u)

theorem sweep_inDoubtEffects {later : List JobIx} (hg : granting s = true) (place : PlaceLaw s)
    (hs : s.printers[p].state ≠ .unconfigured) (hs' : s.printers[p].state ≠ .offline) (owed : owedJobs s p = i :: later)
    (others : ∀ q : PrinterId, q ≠ p → owedJobs s q = [])
    (fresh : ∀ (w : WindowId) (k : JobIx) (j : Job), s.queues[w].head? = some k → jobAt s k = some j → j.aged = false)
    (hl : InFlightInOrder s p l) (blocks windows printers : List Nat) :
    InDoubtEffects s (sweepEvent blocks windows printers s) p l := by
  obtain ⟨time, express, counted⟩ := sweepCounted_eq hg
  have heads : ∀ W, FreshHeads W s := fun W w _ i hi j hj => fresh w i j hi hj
  have start : EndsInDoubt s p l (fun _ => True) (sweepCounted s) := by
    rw [counted]
    refine ⟨rfl, fun q _ W _ => ?_, fun W _ => ?_, fun _ => ?_, fun h => absurd trivial h⟩
    · exact (Spares.refl (place.apart (heads W) q)).elsewhere rfl rfl rfl rfl
    · exact ((place.apart (heads W) p).mono (fun _ _ => rfl) fun _ hw => hw).same rfl rfl fun _ => rfl
    · exact ⟨rfl, .refl _⟩
  exact (sweep_todo (EndsInDoubt s p l) (fun _ _ _ hd h => h.duty place hs hs' owed others hl hd) blocks windows printers
    start).after id

end

end Sys2Proof.Machine
end

section
/-! SUPPORT. What the duties of a sweep leave alone where no outcome is owed (`QuietStep`), and the sweeps of such duties. -/

namespace Sys2Proof.Machine

/-! ### What a job ended from its queue leaves alone -/

/-- Queues, job records and lines. -/
structure Places where
  queues : Vector (List JobIx) 24
  jobs : Vector JobRecord 64
  lines : Vector Line 2

/-- Those of a state. -/
def places (s : State) : Places := { queues := s.queues, jobs := s.jobs, lines := s.lines }

section
variable {p q : PrinterId} {s t u : State} {i k : JobIx} {j : Job} {w v : WindowId} {l : LineId}

theorem places_releaseHold (p : PrinterId) (s : State) : places (releaseHold p s) = places s := by
  unfold releaseHold
  split <;> rfl

theorem places_releaseSaleEnd (j : Job) (s : State) : places (releaseSaleEnd j s) = places s := by
  unfold releaseSaleEnd
  split
  · split
    · exact forEach_keeps places _ _ places_releaseHold _
    · rfl
  · rfl

theorem lowerOpenJobs_places (j : Job) (s : State) :
    places (lowerOpenJobs j s) = places s ∧ (lowerOpenJobs j s).printers = s.printers := by
  obtain ⟨current, closing, e⟩ := modTallyOf_eq j (fun t => { t with openJobs := t.openJobs - 1 }) s
  rw [lowerOpenJobs_eq, e]
  exact ⟨rfl, rfl⟩

theorem statementAfter_places (j : Job) (s : State) :
    places (statementAfter j s) = places s ∧ (statementAfter j s).printers = s.printers := by
  unfold statementAfter
  split
  · unfold statementIfDue
    split
    · split
      · unfold produceStatement
        split <;> exact ⟨rfl, rfl⟩
      · exact ⟨rfl, rfl⟩
    · exact ⟨rfl, rfl⟩
  · exact ⟨rfl, rfl⟩

/-- A SALE_END release frees no printer but those its window holds (R87). -/
theorem releaseSaleEnd_printers (hw : j.window = some w) (s : State) (q : PrinterId) :
    (releaseSaleEnd j s).printers[q] = s.printers[q] ∨
      (releaseSaleEnd j s).printers[q] = { s.printers[q] with hold := none } ∧ holds s w q = true := by
  unfold releaseSaleEnd
  rw [hw]
  dsimp only
  split
  · have released : ∀ (l : List PrinterId) (u : State), (∀ p ∈ l, holds s w p = true) →
        (u.printers[q] = s.printers[q] ∨ u.printers[q] = { s.printers[q] with hold := none } ∧ holds s w q = true) →
        ((forEach l releaseHold u).printers[q] = s.printers[q] ∨
          (forEach l releaseHold u).printers[q] = { s.printers[q] with hold := none } ∧ holds s w q = true) := by
      intro l
      induction l with
      | nil => exact fun u _ h => h
      | cons a rest ih =>
        intro u hl h
        refine ih (releaseHold a u) (fun p hp => hl p (List.mem_cons_of_mem a hp)) ?_
        rw [releaseHold_printers, put_get]
        split
        · next e =>
          subst e
          have mine := hl a List.mem_cons_self
          rcases h with h | ⟨h, -⟩ <;> exact .inr ⟨by rw [h], mine⟩
        · exact h
    refine released _ s (fun p hp => ?_) (.inl rfl)
    obtain ⟨h, hh, both⟩ := (Option.any_eq_true _ _).mp (List.mem_filter.mp hp).2
    unfold holds
    rw [hh]
    exact (Bool.and_eq_true_iff.mp both).1
  · exact .inl rfl

/-- The end of a job that waits in a window's queue: it leaves the queue and is freed, and holds of its window alone are
released. -/
theorem finishJob_queued (hj : jobAt s i = some j) (hp : j.printer = none) (hw : j.window = some w) (code : ResultCode)
    (reason : Nat) :
    (finishJob i code reason s).queues = put s.queues w (s.queues[w].filter (· != i)) ∧
      (∀ k, jobAt (finishJob i code reason s) k =
        if i = k then none else jobAt (leaveQueue w i (returnJob i j code reason s)) k) ∧
      (∀ q : PrinterId, (finishJob i code reason s).printers[q] = s.printers[q] ∨
        (finishJob i code reason s).printers[q] = { s.printers[q] with hold := none } ∧ holds s w q = true) ∧
      (finishJob i code reason s).lines = s.lines ∧
      ∀ k, tokenOf (finishJob i code reason s) k = tokenOf s k := by
  have leaves : ∀ u, leaveLists i j u = leaveQueue w i u := fun u => by
    unfold leaveLists
    rw [hp, hw]
  unfold finishJob
  rw [hj]
  dsimp only
  rw [leaves]
  have queues : (leaveQueue w i (returnJob i j code reason s)).queues = put s.queues w (s.queues[w].filter (· != i)) :=
    setQueue_queues ..
  obtain ⟨tokens, printers, -⟩ := setQueue_frame w ((returnJob i j code reason s).queues[w].filter (· != i))
    (returnJob i j code reason s)
  have lines : (leaveQueue w i (returnJob i j code reason s)).lines = s.lines := by
    unfold leaveQueue setQueue
    dsimp only
    split
    · split <;> rfl
    · rfl
  have left : ∀ q : PrinterId, (leaveQueue w i (returnJob i j code reason s)).printers[q] = s.printers[q] := fun q => by
    unfold leaveQueue
    rw [printers]
    rfl
  have tokens' : ∀ k, tokenOf (leaveQueue w i (returnJob i j code reason s)) k = tokenOf s k := tokens
  generalize leaveQueue w i (returnJob i j code reason s) = x at *
  obtain ⟨statement, statement'⟩ := statementAfter_places j (lowerOpenJobs j (releaseSaleEnd j x))
  obtain ⟨lower, lower'⟩ := lowerOpenJobs_places j (releaseSaleEnd j x)
  have same : places (statementAfter j (lowerOpenJobs j (releaseSaleEnd j x))) = places x :=
    statement.trans (lower.trans (places_releaseSaleEnd j x))
  have released := releaseSaleEnd_printers hw x
  have printers' := statement'.trans lower'
  generalize statementAfter j (lowerOpenJobs j (releaseSaleEnd j x)) = y at *
  have jobs : y.jobs = x.jobs := congrArg Places.jobs same
  refine ⟨(congrArg Places.queues same).trans queues, fun k => ?_, fun q => ?_, (congrArg Places.lines same).trans lines,
    fun k => ?_⟩
  · rw [jobAt_freeRecord]
    unfold jobAt
    rw [jobs]
  · have here : (freeRecord i y).printers[q] = (releaseSaleEnd j x).printers[q] := congrArg (·[q]) printers'
    have before : holds x w q = holds s w q := by
      unfold holds
      rw [left]
    rw [here, ← left q, ← before]
    exact released q
  · rw [tokenOf_freeRecord, ← tokens']
    unfold tokenOf
    rw [jobs]

end

section
variable {p q : PrinterId} {s t u : State} {i k : JobIx} {j : Job} {w v : WindowId} {l : LineId} {d : Duty}

/-! ### The duties where no outcome is owed -/

/-- A job in a window's queue is of the window and of no printer, and is not in flight. -/
def Waiting (s : State) : Prop :=
  ∀ w : WindowId, ∀ i ∈ s.queues[w], ∀ j : Job, jobAt s i = some j →
    j.window = some w ∧ j.printer = none ∧ j.flying = false

theorem PlaceLaw.waiting (h : PlaceLaw s) : Waiting s := by
  obtain ⟨-, -, -, place⟩ := h
  intro w i hi j hj
  obtain ⟨queue, -, states⟩ := place i
  obtain ⟨j', hj', hw, hp⟩ := (queue w).mp hi
  rw [hj] at hj'
  cases hj'
  have queued := (states j hj).1.mp hp
  exact ⟨hw, hp, by simp [Job.flying, queued]⟩

/-- What aging can do (R48 to R50): nothing, a new flag and target for the head job, or the end of an aged one. -/
theorem ageWindow_cases (w : WindowId) (s : State) : ageWindow w s = s ∨
    ∃ i j, s.queues[w].head? = some i ∧ jobAt s i = some j ∧
      ((∃ (a : Bool) (x : Job → Target),
          ageWindow w s = modJob i (fun j => { j with aged := a, target := x j }) s) ∨
        j.aged = true ∧ ∃ reason, ageWindow w s = finishJob i .noPrinter reason s) := by
  unfold ageWindow
  split
  · exact .inl rfl
  · next i head =>
    split
    · exact .inl rfl
    · next j hj =>
      refine .inr ⟨i, j, head, hj, ?_⟩
      split
      · exact .inl ⟨false, Job.target, rfl⟩
      · split
        · next aged =>
          unfold handleStale
          split
          · exact .inl ⟨false, fun _ => .alternate, rfl⟩
          · exact .inr ⟨aged, _, rfl⟩
        · exact .inl ⟨true, Job.target, rfl⟩

/-- What a duty of a sweep leaves alone where no outcome is owed. -/
structure QuietStep (d : Duty) (s t : State) : Prop where
  waiting : Waiting t
  queues : ∀ v : WindowId, d ≠ .age v → t.queues[v] = s.queues[v] ∧ ∀ k ∈ s.queues[v], jobAt t k = jobAt s k
  printers : ∀ q : PrinterId, d ≠ .watch q → t.printers[q] = s.printers[q] ∨
    t.printers[q] = { s.printers[q] with hold := none } ∧ ∃ w, d = .age w ∧ holds s w q = true
  lists : ∀ q : PrinterId, t.printers[q].outstanding = s.printers[q].outstanding
  lines : ∀ l : LineId, d ≠ .round l → t.lines[l] = s.lines[l]
  tokens : ∀ k, tokenOf t k = tokenOf s k
  freed : ∀ k, jobAt s k = none → jobAt t k = none

theorem Waiting.one_queue (h : Waiting s) (hj : jobAt s i = some j) (hw : i ∈ s.queues[w]) (hv : i ∈ s.queues[v]) :
    w = v :=
  Option.some.inj ((h w i hw j hj).1.symm.trans (h v i hv j hj).1)

/-- A head job changed in flag and target. -/
theorem QuietStep.modJob (h : Waiting s) (head : s.queues[w].head? = some i) (hj : jobAt s i = some j) (a : Bool)
    (x : Job → Target) : QuietStep (.age w) s (modJob i (fun j => { j with aged := a, target := x j }) s) := by
  refine ⟨fun v k hk j' hj' => ?_, fun v hv => ⟨rfl, fun k hk => ?_⟩, fun _ _ => .inl rfl, fun _ => rfl, fun _ _ => rfl,
    fun k => tokenOf_modJob .., fun k hk => ?_⟩
  · rw [jobAt_modJob] at hj'
    split at hj'
    · obtain ⟨j₁, hj₁, rfl⟩ := Option.map_eq_some_iff.mp hj'
      exact h v k hk j₁ hj₁
    · exact h v k hk j' hj'
  · have other : i ≠ k := fun e => by
      subst e
      exact hv (congrArg Duty.age (h.one_queue hj (List.mem_of_mem_head? head) hk))
    rw [jobAt_modJob, if_neg other]
  · rw [jobAt_modJob, hk]
    split <;> rfl

/-- A head job ended. -/
theorem QuietStep.finishJob (h : Waiting s) (head : s.queues[w].head? = some i) (hj : jobAt s i = some j)
    (code : ResultCode) (reason : Nat) : QuietStep (.age w) s (finishJob i code reason s) := by
  have mem := List.mem_of_mem_head? head
  obtain ⟨hw, hp, -⟩ := h w i mem j hj
  obtain ⟨queues, jobs, printers, lines, tokens⟩ := finishJob_queued hj hp hw code reason
  have kept : ∀ k, jobAt (leaveQueue w i (returnJob i j code reason s)) k = jobAt s k ∨
      jobAt (leaveQueue w i (returnJob i j code reason s)) k = (jobAt s k).map fun j => { j with aged := false } :=
    fun k => setQueue_jobAt ..
  refine ⟨fun v k hk j' hj' => ?_, fun v hv => ?_, fun q _ => ?_, fun q => ?_, fun _ _ => by rw [lines], tokens,
    fun k hk => ?_⟩
  · have old : k ∈ s.queues[v] := by
      rw [queues, put_get] at hk
      split at hk
      · next e => exact e ▸ List.mem_of_mem_filter hk
      · exact hk
    rw [jobs] at hj'
    split at hj'
    · cases hj'
    · rcases kept k with e | e
      · exact h v k old j' (e.symm.trans hj')
      · obtain ⟨j₁, hj₁, rfl⟩ := Option.map_eq_some_iff.mp (e.symm.trans hj')
        exact h v k old j₁ hj₁
  · have other : w ≠ v := fun e => hv (congrArg Duty.age e)
    refine ⟨by rw [queues, put_get_other _ _ _ _ other], fun k hk => ?_⟩
    have apart : i ≠ k := fun e => by
      subst e
      exact other (h.one_queue hj mem hk)
    rw [jobs, if_neg apart]
    cases hk' : jobAt s k with
    | none => 
      rcases kept k with e | e
      · exact e.trans hk'
      · rw [e, hk']
        rfl
    | some j' =>
      have outside : k ∉ (returnJob i j code reason s).queues[w].filter (· != i) := fun hm =>
        other (h.one_queue hk' (List.mem_of_mem_filter hm) hk)
      exact (setQueue_jobAt_other outside).trans hk'
  · exact (printers q).imp_right fun ⟨e, held⟩ => ⟨e, w, rfl, held⟩
  · rcases printers q with e | ⟨e, -⟩ <;> rw [e]
  · rw [jobs]
    split
    · rfl
    · rcases kept k with e | e
      · exact e.trans hk
      · rw [e, hk]
        rfl

theorem QuietStep.refl (h : Waiting s) : QuietStep d s s :=
  ⟨h, fun _ _ => ⟨rfl, fun _ _ => rfl⟩, fun _ _ => .inl rfl, fun _ => rfl, fun _ _ => rfl, fun _ => rfl,
    fun _ => id⟩

theorem QuietStep.ageWindow (h : Waiting s) : QuietStep (.age w) s (ageWindow w s) := by
  rcases ageWindow_cases w s with e | ⟨i, j, head, hj, ⟨a, x, e⟩ | ⟨-, reason, e⟩⟩
  · rw [e]
    exact .refl h
  · rw [e]
    exact .modJob h head hj a x
  · rw [e]
    exact .finishJob h head hj _ _

theorem watchHold_frame (p : PrinterId) (s : State) :
    places (watchHold p s) = places s ∧ (watchHold p s).jobs = s.jobs ∧
      ∀ q : PrinterId, { (watchHold p s).printers[q] with hold := none } = { s.printers[q] with hold := none } ∧
        (p ≠ q → (watchHold p s).printers[q] = s.printers[q]) := by
  have judged : ∀ (x : Option Hold) (q : PrinterId),
      { (modPrinter p (fun y => { y with hold := x }) s).printers[q] with hold := none } =
        { s.printers[q] with hold := none } ∧
      (p ≠ q → (modPrinter p (fun y => { y with hold := x }) s).printers[q] = s.printers[q]) := fun x q => by
    unfold modPrinter
    dsimp only
    rw [upd_get]
    split
    · next e => exact ⟨rfl, fun ne => absurd e ne⟩
    · exact ⟨rfl, fun _ => rfl⟩
  have released : ∀ q : PrinterId,
      { (releaseHold p s).printers[q] with hold := none } = { s.printers[q] with hold := none } ∧
      (p ≠ q → (releaseHold p s).printers[q] = s.printers[q]) := fun q => by
    rw [releaseHold_printers, put_get]
    split
    · next e =>
      subst e
      exact ⟨rfl, fun ne => absurd rfl ne⟩
    · exact ⟨rfl, fun _ => rfl⟩
  unfold watchHold
  split
  · exact ⟨rfl, rfl, fun _ => ⟨rfl, fun _ => rfl⟩⟩
  · split
    · split
      · exact ⟨places_releaseHold .., congrArg Places.jobs (places_releaseHold p s), released⟩
      · exact ⟨rfl, rfl, judged _⟩
    · exact ⟨rfl, rfl, judged _⟩

theorem QuietStep.watchPrinter (h : Waiting s) (nodup : s.printers[p].outstanding.Nodup) (none : owedJobs s p = []) :
    QuietStep (.watch p) s (watchPrinter p s) := by
  obtain ⟨queues, printers, -, lines, -, -, tokens⟩ := awaitOutcomes_frame p s
  obtain ⟨same, jobs, holds⟩ := watchHold_frame p (awaitOutcomes p s)
  unfold Machine.watchPrinter
  rw [watchOutcomes_none none]
  have jobAt_eq : ∀ k, jobAt (watchHold p (awaitOutcomes p s)) k = jobAt (awaitOutcomes p s) k := fun k => by
    unfold jobAt
    rw [jobs]
  have queues' : (watchHold p (awaitOutcomes p s)).queues = s.queues := (congrArg Places.queues same).trans queues
  have waits : ∀ v : WindowId, ∀ k ∈ s.queues[v], jobAt (watchHold p (awaitOutcomes p s)) k = jobAt s k := by
    intro v k hk
    rw [jobAt_eq, jobAt_awaitOutcomes nodup, if_neg]
    intro hm
    have flies := (mem_flightList.mp hm).2
    cases hj : jobAt s k with
    | none => simp [inFlight_eq, hj] at flies
    | some j =>
      rw [inFlight_eq, hj] at flies
      have grounded := (h v k hk j hj).2.2
      exact absurd flies (by simp [grounded])
  refine ⟨fun v k hk j hj => ?_, fun v _ => ⟨by rw [queues'], waits v⟩, fun q hq => .inl ?_, fun q => ?_, fun l _ => ?_,
    fun k => ?_, fun k hk => ?_⟩
  · rw [queues'] at hk
    exact h v k hk j ((waits v k hk).symm.trans hj)
  · rw [(holds q).2 fun e => hq (congrArg Duty.watch e), printers]
  · have e := (holds q).1
    rw [printers] at e
    have lists := congrArg Printer.outstanding e
    exact lists
  · rw [show (watchHold p (awaitOutcomes p s)).lines = _ from congrArg Places.lines same]
    exact congrArg (·[l]) lines
  · rw [← tokens k]
    unfold tokenOf
    rw [jobs]
  · rw [jobAt_eq, jobAt_awaitOutcomes nodup, hk]
    split <;> rfl

/-- A line after a sweep (R110). -/
def lineAfterSweep (x : Line) : Line :=
  match x.roll.phase with
  | .waiting | .between =>
    let mask := unresolved (nextRound x.roll)
    if x.activity = .free then
      { x with roll := nextRound x.roll, activity := .recalling mask, frameBuffer := frameBytes 0#8 0x04#8 [mask],
               replyTimer := none }
    else { x with roll := nextRound x.roll }
  | .none | .round => x

theorem startRound_eq (l : LineId) (s : State) :
    ∃ lines, startRound l s = { s with lines := lines } ∧
      ∀ m : LineId, lines[m] = if l = m then lineAfterSweep s.lines[m] else s.lines[m] := by
  have rolled : (modRoll l nextRound s).lines[l] = { s.lines[l] with roll := nextRound s.lines[l].roll } :=
    upd_get_self ..
  unfold startRound recallIfFree
  cases hp : s.lines[l].roll.phase with
  | none | round =>
    refine ⟨s.lines, rfl, fun m => ?_⟩
    split
    · next e => rw [← e, lineAfterSweep, hp]
    · rfl
  | waiting | between =>
    dsimp only
    rw [rolled]
    dsimp only
    split
    · next free =>
      unfold sendRecall
      rw [rolled]
      refine ⟨_, rfl, fun m => ?_⟩
      rw [upd_get]
      split
      · next e =>
        subst e
        rw [rolled, lineAfterSweep, hp]
        dsimp only
        rw [if_pos free]
      · next ne => exact upd_get_other _ _ _ _ ne
    · next busy =>
      refine ⟨_, rfl, fun m => ?_⟩
      rw [upd_get]
      split
      · next e =>
        subst e
        rw [lineAfterSweep, hp]
        dsimp only
        rw [if_neg busy]
      · rfl

theorem QuietStep.startRound (h : Waiting s) : QuietStep (.round l) s (startRound l s) := by
  obtain ⟨lines, e, each⟩ := startRound_eq l s
  rw [e]
  refine ⟨h, fun _ _ => ⟨rfl, fun _ _ => rfl⟩, fun _ _ => .inl rfl, fun _ => rfl, fun m hm => ?_, fun _ => rfl,
    fun _ => id⟩
  exact (each m).trans (if_neg fun e => hm (congrArg Duty.round e))

theorem quietStep (h : Waiting s) (nodup : ∀ q : PrinterId, s.printers[q].outstanding.Nodup)
    (none : ∀ q, d = .watch q → owedJobs s q = []) : QuietStep d s (d.run s) := by
  cases d with
  | age w => exact .ageWindow h
  | watch q => exact .watchPrinter h (nodup q) (none q rfl)
  | round l => exact .startRound h
  | header =>
    exact ⟨h, fun _ _ => ⟨rfl, fun _ _ => rfl⟩, fun _ _ => .inl rfl, fun _ => rfl, fun _ _ => rfl, fun _ => rfl,
      fun _ => id⟩

end

section
variable {p q : PrinterId} {s t u : State} {i k : JobIx} {j : Job} {w v : WindowId} {l : LineId} {d : Duty}
  {todo : Duty → Prop} {X : (Duty → Prop) → State → Prop}

/-! ### A sweep where no outcome is owed -/

/-- What every duty of such a sweep keeps: the jobs of printers not yet watched, the places of jobs, and what a duty reads
and none writes. -/
structure QuietSweep (s : State) (todo : Duty → Prop) (u : State) : Prop where
  spares : ∀ q, todo (.watch q) → Spares (onList s q) q [] s u
  waiting : Waiting u
  lists : ∀ q : PrinterId, u.printers[q].outstanding = s.printers[q].outstanding
  tokens : ∀ k, tokenOf u k = tokenOf s k
  settings : u.settings = s.settings
  windows : u.windows = s.windows
  routes : u.routes = s.routes

theorem QuietSweep.owed (h : QuietSweep s todo u) (none : ∀ q : PrinterId, owedJobs s q = []) (hq : todo (.watch q)) :
    owedJobs u q = [] := (h.spares q hq).owedJobs.trans (none q)

theorem QuietSweep.step (place : PlaceLaw s) (none : ∀ q : PrinterId, owedJobs s q = [])
    (h : QuietSweep s (fun e => e = d ∨ todo e) u) : QuietStep d u (d.run u) :=
  quietStep h.waiting (fun q => h.lists q ▸ place.2.2.1 q) fun _ hq => h.owed none (.inl hq.symm)

theorem QuietSweep.duty (hd : ¬todo d) (h : QuietSweep s (fun e => e = d ∨ todo e) u) (step : QuietStep d u (d.run u)) :
    QuietSweep s todo (d.run u) := by
  refine ⟨fun q hq => ?_, step.waiting, fun q => (step.lists q).trans (h.lists q),
    fun k => (step.tokens k).trans (h.tokens k), (d.run_settings u).trans h.settings,
    (congrArg Still.windows (d.run_still u)).trans h.windows, (congrArg Still.routes (d.run_still u)).trans h.routes⟩
  exact (h.spares q (.inr hq)).duty (fun e => hd (e ▸ hq)) fun _ hw => (nomatch hw)

/-- A property of the states of a sweep where no outcome is owed. -/
theorem quiet_sweep (place : PlaceLaw s) (none : ∀ q : PrinterId, owedJobs s q = []) (hg : granting s = true)
    (once : ∀ d todo u, ¬todo d → QuietSweep s (fun e => e = d ∨ todo e) u → QuietStep d u (d.run u) →
      X (fun e => e = d ∨ todo e) u → X todo (d.run u))
    (start : ∀ time express, X (fun _ => True) { s with time := time, express := express })
    (blocks windows printers : List Nat) : X (fun _ => False) (sweepEvent blocks windows printers s) := by
  obtain ⟨time, express, counted⟩ := sweepCounted_eq hg
  refine (sweep_todo (fun todo u => QuietSweep s todo u ∧ X todo u) (fun d todo u hd ⟨quiet, hx⟩ => ?_) blocks windows
    printers ?_).2
  · have step := quiet.step place none
    exact ⟨quiet.duty hd step, once d todo u hd quiet step hx⟩
  · rw [counted]
    refine ⟨⟨fun q _ => ?_, place.waiting, fun _ => rfl, fun _ => rfl, rfl, rfl, rfl⟩, start time express⟩
    exact (Spares.refl (place.apart (W := []) (fun _ hw => absurd hw List.not_mem_nil) q)).elsewhere rfl rfl rfl rfl

/-! ### Rounds (R110) -/

/-- A line is as it was until its duty is done. -/
def RoundDue (s : State) (l : LineId) (todo : Duty → Prop) (u : State) : Prop :=
  (todo (.round l) → u.lines[l] = s.lines[l]) ∧ (¬todo (.round l) → u.lines[l] = lineAfterSweep s.lines[l])

theorem RoundDue.duty (hd : ¬todo d) (step : QuietStep d u (d.run u)) (h : RoundDue s l (fun e => e = d ∨ todo e) u) :
    RoundDue s l todo (d.run u) := by
  obtain ⟨before, after⟩ := h
  by_cases own : d = .round l
  · subst own
    refine ⟨fun ht => absurd ht hd, fun _ => ?_⟩
    obtain ⟨lines, e, each⟩ := startRound_eq l u
    have run : (Duty.round l).run u = { u with lines := lines } := e
    rw [run, ← before (.inl rfl)]
    exact (each l).trans (if_pos rfl)
  · have same := step.lines l own
    refine ⟨fun ht => same.trans (before (.inr ht)), fun ht => same.trans (after ?_)⟩
    exact fun h => h.elim (fun e => own e.symm) ht

theorem sweep_lines (place : PlaceLaw s) (none : ∀ q : PrinterId, owedJobs s q = []) (hg : granting s = true)
    (blocks windows printers : List Nat) (l : LineId) :
    (sweepEvent blocks windows printers s).lines[l] = lineAfterSweep s.lines[l] :=
  (quiet_sweep (X := RoundDue s l) place none hg (fun _ _ _ hd _ step h => h.duty hd step)
    (fun _ _ => ⟨fun _ => rfl, fun h => absurd trivial h⟩) blocks windows printers).2 id

/-! ### Outcomes awaited (R125) -/

/-- The jobs of a printer are as they were until it is watched; then those in flight await their outcomes. -/
def OutcomesAwaited (s : State) (p : PrinterId) (todo : Duty → Prop) (u : State) : Prop :=
  ¬todo (.watch p) → Apart (onList s p) p [] u ∧ ∀ k ∈ flightList s p, ∀ j, jobAt s k = some j →
    jobAt u k = some { j with outcomeWait := true }

theorem OutcomesAwaited.duty (place : PlaceLaw s) (none : ∀ q : PrinterId, owedJobs s q = [])
    (quiet : QuietSweep s (fun e => e = d ∨ todo e) u) (h : OutcomesAwaited s p (fun e => e = d ∨ todo e) u) :
    OutcomesAwaited s p todo (d.run u) := by
  intro ht
  by_cases own : d = .watch p
  · subst own
    have before := quiet.spares p (.inl rfl)
    have watched : (Duty.watch p).run u = watchHold p (awaitOutcomes p u) :=
      watchPrinter_quiet (quiet.owed none (.inl rfl))
    have hold : Spares (onList s p) p [] (awaitOutcomes p u) (watchHold p (awaitOutcomes p u)) :=
      (Spares.refl before.apart.awaitOutcomes).watchHold
    rw [watched]
    refine ⟨hold.apart, fun k hk j hj => ?_⟩
    have mine := onList_iff.mpr (mem_flightList.mp hk).1
    have nodup : u.printers[p].outstanding.Nodup := quiet.lists p ▸ place.2.2.1 p
    refine (hold.jobs k mine).trans ?_
    rw [jobAt_awaitOutcomes nodup, before.flightList_onList, if_pos hk, before.jobs k mine, hj]
    rfl
  · obtain ⟨apart, waits⟩ := h fun h => h.elim (fun e => own e.symm) ht
    have spares := (Spares.refl apart).duty own fun _ hw => (nomatch hw)
    refine ⟨spares.apart, fun k hk j hj => ?_⟩
    exact (spares.jobs k (onList_iff.mpr (mem_flightList.mp hk).1)).trans (waits k hk j hj)

theorem sweep_outcomeWait (place : PlaceLaw s) (none : ∀ q : PrinterId, owedJobs s q = []) (hg : granting s = true)
    (blocks windows printers : List Nat) (hk : k ∈ flightList s p) (hj : jobAt s k = some j) :
    jobAt (sweepEvent blocks windows printers s) k = some { j with outcomeWait := true } :=
  (quiet_sweep (X := OutcomesAwaited s p) place none hg (fun _ _ _ _ quiet _ h => h.duty place none quiet)
    (fun _ _ h => absurd trivial h) blocks windows printers id).2 k hk j hj

end

end Sys2Proof.Machine
end

section
/-! PROOF. The aging of head jobs (R48 to R50) and the judgement of holds (R88) in a sweep, and all a sweep does to jobs, holds and roll
calls. -/

namespace Sys2Proof.Machine

section
variable {p q : PrinterId} {s t u : State} {i k : JobIx} {j : Job} {w v : WindowId} {l : LineId} {d : Duty}
  {todo : Duty → Prop} {rest : List JobIx}

/-! ### Aging (R48 to R50) -/

/-- A stale job falls back where route and window allow it (R50). -/
def FallsBack (s : State) (w : WindowId) (j : Job) : Prop :=
  j.target = .home ∧ s.windows[w].alternateGroup ≠ none ∧ s.routes[j.ticketClass].valid = true ∧
    s.routes[j.ticketClass].fallback = true

theorem mayFallBack_iff (s : State) (w : WindowId) (j : Job) : mayFallBack s w j = true ↔ FallsBack s w j := by
  unfold mayFallBack FallsBack
  simp [Option.isSome_iff_ne_none, and_assoc]

/-- The reason of NO_PRINTER (Table 11-7). -/
def noPrinterReason (j : Job) : Word := if j.target = .home then 1#32 else 2#32

theorem handleStale_ends (h : ¬FallsBack s w j) : ∃ reason, detailOf reason = noPrinterReason j ∧
    handleStale w i j s = finishJob i .noPrinter reason s := by
  unfold handleStale noPrinterReason
  rw [if_neg fun hf => h ((mayFallBack_iff s w j).mp hf)]
  cases j.target with
  | home => exact ⟨reasonHome, rfl, rfl⟩
  | alternate => exact ⟨reasonAlternate, rfl, rfl⟩

/-- What a sweep makes of the head job of a window. -/
structure HeadAged (s : State) (w : WindowId) (i : JobIx) (rest : List JobIx) (j : Job) (t : State) : Prop where
  exempt : agingExempt s w = true → jobAt t i = some { j with aged := false } ∧ t.queues[w] = s.queues[w]
  first : ¬agingExempt s w = true → j.aged = false → jobAt t i = some { j with aged := true } ∧ t.queues[w] = s.queues[w]
  falls : ¬agingExempt s w = true → j.aged = true → FallsBack s w j →
    jobAt t i = some { j with target := .alternate, aged := false } ∧ t.queues[w] = s.queues[w]
  ends : ¬agingExempt s w = true → j.aged = true → ¬FallsBack s w j → jobAt t i = none ∧ t.queues[w] = rest ∧
    entryNow s j.slip j.tag .noPrinter (noPrinterReason j ||| clampedBit j.clamped) (jobResultBytes (tokenOf s i) j) ∈
      t.port.returns

/-- What aging makes of it, in the window's own duty. -/
theorem ageWindow_headAged (hq : s.queues[w] = i :: rest) (hj : jobAt s i = some j) (nodup : s.queues[w].Nodup)
    (waiting : Waiting s) : HeadAged s w i rest j (ageWindow w s) := by
  have mem : i ∈ s.queues[w] := hq ▸ List.mem_cons_self
  obtain ⟨hw, hp, -⟩ := waiting w i mem j hj
  have changed : ∀ f : Job → Job, jobAt (modJob i f s) i = some (f j) := fun f => by
    rw [jobAt_modJob, if_pos rfl, hj]
    rfl
  have work : ageWindow w s =
      if agingExempt s w then modJob i (fun j => { j with aged := false }) s
      else if j.aged then handleStale w i j s
      else modJob i (fun j => { j with aged := true }) s := by
    unfold ageWindow
    rw [hq]
    dsimp only [List.head?_cons]
    rw [hj]
  rw [work]
  refine ⟨fun he => ?_, fun he ha => ?_, fun he ha hf => ?_, fun he ha hf => ?_⟩
  · rw [if_pos he]
    exact ⟨changed _, rfl⟩
  · rw [if_neg he, if_neg (by simp [ha])]
    exact ⟨changed _, rfl⟩
  · rw [if_neg he, if_pos ha, handleStale, if_pos ((mayFallBack_iff s w j).mpr hf)]
    exact ⟨changed _, rfl⟩
  · obtain ⟨reason, detail, stale⟩ := handleStale_ends (i := i) hf
    rw [if_neg he, if_pos ha, stale]
    obtain ⟨queues, -⟩ := finishJob_queued hj hp hw .noPrinter reason
    obtain ⟨freed, entry⟩ := finishJob_ends hj .noPrinter reason
    rw [detail] at entry
    refine ⟨freed, ?_, entry.subset (List.mem_append_right _ List.mem_cons_self)⟩
    rw [hq] at nodup
    rw [queues, put_get_self, hq, List.filter_cons_of_neg (by simp)]
    refine List.filter_eq_self.mpr fun k hk => ?_
    have other : k ≠ i := fun e => (List.nodup_cons.mp nodup).1 (e ▸ hk)
    simpa using other

theorem agingExempt_congr (held : ∀ q, holds t w q = holds s w q)
    (lists : ∀ q : PrinterId, t.printers[q].outstanding = s.printers[q].outstanding) :
    agingExempt t w = agingExempt s w := by
  have same : holds t w = holds s w := funext held
  unfold agingExempt heldPrinter
  rw [same]
  exact congrArg (Option.any · _) (funext fun q => by rw [lists])

/-- The same, counted from an earlier state with the same exemption and configuration. -/
theorem HeadAged.earlier (h : HeadAged t w i rest j u) (exempt : agingExempt t w = agingExempt s w)
    (queue : t.queues[w] = s.queues[w]) (windows : t.windows = s.windows) (routes : t.routes = s.routes)
    (settings : t.settings = s.settings) (tokens : ∀ k, tokenOf t k = tokenOf s k) : HeadAged s w i rest j u := by
  have falls : FallsBack t w j ↔ FallsBack s w j := by
    unfold FallsBack
    rw [windows, routes]
  refine ⟨fun he => ?_, fun he ha => ?_, fun he ha hf => ?_, fun he ha hf => ?_⟩ <;> rw [← exempt] at he
  · exact queue ▸ h.exempt he
  · exact queue ▸ h.first he ha
  · exact queue ▸ h.falls he ha (falls.mpr hf)
  · obtain ⟨freed, left, entry⟩ := h.ends he ha fun hf' => hf (falls.mp hf')
    refine ⟨freed, left, ?_⟩
    have now : ∀ detail area, entryNow t j.slip j.tag .noPrinter detail area =
        entryNow s j.slip j.tag .noPrinter detail area := fun _ _ => by
      unfold entryNow
      rw [settings]
    rwa [now, tokens] at entry

/-- Another duty leaves that as it is. -/
theorem HeadAged.later (h : HeadAged s w i rest j u) (hq : s.queues[w] = i :: rest) (step : QuietStep d u t)
    (other : d ≠ .age w) (work : Work u t) : HeadAged s w i rest j t := by
  obtain ⟨queue, jobs⟩ := step.queues w other
  have kept : ∀ x : Option Job, jobAt u i = x ∧ u.queues[w] = s.queues[w] → jobAt t i = x ∧ t.queues[w] = s.queues[w] :=
    fun x ⟨hj, hu⟩ => ⟨(jobs i (by rw [hu, hq]; exact List.mem_cons_self)).trans hj, queue.trans hu⟩
  refine ⟨fun he => kept _ (h.exempt he), fun he ha => kept _ (h.first he ha), fun he ha hf => kept _ (h.falls he ha hf),
    fun he ha hf => ?_⟩
  obtain ⟨freed, left, entry⟩ := h.ends he ha hf
  obtain ⟨more, grown, -⟩ := work.port.returns
  exact ⟨step.freed i freed, queue.trans left, grown ▸ List.mem_append_left more entry⟩

/-- What the judgement of a hold makes of it (R88). -/
theorem watchHold_hold (p : PrinterId) (s : State) : (watchHold p s).printers[p].hold =
    match s.printers[p].hold with
    | none => none
    | some h =>
      if holdIdle s p h.window = true then if h.idle then none else some { h with idle := true }
      else some { h with idle := false } := by
  have judged : ∀ x : Option Hold, (modPrinter p (fun y => { y with hold := x }) s).printers[p].hold = x := fun x => by
    unfold modPrinter
    rw [upd_get_self]
  have released : (releaseHold p s).printers[p].hold = none := by
    rw [releaseHold_printers, put_get_self]
  unfold watchHold
  cases hh : s.printers[p].hold with
  | none => exact hh
  | some h =>
    dsimp only
    split
    · split
      · exact released
      · exact judged _
    · exact judged _

/-- A hold that was not idle stays its window's. -/
theorem holds_watchHold (h : ∀ x, s.printers[p].hold = some x → x.idle = false) (w : WindowId) (q : PrinterId) :
    holds (watchHold p s) w q = holds s w q := by
  by_cases e : p = q
  · subst e
    unfold holds
    rw [watchHold_hold]
    cases hh : s.printers[p].hold with
    | none => rfl
    | some x =>
      dsimp only
      rw [h x hh]
      split <;> rfl
  · obtain ⟨-, -, printers⟩ := watchHold_frame p s
    unfold holds
    rw [(printers q).2 e]

/-- The window's queue is as it was until it is worked on, and so are its holds; then its head job is aged. No hold still to
be judged is idle. -/
structure HeadDue (s : State) (w : WindowId) (i : JobIx) (rest : List JobIx) (j : Job) (todo : Duty → Prop) (u : State) :
    Prop where
  notIdle : ∀ q, todo (.watch q) → ∀ h, u.printers[q].hold = some h → h.idle = false
  before : todo (.age w) → u.queues[w] = s.queues[w] ∧ (∀ k ∈ s.queues[w], jobAt u k = jobAt s k) ∧
    ∀ q, holds u w q = holds s w q
  after : ¬todo (.age w) → HeadAged s w i rest j u

/-- A duty that meets no idle hold leaves alone what another window holds. -/
theorem QuietStep.holds (step : QuietStep d u (d.run u)) (other : d ≠ .age w)
    (notIdle : ∀ q, d = .watch q → ∀ h, u.printers[q].hold = some h → h.idle = false)
    (none : ∀ q, d = .watch q → owedJobs u q = []) (q : PrinterId) : Machine.holds (d.run u) w q = Machine.holds u w q := by
  by_cases own : d = .watch q
  · subst own
    obtain ⟨-, printers, -⟩ := awaitOutcomes_frame q u
    have run : (Duty.watch q).run u = watchHold q (awaitOutcomes q u) := watchPrinter_quiet (none q rfl)
    rw [run, holds_watchHold (by rw [printers]; exact notIdle q rfl)]
    unfold Machine.holds
    rw [printers]
  · rcases step.printers q own with e | ⟨e, v, hv, held⟩
    · unfold Machine.holds
      rw [e]
    · have apart : v ≠ w := fun e => other (hv.trans (congrArg Duty.age e))
      unfold Machine.holds at held ⊢
      rw [e]
      cases hh : u.printers[q].hold with
      | none => rfl
      | some h =>
        rw [hh] at held
        have window : h.window = v := by simpa using held
        have ne : h.window ≠ w := window ▸ apart
        simp [ne]

theorem HeadDue.duty (place : PlaceLaw s) (none : ∀ q : PrinterId, owedJobs s q = []) (hq : s.queues[w] = i :: rest)
    (hj : jobAt s i = some j) (hd : ¬todo d) (quiet : QuietSweep s (fun e => e = d ∨ todo e) u)
    (step : QuietStep d u (d.run u)) (h : HeadDue s w i rest j (fun e => e = d ∨ todo e) u) :
    HeadDue s w i rest j todo (d.run u) := by
  have idle : ∀ q, todo (.watch q) → ∀ h, (d.run u).printers[q].hold = some h → h.idle = false := fun q hq x hx => by
    have other : d ≠ .watch q := fun e => hd (e ▸ hq)
    rcases step.printers q other with e | ⟨e, -⟩
    · exact h.notIdle q (.inr hq) x (e ▸ hx)
    · rw [e] at hx
      cases hx
  by_cases own : d = .age w
  · subst own
    obtain ⟨queue, jobs, held⟩ := h.before (.inl rfl)
    refine ⟨idle, fun ht => absurd ht hd, fun _ => ?_⟩
    have aged : HeadAged u w i rest j (ageWindow w u) :=
      ageWindow_headAged (queue.trans hq) ((jobs i (hq ▸ List.mem_cons_self)).trans hj) (queue ▸ place.2.1 w) quiet.waiting
    exact aged.earlier (agingExempt_congr held quiet.lists) queue quiet.windows quiet.routes quiet.settings quiet.tokens
  · obtain ⟨queue', jobs'⟩ := step.queues w own
    refine ⟨idle, fun ht => ?_, fun ht => ?_⟩
    · obtain ⟨queue, jobs, held⟩ := h.before (.inr ht)
      refine ⟨queue'.trans queue, fun k hk => (jobs' k (queue ▸ hk)).trans (jobs k hk), fun q => ?_⟩
      exact (step.holds own (fun q hq => h.notIdle q (.inl hq.symm)) (fun q hq => quiet.owed none (.inl hq.symm)) q).trans
        (held q)
    · exact (h.after fun h => h.elim (fun e => own e.symm) ht).later hq step own (d.run_work u)

theorem sweep_headAged (place : PlaceLaw s) (none : ∀ q : PrinterId, owedJobs s q = []) (hg : granting s = true)
    (notIdle : ∀ (q : PrinterId) (h : Hold), s.printers[q].hold = some h → h.idle = false) (hq : s.queues[w] = i :: rest)
    (hj : jobAt s i = some j) (blocks windows printers : List Nat) :
    HeadAged s w i rest j (sweepEvent blocks windows printers s) :=
  (quiet_sweep (X := HeadDue s w i rest j) place none hg
    (fun _ _ _ hd quiet step h => h.duty place none hq hj hd quiet step)
    (fun _ _ => ⟨fun q _ => notIdle q, fun _ => ⟨rfl, fun _ _ => rfl, fun _ => rfl⟩, fun h => absurd trivial h⟩)
    blocks windows printers).after id

end

section
variable {p q : PrinterId} {s t u : State} {i k : JobIx} {j j' : Job} {w v : WindowId} {l : LineId} {d : Duty}
  {todo : Duty → Prop}

/-! ### Holds (R88) -/

/-- A job but for the flags that aging and awaiting write. -/
def Job.core (j : Job) : Job := { j with aged := false, outcomeWait := false }

/-- What the judgement of a hold reads of the two states is the same, but for the holds of other printers, which may be gone
(R74, R88). -/
structure Alike (s t : State) : Prop where
  queues : t.queues = s.queues
  jobs : ∀ k, (jobAt t k).map Job.core = (jobAt s k).map Job.core
  printers : ∀ q : PrinterId, { t.printers[q] with hold := none } = { s.printers[q] with hold := none }
  held : ∀ w q, holds t w q = true → holds s w q = true
  magazines : t.magazines = s.magazines
  windows : t.windows = s.windows
  selected : ∀ q, isSelected t q = isSelected s q

theorem Alike.refl (s : State) : Alike s s := ⟨rfl, fun _ => rfl, fun _ => rfl, fun _ _ => id, rfl, rfl, fun _ => rfl⟩

theorem Alike.trans (h : Alike s t) (k : Alike t u) : Alike s u :=
  ⟨k.queues.trans h.queues, fun i => (k.jobs i).trans (h.jobs i), fun q => (k.printers q).trans (h.printers q),
    fun w q => h.held w q ∘ k.held w q, k.magazines.trans h.magazines, k.windows.trans h.windows,
    fun q => (k.selected q).trans (h.selected q)⟩

/-- A test of a job that does not read those flags. -/
theorem Alike.any (h : Alike s t) {test : Job → Bool} (hc : ∀ j : Job, test j.core = test j) (k : JobIx) :
    (jobAt t k).any test = (jobAt s k).any test := by
  have core : ∀ x : Option Job, (x.map Job.core).any test = x.any test := fun x => by cases x <;> simp [hc]
  rw [← core, h.jobs, core]

theorem Alike.reserved (h : Alike s t) (p : PrinterId) : Machine.reserved t p = Machine.reserved s p := by
  have lists : t.printers[p].outstanding = s.printers[p].outstanding := by
    have e := congrArg Printer.outstanding (h.printers p)
    exact e
  unfold Machine.reserved
  rw [lists]
  exact congrArg List.length (List.filter_congr fun k _ => h.any (fun _ => rfl) k)

theorem Alike.eligible (h : Alike s t) (law : HoldLaw s) (hold : t.printers[p].hold = s.printers[p].hold)
    (mine : holds s w p = true) (same : j'.core = j.core) (hw : j.window = some w) :
    Machine.eligible t p j' = Machine.eligible s p j := by
  have window : j'.window = j.window := by
    have e := congrArg Job.window same
    exact e
  have target : j'.target = j.target := by
    have e := congrArg Job.target same
    exact e
  have kind : j'.kind = j.kind := by
    have e := congrArg Job.kind same
    exact e
  have printer : t.printers[p] = s.printers[p] := by
    have e := congrArg (fun x : Printer => { x with hold := s.printers[p].hold }) (h.printers p)
    rw [← hold] at e
    exact e.trans (by rw [hold])
  have held : heldPrinter t w = heldPrinter s w := by
    refine congrArg (List.find? · (every 16)) (funext fun q => ?_)
    refine Bool.eq_iff_iff.mpr ⟨h.held w q, fun hq => ?_⟩
    have own : q = p := law w q p hq mine
    subst own
    unfold holds at mine ⊢
    rw [hold]
    exact mine
  unfold Machine.eligible suits heldByOther ownHoldAllows targetGroup
  rw [printer, h.magazines, h.reserved, h.selected, window, target, kind, hw, h.windows]
  dsimp only
  rw [held]

theorem Alike.headJob (h : Alike s t) (w : WindowId) :
    (Machine.headJob t w).map Job.core = (Machine.headJob s w).map Job.core := by
  unfold Machine.headJob
  rw [h.queues]
  cases s.queues[w].head? with
  | none => rfl
  | some i => exact h.jobs i

/-- The judgement of a hold is the same. -/
theorem Alike.holdIdle (h : Alike s t) (law : HoldLaw s) (waiting : Waiting s)
    (hold : t.printers[p].hold = s.printers[p].hold) (mine : holds s w p = true) :
    Machine.holdIdle t p w = Machine.holdIdle s p w := by
  have lists : t.printers[p].outstanding = s.printers[p].outstanding := by
    have e := congrArg Printer.outstanding (h.printers p)
    exact e
  have busy : (t.printers[p].outstanding.any fun i => jobIs t i fun j => j.window == some w) =
      s.printers[p].outstanding.any fun i => jobIs s i fun j => j.window == some w := by
    rw [lists]
    exact congrArg _ (funext fun k => h.any (fun _ => rfl) k)
  have head : ((Machine.headJob t w).any fun j => Machine.eligible t p j) =
      (Machine.headJob s w).any fun j => Machine.eligible s p j := by
    have same := h.headJob w
    cases ht : Machine.headJob t w with
    | none =>
      rw [ht] at same
      rw [Option.map_eq_none_iff.mp same.symm]
      rfl
    | some j' =>
      rw [ht] at same
      obtain ⟨j, hj, e⟩ := Option.map_eq_some_iff.mp same.symm
      rw [hj]
      obtain ⟨i, hi, hji⟩ := Option.bind_eq_some_iff.mp hj
      have window := (waiting w i (List.mem_of_mem_head? hi) j hji).1
      exact h.eligible law hold mine e.symm window
  unfold Machine.holdIdle
  rw [busy, head]

/-! ### The duties, where no head job is aged -/

theorem Alike.modJob {f : Job → Job} (hf : ∀ j, (f j).core = j.core) : Alike s (modJob i f s) := by
  refine ⟨rfl, fun k => ?_, fun _ => rfl, fun _ _ => id, rfl, rfl, fun _ => rfl⟩
  rw [jobAt_modJob]
  split
  · cases jobAt s k with
    | none => rfl
    | some j => exact congrArg some (hf j)
  · rfl

/-- A head job that is not aged changes in that flag alone. -/
theorem ageWindow_fresh (fresh : ∀ i, s.queues[w].head? = some i → ∀ j, jobAt s i = some j → j.aged = false) :
    ageWindow w s = s ∨ ∃ (i : JobIx) (a : Bool), ageWindow w s = modJob i (fun j => { j with aged := a }) s := by
  unfold ageWindow
  split
  · exact .inl rfl
  · next i head =>
    split
    · exact .inl rfl
    · next j hj =>
      rw [fresh i head j hj]
      split
      · exact .inr ⟨i, false, rfl⟩
      · exact .inr ⟨i, true, rfl⟩

theorem Alike.ageWindow (fresh : ∀ i, s.queues[w].head? = some i → ∀ j, jobAt s i = some j → j.aged = false) :
    Alike s (ageWindow w s) ∧ (ageWindow w s).printers = s.printers := by
  rcases ageWindow_fresh fresh with e | ⟨i, a, e⟩
  · rw [e]
    exact ⟨.refl s, rfl⟩
  · rw [e]
    exact ⟨.modJob fun _ => rfl, rfl⟩

theorem Alike.awaitOutcomes (nodup : s.printers[p].outstanding.Nodup) : Alike s (awaitOutcomes p s) := by
  obtain ⟨queues, printers, -, lines, same_books, same_still, -⟩ := awaitOutcomes_frame p s
  refine ⟨queues, fun k => ?_, fun q => by rw [printers], fun w q => ?_, congrArg Books.magazines same_books,
    congrArg Still.windows same_still, fun q => ?_⟩
  · rw [jobAt_awaitOutcomes nodup]
    split
    · cases jobAt s k <;> rfl
    · rfl
  · unfold Machine.holds
    rw [printers]
    exact id
  · unfold isSelected
    rw [lines]

theorem Alike.watchHold : Alike s (watchHold p s) := by
  obtain ⟨same, jobs, frames⟩ := watchHold_frame p s
  refine ⟨congrArg Places.queues same, fun k => ?_, fun q => (frames q).1, fun w q hq => ?_,
    congrArg Books.magazines (books_watchHold p s), congrArg Still.windows (watchHold_still p s), fun q => ?_⟩
  · unfold jobAt
    rw [jobs]
  · by_cases own : p = q
    · subst own
      unfold Machine.holds at hq ⊢
      rw [watchHold_hold] at hq
      cases hh : s.printers[p].hold with
      | none =>
        rw [hh] at hq
        exact hq
      | some h =>
        rw [hh] at hq
        dsimp only at hq
        split at hq
        · split at hq
          · cases hq
          · exact hq
        · exact hq
    · unfold Machine.holds at hq ⊢
      rwa [(frames q).2 own] at hq
  · have lines : (Machine.watchHold p s).lines = s.lines := congrArg Places.lines same
    unfold isSelected
    rw [lines]

/-- Whether a roll call selects an address (R109). -/
def rollSelects (r : RollCall) (a : AddressIx) : Bool :=
  inMask r.waitingSet a || inMask r.pendingSet a || inMask (unresolved r) a

theorem lineAfterSweep_roll (x : Line) : (lineAfterSweep x).roll = nextRound x.roll := by
  unfold lineAfterSweep nextRound
  cases hp : x.roll.phase with
  | none | round => rfl
  | waiting | between =>
    dsimp only
    split <;> rfl

/-- A round that starts selects the printers that waited for it. -/
theorem rollSelects_nextRound {r : RollCall} (h : r.phase = .waiting → r.runningSet = 0#8 ∧ r.pendingSet = 0#8)
    (a : AddressIx) : rollSelects (nextRound r) a = rollSelects r a := by
  unfold nextRound
  cases hp : r.phase with
  | none | round | between => rfl
  | waiting =>
    obtain ⟨running, pending⟩ := h hp
    have all : r.waitingSet &&& ~~~(0#8) = r.waitingSet := BitVec.and_allOnes
    simp only [rollSelects, inMask, unresolved, running, pending, all]
    simp

theorem Alike.startRound (law : s.lines[l].roll.phase = .waiting →
    s.lines[l].roll.runningSet = 0#8 ∧ s.lines[l].roll.pendingSet = 0#8) : Alike s (startRound l s) := by
  obtain ⟨lines, e, each⟩ := startRound_eq l s
  rw [e]
  refine ⟨rfl, fun _ => rfl, fun _ => rfl, fun _ _ => id, rfl, rfl, fun q => ?_⟩
  show rollSelects lines[lineOfPrinter q].roll (addressIx q) = rollSelects s.lines[lineOfPrinter q].roll (addressIx q)
  rw [each]
  split
  · next own =>
    rw [lineAfterSweep_roll]
    exact rollSelects_nextRound (own ▸ law) _
  · rfl

/-- A hold after a sweep (R88). -/
def holdAfterSweep (s : State) (p : PrinterId) : Option Hold :=
  match s.printers[p].hold with
  | none => none
  | some h =>
    if holdIdle s p h.window = true then if h.idle then none else some { h with idle := true }
    else some { h with idle := false }

/-- The state is alike; head jobs not yet worked on are not aged, holds not yet judged and lines not yet worked on are as
they were; the printer's hold is judged with it. -/
structure HoldsDue (s : State) (p : PrinterId) (todo : Duty → Prop) (u : State) : Prop where
  alike : Alike s u
  fresh : ∀ w, todo (.age w) → ∀ i, u.queues[w].head? = some i → ∀ j, jobAt u i = some j → j.aged = false
  before : ∀ q, todo (.watch q) → u.printers[q].hold = s.printers[q].hold
  lines : ∀ l, todo (.round l) → u.lines[l] = s.lines[l]
  after : ¬todo (.watch p) → u.printers[p].hold = holdAfterSweep s p

theorem HoldsDue.run_alike (place : PlaceLaw s) (none : ∀ q : PrinterId, owedJobs s q = []) (rolls : RollLaw s)
    (quiet : QuietSweep s (fun e => e = d ∨ todo e) u) (h : HoldsDue s p (fun e => e = d ∨ todo e) u) :
    Alike u (d.run u) := by
  cases d with
  | age w => exact (Alike.ageWindow (h.fresh w (.inl rfl))).1
  | watch q =>
    have run : (Duty.watch q).run u = watchHold q (awaitOutcomes q u) := watchPrinter_quiet (quiet.owed none (.inl rfl))
    rw [run]
    exact (Alike.awaitOutcomes (quiet.lists q ▸ place.2.2.1 q)).trans .watchHold
  | round l =>
    refine .startRound fun waiting => ?_
    rw [h.lines l (.inl rfl)] at waiting ⊢
    have law := rolls l
    rw [waiting] at law
    exact law
  | header => exact ⟨rfl, fun _ => rfl, fun _ => rfl, fun _ _ => id, rfl, rfl, fun _ => rfl⟩

/-- The judgement of a hold that is as it was. -/
theorem HoldsDue.judged (place : PlaceLaw s) (none : ∀ q : PrinterId, owedJobs s q = []) (law : HoldLaw s)
    (quiet : QuietSweep s (fun e => e = .watch p ∨ todo e) u) (h : HoldsDue s p (fun e => e = .watch p ∨ todo e) u) :
    (watchPrinter p u).printers[p].hold = holdAfterSweep s p := by
  obtain ⟨-, printers, -⟩ := awaitOutcomes_frame p u
  have awaited : Alike u (awaitOutcomes p u) := .awaitOutcomes (quiet.lists p ▸ place.2.2.1 p)
  have hold : (awaitOutcomes p u).printers[p].hold = s.printers[p].hold := by
    rw [printers]
    exact h.before p (.inl rfl)
  rw [watchPrinter_quiet (quiet.owed none (.inl rfl)), watchHold_hold, hold]
  unfold holdAfterSweep
  cases hh : s.printers[p].hold with
  | none => rfl
  | some x =>
    have mine : holds s x.window p = true := by
      unfold holds
      rw [hh]
      simp
    dsimp only
    rw [(h.alike.trans awaited).holdIdle law place.waiting hold mine]

theorem HoldsDue.duty (place : PlaceLaw s) (none : ∀ q : PrinterId, owedJobs s q = []) (law : HoldLaw s)
    (rolls : RollLaw s) (hd : ¬todo d) (quiet : QuietSweep s (fun e => e = d ∨ todo e) u) (step : QuietStep d u (d.run u))
    (h : HoldsDue s p (fun e => e = d ∨ todo e) u) : HoldsDue s p todo (d.run u) := by
  have same : ∀ q, d ≠ .watch q → (d.run u).printers[q].hold = u.printers[q].hold := fun q hq => by
    rcases step.printers q hq with e | ⟨-, w, rfl, -⟩
    · rw [e]
    · have printers : ((Duty.age w).run u).printers = u.printers := (Alike.ageWindow (h.fresh w (.inl rfl))).2
      rw [printers]
  refine ⟨h.alike.trans (h.run_alike place none rolls quiet), fun w hw i hi j hj => ?_, fun q hq => ?_, fun l hl => ?_,
    fun hp => ?_⟩
  · obtain ⟨queue, jobs⟩ := step.queues w fun e => hd (e ▸ hw)
    rw [queue] at hi
    exact h.fresh w (.inr hw) i hi j ((jobs i (List.mem_of_mem_head? hi)).symm.trans hj)
  · exact (same q fun e => hd (e ▸ hq)).trans (h.before q (.inr hq))
  · exact (step.lines l fun e => hd (e ▸ hl)).trans (h.lines l (.inr hl))
  · by_cases own : d = .watch p
    · subst own
      exact h.judged place none law quiet
    · exact (same p own).trans (h.after fun h => h.elim (fun e => own e.symm) hp)

theorem sweep_hold (place : PlaceLaw s) (none : ∀ q : PrinterId, owedJobs s q = []) (hg : granting s = true)
    (law : HoldLaw s) (rolls : RollLaw s)
    (fresh : ∀ (w : WindowId) (i : JobIx) (j : Job), s.queues[w].head? = some i → jobAt s i = some j → j.aged = false)
    (blocks windows printers : List Nat) (p : PrinterId) :
    (sweepEvent blocks windows printers s).printers[p].hold = holdAfterSweep s p :=
  (quiet_sweep (X := HoldsDue s p) place none hg
    (fun _ _ _ hd quiet step h => h.duty place none law rolls hd quiet step)
    (fun _ _ => ⟨⟨rfl, fun _ => rfl, fun _ => rfl, fun _ _ => id, rfl, rfl, fun _ => rfl⟩,
      fun w _ i hi j hj => fresh w i j hi hj, fun _ _ => rfl, fun _ _ => rfl, fun h => absurd trivial h⟩)
    blocks windows printers).after id

end

/-! ### O30 -/

section
variable {s : State} {blocks windows printers : List Nat}

theorem PrinterState.inService {x : PrinterState} (h : x = .ready ∨ x = .empty ∨ x = .recovering) :
    x ≠ .unconfigured ∧ x ≠ .offline ∧ x ≠ .faulted := by
  rcases h with rfl | rfl | rfl <;> decide

/-- The record of a missing outcome that finds its printer in service (R126). -/
theorem noOutcomeRecord_first {p : PrinterId} {i : JobIx} {flags : BitVec 5} (h : s.printers[p].state ≠ .faulted) :
    noOutcomeRecord s p i flags =
      { state := .opened, first := some .noOutcome, latest := some .noOutcome, flags := flags,
        clock := s.settings.clock, further := 0, token := some (tokenOf s i), serial := serialOf s i } := if_neg h

theorem noOutcomeRecord_further {p : PrinterId} {i : JobIx} {flags : BitVec 5} (h : s.printers[p].state = .faulted) :
    noOutcomeRecord s p i flags = furtherFault (noOutcomeInfo s i) s.printers[p].fault := if_pos h

/-- The jobs in flight of a printer are ended, each with its entry. -/
theorem FaultedOut.ended_each {p : PrinterId} {i : JobIx} {t : State} (h : FaultedOut p i s t) (k : JobIx) (j : Job)
    (hk : k ∈ s.printers[p].outstanding) (hj : jobAt s k = some j) (flies : j.state = .sending ∨ j.state = .sent) :
    jobAt t k = none ∧ inDoubtReturn s k j ∈ t.port.returns :=
  h.ended k (mem_flightList.mpr ⟨hk, by rw [inFlight_eq, hj]; exact (Job.flying_iff j).mpr flies⟩) j hj

end

/-- Settles O30: each claim is an invariant of the duties still to be done, in whatever order they come. -/
theorem agingOfTheHeadJob : Obligations.AgingOfTheHeadJob := by
  intro s blocks windows printers hl ho place
  have hg := (granting_iff s).mpr ho
  refine ⟨_, exec_sweep hl hg, fun none => ⟨fun idle w i rest j hq hj => ?_, fun p i j hi hj flies => ?_,
    fun law rolls fresh p => ?_, fun l => ?_⟩, fun p i later owed => ⟨fun inService => ?_, fun faulted => ?_,
    fun hs hs' others fresh l order => ?_⟩⟩
  · obtain ⟨exempt, first, falls, ends⟩ := sweep_headAged place none hg idle hq hj blocks windows printers
    exact ⟨exempt, first, falls, ends⟩
  · exact sweep_outcomeWait place none hg blocks windows printers
      (mem_flightList.mpr ⟨hi, by rw [inFlight_eq, hj]; exact (Job.flying_iff j).mpr flies⟩) hj
  · exact sweep_hold place none hg law rolls fresh blocks windows printers p
  · refine (sweep_lines place none hg blocks windows printers l).trans ?_
    unfold lineAfterSweep nextRound unresolved
    cases hp : s.lines[l].roll.phase <;> rfl
  · obtain ⟨hs, hs', unfaulted⟩ := PrinterState.inService inService
    have out := sweep_faultedOut hg place hs hs' owed blocks windows printers
    obtain ⟨flags, fault⟩ := out.fault
    rw [noOutcomeRecord_first unfaulted] at fault
    refine ⟨out.state, ?_, ?_, ?_, ?_, ?_, ?_, ?_, out.mark, out.ended_each⟩
    · exact congrArg FaultRecord.state fault
    · exact congrArg FaultRecord.first fault
    · exact congrArg FaultRecord.latest fault
    · exact congrArg FaultRecord.clock fault
    · exact congrArg FaultRecord.further fault
    · exact congrArg FaultRecord.token fault
    · exact congrArg FaultRecord.serial fault
  · have hs : s.printers[p].state ≠ .unconfigured := by
      rw [faulted]
      decide
    have hs' : s.printers[p].state ≠ .offline := by
      rw [faulted]
      decide
    have out := sweep_faultedOut hg place hs hs' owed blocks windows printers
    obtain ⟨flags, fault⟩ := out.fault
    rw [noOutcomeRecord_further faulted] at fault
    exact ⟨out.state, fault, out.mark, out.ended_each⟩
  · exact (sweep_inDoubtEffects hg place hs hs' owed others fresh order blocks windows printers)

end Sys2Proof.Machine
end

section
/-! SUPPORT. Where each job is (`JobView`): what the laws of the Job Table, the window queues and the outstanding lists read of a state,
the events that move a job (R37 to R46, R81, R132) as changes of that view, and that each keeps the laws. -/

namespace Sys2Proof.Machine

/-! ### The view -/

/-- What the laws of R41 and R42 read of a job. -/
structure JobPlace where
  window : Option WindowId
  printer : Option PrinterId
  state : JobState

/-- In its window's queue. -/
def JobPlace.back (x : JobPlace) : JobPlace := { x with printer := none, state := .queued }

/-- In a printer's list, GRANTED. -/
def JobPlace.granted (p : PrinterId) (x : JobPlace) : JobPlace := { x with printer := some p, state := .granted }

/-- The place an accepted ISSUE gives its job. -/
def JobPlace.issued (w : WindowId) : JobPlace := { window := some w, printer := none, state := .queued }

/-- The place an accepted TEST PRINT gives its job. -/
def JobPlace.test (p : PrinterId) : JobPlace := { window := none, printer := some p, state := .granted }

/-- The place of a job. -/
def Job.place (j : Job) : JobPlace := { window := j.window, printer := j.printer, state := j.state }

/-- What the laws of R37, R41, R42 and R81 read of a state. -/
structure JobView where
  place : JobIx → Option JobPlace
  /-- the generation of record 63 (R37) -/
  top : Fin 4
  freeStack : List JobIx
  queues : WindowId → List JobIx
  lists : PrinterId → List JobIx
  quotas : WindowId → Nat
  starting : Bool

/-- The view of a state. -/
def jobView (s : State) : JobView :=
  { place := fun i => (jobAt s i).map Job.place
    top := s.jobs[(63 : JobIx)].generation
    freeStack := s.freeStack
    queues := fun w => s.queues[w]
    lists := fun p => s.printers[p].outstanding
    quotas := fun w => s.windows[w].quota
    starting := s.start.isSome }

/-! ### The laws of a view -/

namespace JobView

/-- R41, as `JobTableLaw`. -/
def Table (v : JobView) : Prop := v.freeStack.Nodup ∧ ∀ i, i ∈ v.freeStack ↔ v.place i = none

/-- The jobs of a window. -/
def jobsOf (v : JobView) (w : WindowId) : Finset JobIx := {i | (v.place i).any (·.window == some w) = true}

/-- R41, as `WindowJobsLaw`. -/
def Counts (v : JobView) : Prop := ∀ w, v.quotas w ≤ 16 ∧ (v.jobsOf w).card ≤ 16

/-- R37, as `TokenLaw`. -/
def Token (v : JobView) : Prop := v.top ≠ 3

/-- R81, as `OutstandingLaw`. -/
def Short (v : JobView) : Prop := ∀ p, (v.lists p).length ≤ 2

/-- R42, as `PlaceLaw`. -/
structure Placed (v : JobView) : Prop where
  idle : v.starting = true → ∀ i, v.place i = none
  queues : ∀ w, (v.queues w).Nodup
  lists : ∀ p, (v.lists p).Nodup
  queued : ∀ i w, i ∈ v.queues w ↔ ∃ x, v.place i = some x ∧ x.window = some w ∧ x.printer = none
  listed : ∀ i p, i ∈ v.lists p ↔ ∃ x, v.place i = some x ∧ x.printer = some p
  state : ∀ i x, v.place i = some x →
    (x.printer = none ↔ x.state = .queued) ∧ (x.printer = none → x.window ≠ none)

end JobView

theorem jobTableLaw_iff (s : State) : JobTableLaw s ↔ (jobView s).Table := by
  simp [JobTableLaw, JobView.Table, jobView]

theorem jobCount_eq_card (s : State) (w : WindowId) : jobCount s w = ((jobView s).jobsOf w).card := by
  have any : ∀ i, ((jobAt s i).map Job.place).any (·.window == some w) = jobIs s i (·.window == some w) := fun i => by
    unfold jobIs
    cases jobAt s i <;> rfl
  rw [jobCount, every, ← List.toFinset_card_of_nodup ((List.nodup_finRange 64).filter _)]
  congr 1
  ext i
  simp [JobView.jobsOf, jobView, any]

theorem windowJobsLaw_iff (s : State) : WindowJobsLaw s ↔ (jobView s).Counts := by
  simp only [WindowJobsLaw, JobView.Counts, jobCount_eq_card]
  rfl

theorem placeLaw_iff (s : State) : PlaceLaw s ↔ (jobView s).Placed := by
  have starting : s.start ≠ none ↔ s.start.isSome = true := by rw [Option.isSome_iff_ne_none]
  have place : ∀ i x, (jobView s).place i = some x ↔ ∃ j, jobAt s i = some j ∧ j.place = x := fun i x => by
    simp [jobView]
  constructor
  · rintro ⟨idle, queues, lists, places⟩
    refine ⟨fun h i => ?_, queues, lists, fun i w => ?_, fun i p => ?_, fun i x hx => ?_⟩
    · simp [jobView, idle (starting.mpr h) i]
    · simpa [place, Job.place] using! (places i).1 w
    · simpa [place, Job.place] using! (places i).2.1 p
    · obtain ⟨j, hj, rfl⟩ := (place i x).mp hx
      exact (places i).2.2 j hj
  · intro h
    refine ⟨fun hs i => ?_, h.queues, h.lists, fun i => ⟨fun w => ?_, fun p => ?_, fun j hj => ?_⟩⟩
    · simpa [jobView] using h.idle (starting.mp hs) i
    · simpa [place, Job.place, jobView] using h.queued i w
    · simpa [place, Job.place, jobView] using h.listed i p
    · exact h.state i j.place ((place i _).mpr ⟨j, hj, rfl⟩)


/-! ### The events that move a job -/

namespace JobView

/-- A job's place is replaced; none where its record is freed. -/
def setPlace (i : JobIx) (x : Option JobPlace) (v : JobView) : JobView := { v with place := Function.update v.place i x }

/-- A window's queue is replaced. -/
def setQueue (w : WindowId) (q : List JobIx) (v : JobView) : JobView := { v with queues := Function.update v.queues w q }

/-- A printer's outstanding list is replaced. -/
def setList (p : PrinterId) (l : List JobIx) (v : JobView) : JobView := { v with lists := Function.update v.lists p l }

/-- A job leaves the list its place names (R43 step 2). -/
def leave (i : JobIx) (x : JobPlace) (v : JobView) : JobView :=
  match x.printer, x.window with
  | some p, _ => v.setList p ((v.lists p).filter (· != i))
  | none, some w => v.setQueue w ((v.queues w).filter (· != i))
  | none, none => v

/-- A terminal result (R43). -/
def finish (i : JobIx) (v : JobView) : JobView :=
  match v.place i with
  | none => v
  | some x => { (v.leave i x).setPlace i none with freeStack := i :: v.freeStack }

/-- A queue after a job has come back to its front, behind the jobs granted before it (R46). -/
def queueBack (order : List JobIx) (i : JobIx) (q : List JobIx) : List JobIx :=
  let earlier := order.takeWhile (· != i)
  q.takeWhile earlier.contains ++ i :: q.dropWhile earlier.contains

/-- A job comes back to its window's queue (R46). -/
def comeBack (order : List JobIx) (p : PrinterId) (w : WindowId) (i : JobIx) (v : JobView) : JobView :=
  ((v.setList p ((v.lists p).filter (· != i))).setPlace i ((v.place i).map .back)).setQueue w
    (queueBack order i (v.queues w))

/-- A job leaves its printer unprinted (R46, R133). -/
def sendBack (order : List JobIx) (p : PrinterId) (i : JobIx) (v : JobView) : JobView :=
  match v.place i with
  | none => v
  | some x =>
    match x.window with
    | some w => v.comeBack order p w i
    | none => v.finish i

/-- The head of a window's queue is granted to a printer (R81). -/
def grant (w : WindowId) (i : JobIx) (p : PrinterId) (v : JobView) : JobView :=
  ((v.setQueue w ((v.queues w).filter (· != i))).setList p (v.lists p ++ [i])).setPlace i
    ((v.place i).map (.granted p))

/-- A record is taken from the Free Job Stack for a job (R37). -/
def take (i : JobIx) (rest : List JobIx) (x : JobPlace) (v : JobView) : JobView :=
  { v.setPlace i (some x) with freeStack := rest, top := if i = 63 then nextGeneration 63 v.top else v.top }

/-- An ISSUE is accepted (R38). -/
def issue (w : WindowId) (i : JobIx) (rest : List JobIx) (v : JobView) : JobView :=
  (v.take i rest (.issued w)).setQueue w (v.queues w ++ [i])

/-- A TEST PRINT is accepted (R132). -/
def test (p : PrinterId) (i : JobIx) (rest : List JobIx) (v : JobView) : JobView :=
  (v.take i rest (.test p)).setList p (v.lists p ++ [i])

end JobView

/-! ### What such an event keeps -/

/-- What an event keeps of the laws of R37, R41 and R81. -/
structure JobView.KeepsCounts (v u : JobView) : Prop where
  table : v.Table → u.Table
  counts : v.Counts → u.Counts
  token : v.Token → u.Token
  short : v.Short → u.Short

/-- What an event keeps of the laws, R42's place law with them. -/
structure JobView.Keeps (v u : JobView) : Prop extends JobView.KeepsCounts v u where
  placed : v.Table → v.Placed → u.Placed

namespace JobView

section
variable {u v x : JobView} {i : JobIx} {p : PrinterId} {w : WindowId} {y : JobPlace} {rest order : List JobIx}

theorem KeepsCounts.refl (v : JobView) : v.KeepsCounts v := ⟨id, id, id, id⟩

theorem KeepsCounts.trans (h : v.KeepsCounts u) (k : u.KeepsCounts x) : v.KeepsCounts x :=
  ⟨k.table ∘ h.table, k.counts ∘ h.counts, k.token ∘ h.token, k.short ∘ h.short⟩

theorem Keeps.refl (v : JobView) : v.Keeps v := ⟨.refl v, fun _ => id⟩

theorem Keeps.trans (h : v.Keeps u) (k : u.Keeps x) : v.Keeps x :=
  ⟨h.toKeepsCounts.trans k.toKeepsCounts, fun t d => k.placed (h.table t) (h.placed t d)⟩

/-- No job is made or moved to another window. -/
structure NoneMade (v u : JobView) : Prop where
  top : u.top = v.top
  quotas : u.quotas = v.quotas
  windows : ∀ i y, u.place i = some y → ∃ x, v.place i = some x ∧ y.window = x.window

theorem NoneMade.counts (h : v.NoneMade u) (c : v.Counts) : u.Counts := by
  refine fun w => ⟨h.quotas ▸ (c w).1, (Finset.card_le_card fun i hi => ?_).trans (c w).2⟩
  obtain ⟨y, hy, hw⟩ := Option.any_eq_true .. |>.mp (Finset.mem_filter.mp hi).2
  obtain ⟨x, hx, e⟩ := h.windows i y hy
  exact Finset.mem_filter.mpr ⟨Finset.mem_univ i, Option.any_eq_true .. |>.mpr ⟨x, hx, e ▸ hw⟩⟩

/-- Such an event, with what it keeps of the Free Job Stack and the outstanding lists. -/
theorem NoneMade.keepsCounts (h : v.NoneMade u) (table : v.Table → u.Table) (short : v.Short → u.Short) :
    v.KeepsCounts u := ⟨table, h.counts, fun t => by rwa [Token, h.top], short⟩

/-- A job's place changes within its window, and no record is freed or taken. -/
theorem keepsCounts_of_map (i : JobIx) (f : JobPlace → JobPlace) (hf : ∀ x, (f x).window = x.window)
    (top : u.top = v.top) (quotas : u.quotas = v.quotas) (stack : u.freeStack = v.freeStack)
    (place : u.place = Function.update v.place i ((v.place i).map f)) (short : v.Short → u.Short) : v.KeepsCounts u := by
  refine NoneMade.keepsCounts ⟨top, quotas, fun k z hz => ?_⟩ (fun t => ⟨stack ▸ t.1, fun k => ?_⟩) short
  all_goals by_cases hk : k = i
  · subst hk
    rw [place, Function.update_self] at hz
    obtain ⟨x, hx, rfl⟩ := Option.map_eq_some_iff.mp hz
    exact ⟨x, hx, hf x⟩
  · rw [place, Function.update_of_ne hk] at hz
    exact ⟨z, hz, rfl⟩
  · subst hk
    rw [stack, place, t.2]
    simp
  · rw [stack, place, t.2, Function.update_of_ne hk]

/-- An event that changes the place of one job, and moves no other. -/
theorem Placed.moved (d : v.Placed) (i : JobIx) (starting : u.starting = v.starting)
    (places : ∀ k, k ≠ i → u.place k = v.place k) (inQueues : ∀ k, k ≠ i → ∀ w, k ∈ u.queues w ↔ k ∈ v.queues w)
    (inLists : ∀ k, k ≠ i → ∀ p, k ∈ u.lists p ↔ k ∈ v.lists p)
    (idle : v.starting = true → u.place i = none) (queues : ∀ w, (u.queues w).Nodup) (lists : ∀ p, (u.lists p).Nodup)
    (queued : ∀ w, i ∈ u.queues w ↔ ∃ x, u.place i = some x ∧ x.window = some w ∧ x.printer = none)
    (listed : ∀ p, i ∈ u.lists p ↔ ∃ x, u.place i = some x ∧ x.printer = some p)
    (state : ∀ x, u.place i = some x → (x.printer = none ↔ x.state = .queued) ∧ (x.printer = none → x.window ≠ none)) :
    u.Placed := by
  refine ⟨fun hs k => ?_, queues, lists, fun k w => ?_, fun k p => ?_, fun k x hx => ?_⟩
  all_goals by_cases hk : k = i
  · subst hk; exact idle (starting ▸ hs)
  · rw [places k hk]; exact d.idle (starting ▸ hs) k
  · subst hk; exact queued w
  · rw [inQueues k hk, places k hk]; exact d.queued k w
  · subst hk; exact listed p
  · rw [inLists k hk, places k hk]; exact d.listed k p
  · subst hk; exact state x hx
  · exact d.state k x (places k hk ▸ hx)

/-! ### A job's place -/

/-- A job whose place has no printer is in its window's queue alone. -/
theorem Placed.queue_eq (d : v.Placed) (hi : v.place i = some y) (hp : y.printer = none) {w' : WindowId} :
    i ∈ v.queues w' ↔ y.window = some w' := by
  rw [d.queued, hi]
  exact ⟨fun ⟨_, e, hw, _⟩ => Option.some.inj e ▸ hw, fun hw => ⟨y, rfl, hw, hp⟩⟩

theorem Placed.list_eq (d : v.Placed) (hi : v.place i = some y) {q : PrinterId} :
    i ∈ v.lists q ↔ y.printer = some q := by
  rw [d.listed, hi]
  exact ⟨fun ⟨_, e, hq⟩ => Option.some.inj e ▸ hq, fun hq => ⟨y, rfl, hq⟩⟩

theorem Placed.no_queue (d : v.Placed) (hi : ∀ x, v.place i = some x → x.printer ≠ none) (w' : WindowId) :
    i ∉ v.queues w' := fun hm => by
  obtain ⟨x, hx, -, hn⟩ := (d.queued i w').mp hm
  exact hi x hx hn

theorem Placed.no_list (d : v.Placed) (hi : ∀ x, v.place i = some x → x.printer = none) (q : PrinterId) :
    i ∉ v.lists q := fun hm => by
  obtain ⟨x, hx, hq⟩ := (d.listed i q).mp hm
  rw [hi x hx] at hq
  cases hq

/-- The view without a job in any list. -/
def without (i : JobIx) (v : JobView) : JobView :=
  { v with queues := fun w => (v.queues w).filter (· != i), lists := fun p => (v.lists p).filter (· != i) }

theorem filter_ne_of_not_mem {l : List JobIx} (h : i ∉ l) : l.filter (· != i) = l :=
  List.filter_eq_self.mpr fun k hk => by simpa using fun e : k = i => h (e ▸ hk)

/-- A job taken out of the one list that may hold it is in none. -/
theorem update_filter_ne {α : Type} [DecidableEq α] {f : α → List JobIx} {a : α} (h : ∀ b, b ≠ a → i ∉ f b) :
    Function.update f a ((f a).filter (· != i)) = fun b => (f b).filter (· != i) := by
  funext b
  by_cases hb : b = a
  · subst hb; simp
  · rw [Function.update_of_ne hb, filter_ne_of_not_mem (h b hb)]

theorem filter_ne_eq_self {α : Type} {f : α → List JobIx} (h : ∀ b, i ∉ f b) :
    (fun b => (f b).filter (· != i)) = f := funext fun b => filter_ne_of_not_mem (h b)

/-- A job that leaves its printer's list is in no list. -/
theorem Placed.setList_filter (d : v.Placed) (hi : v.place i = some y) (hp : y.printer = some p) :
    v.setList p ((v.lists p).filter (· != i)) = v.without i := by
  have queues := filter_ne_eq_self (d.no_queue (i := i) fun x hx => by
    rw [hi] at hx
    cases hx
    simp [hp])
  have lists : ∀ q, q ≠ p → i ∉ v.lists q := fun q hq hm =>
    hq (Option.some.inj (((d.list_eq hi).mp hm).symm.trans hp))
  unfold setList without
  rw [update_filter_ne lists, queues]

/-- A job that leaves its window's queue is in no list. -/
theorem Placed.setQueue_filter (d : v.Placed) (hi : v.place i = some y) (hp : y.printer = none)
    (hw : y.window = some w) : v.setQueue w ((v.queues w).filter (· != i)) = v.without i := by
  have lists := filter_ne_eq_self (d.no_list (i := i) fun x hx => by
    rw [hi] at hx
    cases hx
    exact hp)
  have queues : ∀ q, q ≠ w → i ∉ v.queues q := fun q hq hm =>
    hq (Option.some.inj (((d.queue_eq hi hp).mp hm).symm.trans hw))
  unfold setQueue without
  rw [update_filter_ne queues, lists]

theorem Placed.leave_eq (d : v.Placed) (hi : v.place i = some y) : v.leave i y = v.without i := by
  unfold leave
  split
  · next p _ hp => exact d.setList_filter hi hp
  · next w hp hw => exact d.setQueue_filter hi hp hw
  · next hp hw => exact absurd hw ((d.state i y hi).2 hp)

/-! ### The events keep the laws -/

theorem leave_frame (i : JobIx) (y : JobPlace) (v : JobView) : (v.leave i y).top = v.top ∧
    (v.leave i y).quotas = v.quotas ∧ (v.leave i y).place = v.place ∧
      ∀ p, ((v.leave i y).lists p).length ≤ (v.lists p).length := by
  unfold leave
  split
  · next q _ =>
    refine ⟨rfl, rfl, rfl, fun p => ?_⟩
    by_cases hp : p = q
    · subst hp; simpa [setList] using List.length_filter_le _ _
    · simp [setList, hp]
  iterate 2 exact ⟨rfl, rfl, rfl, fun _ => le_rfl⟩

theorem keeps_finish (i : JobIx) (v : JobView) : v.Keeps (v.finish i) := by
  unfold finish
  split
  · exact .refl v
  · next y hi =>
    obtain ⟨top, quotas, place, lists⟩ := leave_frame i y v
    have other : ∀ k, k ≠ i → Function.update v.place i none k = v.place k := fun k hk =>
      Function.update_of_ne hk ..
    refine ⟨NoneMade.keepsCounts ⟨top, quotas, fun k z hz => ?_⟩ (fun t => ⟨?_, fun k => ?_⟩)
      fun h p => (lists p).trans (h p), fun _ d => ?_⟩
    · by_cases hk : k = i
      · subst hk; simp [setPlace] at hz
      · exact ⟨z, (other k hk).symm.trans (place ▸ hz), rfl⟩
    · exact List.nodup_cons.mpr ⟨fun hm => by simp [(t.2 i).mp hm] at hi, t.1⟩
    · by_cases hk : k = i
      · subst hk; simp [setPlace]
      · simp [hk, t.2 k, setPlace, place]
    · rw [d.leave_eq hi]
      refine d.moved i rfl other (fun k hk w => ?_) (fun k hk p => ?_) (fun _ => ?_) (fun w => ?_) (fun p => ?_)
        (fun w => ?_) (fun p => ?_) fun x hx => ?_
      all_goals simp_all [setPlace, without]
      · exact (d.queues w).filter _
      · exact (d.lists p).filter _

theorem perm_queueBack (order : List JobIx) (i : JobIx) (q : List JobIx) : (queueBack order i q).Perm (i :: q) := by
  unfold queueBack
  refine List.perm_middle.trans (.cons i ?_)
  rw [List.takeWhile_append_dropWhile]

theorem update_length_le {l : PrinterId → List JobIx} {l' : List JobIx} (h : l'.length ≤ (l p).length) (q : PrinterId) :
    (Function.update l p l' q).length ≤ (l q).length := by
  by_cases hq : q = p
  · subst hq; simpa using h
  · simp [hq]

theorem keepsCounts_comeBack (order : List JobIx) (p : PrinterId) (w : WindowId) (i : JobIx) (v : JobView) :
    v.KeepsCounts (v.comeBack order p w i) :=
  keepsCounts_of_map i .back (fun _ => rfl) rfl rfl rfl rfl
    (fun h q => (update_length_le (List.length_filter_le _ _) q).trans (h q))

/-- A job comes back from the printer whose list holds it, to the queue of its own window. -/
theorem keeps_comeBack (order : List JobIx) (own : v.Placed → ∃ y, v.place i = some y ∧ y.printer = some p ∧ y.window = some w) :
    v.Keeps (v.comeBack order p w i) := by
  have other : ∀ k, k ≠ i → (v.comeBack order p w i).place k = v.place k := fun k hk => Function.update_of_ne hk ..
  have self : (v.comeBack order p w i).place i = (v.place i).map .back := Function.update_self ..
  refine ⟨keepsCounts_comeBack order p w i v, fun _ d => ?_⟩
  obtain ⟨y, hi, hp, hw⟩ := own d
  have off := d.no_queue (i := i) fun x hx => by
    rw [hi] at hx
    cases hx
    simp [hp]
  have queue : ∀ u : WindowId, ∀ k, k ∈ (v.comeBack order p w i).queues u ↔ k ∈ v.queues u ∨ (k = i ∧ u = w) := fun u k => by
    by_cases hu : u = w
    · subst hu
      simpa [comeBack, setQueue, or_comm] using (perm_queueBack order i (v.queues u)).mem_iff
    · simp [comeBack, setQueue, setPlace, setList, hu]
  have lists : (v.comeBack order p w i).lists = fun q => (v.lists q).filter (· != i) :=
    congrArg JobView.lists (d.setList_filter hi hp)
  refine d.moved i rfl other (fun k hk u => ?_) (fun k hk q => ?_) (fun hs => ?_) (fun u => ?_) (fun q => ?_)
    (fun u => ?_) (fun q => ?_) fun x hx => ?_
  · simp [queue, hk]
  · simp [lists, hk]
  · simp [d.idle hs i] at hi
  · by_cases hu : u = w
    · subst hu
      have : ((v.comeBack order p u i).queues u).Perm (i :: v.queues u) := by
        simpa [comeBack, setQueue] using perm_queueBack order i (v.queues u)
      exact this.nodup_iff.mpr (List.nodup_cons.mpr ⟨off u, d.queues u⟩)
    · simpa [comeBack, setQueue, setPlace, setList, hu] using d.queues u
  · rw [lists]; exact (d.lists q).filter _
  · simp [queue, off u, self, hi, JobPlace.back, hw, eq_comm]
  · simp [lists, self, JobPlace.back]
  · rw [self, hi] at hx
    cases hx
    simp [JobPlace.back, hw]

/-- A job of the printer's list leaves the printer unprinted. -/
theorem keepsCounts_sendBack (order : List JobIx) (p : PrinterId) (i : JobIx) (v : JobView) :
    v.KeepsCounts (v.sendBack order p i) := by
  unfold sendBack
  split
  · exact .refl v
  · split
    · exact keepsCounts_comeBack ..
    · exact (keeps_finish i v).toKeepsCounts

theorem keeps_sendBack (order : List JobIx) (own : v.Placed → i ∈ v.lists p) : v.Keeps (v.sendBack order p i) := by
  refine ⟨keepsCounts_sendBack order p i v, fun t d => ?_⟩
  obtain ⟨y, hi, hp⟩ := (d.listed i p).mp (own d)
  unfold sendBack
  rw [hi]
  dsimp only
  split
  · next w hw => exact (keeps_comeBack order fun _ => ⟨y, hi, hp, hw⟩).placed t d
  · exact (keeps_finish i v).placed t d

/-- Where a job is, does not change. -/
structure SamePlace (i : JobIx) (v u : JobView) : Prop where
  place : u.place i = v.place i
  lists : ∀ p, i ∈ u.lists p ↔ i ∈ v.lists p

theorem SamePlace.refl (i : JobIx) (v : JobView) : v.SamePlace i v := ⟨rfl, fun _ => .rfl⟩

theorem SamePlace.trans (h : v.SamePlace i u) (k : u.SamePlace i x) : v.SamePlace i x :=
  ⟨k.place.trans h.place, fun p => (k.lists p).trans (h.lists p)⟩

theorem mem_update_filter_ne {f : PrinterId → List JobIx} {k : JobIx} (hk : k ≠ i) (q : PrinterId) :
    k ∈ Function.update f p ((f p).filter (· != i)) q ↔ k ∈ f q := by
  by_cases hq : q = p
  · subst hq; simp [hk]
  · simp [hq]

theorem samePlace_finish {k : JobIx} (hk : k ≠ i) (v : JobView) : v.SamePlace k (v.finish i) := by
  unfold finish
  split
  · exact .refl k v
  · next y hi =>
    obtain ⟨-, -, place, -⟩ := leave_frame i y v
    refine ⟨(Function.update_of_ne hk ..).trans (congrFun place k), fun q => ?_⟩
    show k ∈ (v.leave i y).lists q ↔ _
    unfold leave
    split
    · exact mem_update_filter_ne hk q
    iterate 2 exact .rfl

/-- A job's leaving of its printer moves no other. -/
theorem samePlace_sendBack (order : List JobIx) (p : PrinterId) {k : JobIx} (hk : k ≠ i) (v : JobView) :
    v.SamePlace k (v.sendBack order p i) := by
  unfold sendBack
  split
  · exact .refl k v
  · split
    · exact ⟨Function.update_of_ne hk .., mem_update_filter_ne hk⟩
    · exact samePlace_finish hk v

/-- Jobs leave their printer unprinted, one after another. -/
def sendBackAll (order : List JobIx) (p : PrinterId) (l : List JobIx) (v : JobView) : JobView :=
  l.foldl (fun v i => v.sendBack order p i) v

theorem samePlace_sendBackAll (order : List JobIx) (p : PrinterId) {l : List JobIx} {k : JobIx} (hk : k ∉ l) (v : JobView) :
    v.SamePlace k (v.sendBackAll order p l) := by
  induction l generalizing v with
  | nil => exact .refl k v
  | cons i rest ih =>
    rw [List.mem_cons, not_or] at hk
    exact (samePlace_sendBack order p hk.1 v).trans (ih hk.2 _)

theorem keepsCounts_sendBackAll (order : List JobIx) (p : PrinterId) (l : List JobIx) (v : JobView) :
    v.KeepsCounts (v.sendBackAll order p l) := by
  induction l generalizing v with
  | nil => exact .refl v
  | cons i rest ih => exact (keepsCounts_sendBack order p i v).trans (ih _)

/-- Jobs of the printer's list leave the printer unprinted, each once. -/
theorem keeps_sendBackAll (order : List JobIx) {l : List JobIx} (own : v.Placed → l.Nodup ∧ ∀ i ∈ l, i ∈ v.lists p) :
    v.Keeps (v.sendBackAll order p l) := by
  refine ⟨keepsCounts_sendBackAll order p l v, fun t d => ?_⟩
  replace own := own d
  induction l generalizing v with
  | nil => exact d
  | cons i rest ih =>
    have once := List.nodup_cons.mp own.1
    have first := keeps_sendBack (order := order) fun _ => own.2 i List.mem_cons_self
    refine ih (first.table t) (first.placed t d) ⟨once.2, fun k hk => ?_⟩
    have other : k ≠ i := fun e => once.1 (e ▸ hk)
    exact ((samePlace_sendBack order p other v).lists p).mpr (own.2 k (List.mem_cons_of_mem i hk))

/-! ### Jobs that join a tail -/

section
variable {α : Type} [DecidableEq α] {f : α → List JobIx} {a : α} {k : JobIx}

theorem mem_update_append (b : α) : k ∈ Function.update f a (f a ++ [i]) b ↔ k ∈ f b ∨ (k = i ∧ b = a) := by
  by_cases hb : b = a
  · subst hb; simp
  · simp [hb]

theorem nodup_update_append (h : ∀ b, (f b).Nodup) (hi : i ∉ f a) (b : α) : (Function.update f a (f a ++ [i]) b).Nodup := by
  by_cases hb : b = a
  · subst hb
    simpa using (h b).append (List.nodup_singleton i) (by simpa using hi)
  · simpa [hb] using h b

theorem length_update_append (h : ∀ b, (f b).length ≤ 2) (room : (f a).length < 2) (b : α) :
    (Function.update f a (f a ++ [i]) b).length ≤ 2 := by
  by_cases hb : b = a
  · subst hb
    simpa using Nat.le_of_lt_succ (Nat.succ_lt_succ room)
  · simpa [hb] using h b

end

/-- A job of a queue goes to a printer with room in its list (R81). -/
theorem keeps_grant (hm : i ∈ v.queues w) (room : (v.lists p).length < 2) : v.Keeps (v.grant w i p) := by
  have self : (v.grant w i p).place i = (v.place i).map (.granted p) := Function.update_self ..
  refine ⟨keepsCounts_of_map i (.granted p) (fun _ => rfl) rfl rfl rfl rfl fun h => length_update_append h room,
    fun _ d => ?_⟩
  obtain ⟨y, hi, hw, hp⟩ := (d.queued i w).mp hm
  have off := d.no_list (i := i) fun x hx => by
    rw [hi] at hx
    cases hx
    exact hp
  have queues : (v.grant w i p).queues = fun u => (v.queues u).filter (· != i) :=
    congrArg JobView.queues (d.setQueue_filter hi hp hw)
  have inList : ∀ k q, k ∈ (v.grant w i p).lists q ↔ k ∈ v.lists q ∨ (k = i ∧ q = p) := fun _ => mem_update_append
  refine d.moved i rfl (fun k hk => Function.update_of_ne hk ..) (fun k hk u => ?_) (fun k hk q => ?_) (fun hs => ?_)
    (fun u => ?_) (nodup_update_append d.lists (off p)) (fun u => ?_) (fun q => ?_) fun x hx => ?_
  · simp [queues, hk]
  · simp [inList, hk]
  · simp [d.idle hs i] at hi
  · rw [queues]; exact (d.queues u).filter _
  · simp [queues, self, JobPlace.granted]
  · simp [inList, off q, self, hi, JobPlace.granted, eq_comm]
  · rw [self, hi] at hx
    cases hx
    simp [JobPlace.granted]

/-- A job changes its state, but neither enters nor leaves QUEUED. -/
theorem keeps_change {f : JobPlace → JobPlace} (window : ∀ x, (f x).window = x.window)
    (printer : ∀ x, (f x).printer = x.printer) (queued : ∀ x, v.place i = some x → ((f x).state = .queued ↔ x.state = .queued)) :
    v.Keeps (v.setPlace i ((v.place i).map f)) := by
  have other : ∀ k, k ≠ i → (v.setPlace i ((v.place i).map f)).place k = v.place k :=
    fun k hk => Function.update_of_ne hk ..
  have self : (v.setPlace i ((v.place i).map f)).place i = (v.place i).map f := Function.update_self ..
  refine ⟨keepsCounts_of_map i f window rfl rfl rfl rfl id, fun _ d => ?_⟩
  refine d.moved i rfl other (fun _ _ _ => .rfl) (fun _ _ _ => .rfl) (fun hs => ?_) d.queues d.lists
    (fun u => ?_) (fun q => ?_) fun x hx => ?_
  · rw [self, d.idle hs i, Option.map_none]
  · rw [self]; simpa [window, printer] using! d.queued i u
  · rw [self]; simpa [printer] using! d.listed i q
  · obtain ⟨y, hy, rfl⟩ := Option.map_eq_some_iff.mp (self.symm.trans hx)
    rw [printer, window, queued y hy]
    exact d.state i y hy

/-! ### Records taken -/

theorem Table.take (t : v.Table) (hs : v.freeStack = i :: rest) (y : JobPlace) : (v.take i rest y).Table := by
  have stack := t.1
  rw [hs, List.nodup_cons] at stack
  refine ⟨stack.2, fun k => ?_⟩
  by_cases hk : k = i
  · subst hk; simpa [JobView.take, setPlace] using stack.1
  · have := t.2 k
    simpa [JobView.take, setPlace, hk, hs] using this

theorem Token.take (t : v.Token) (i : JobIx) (rest : List JobIx) (y : JobPlace) : (v.take i rest y).Token := by
  unfold Token JobView.take
  dsimp only
  split
  · exact nextGeneration_63 _
  · exact t

theorem Table.head_free (t : v.Table) (hs : v.freeStack = i :: rest) : v.place i = none :=
  (t.2 i).mp (hs ▸ List.mem_cons_self)

/-- A job more for one window at most. -/
theorem jobsOf_take (v : JobView) (i : JobIx) (rest : List JobIx) (y : JobPlace) (u : WindowId) :
    (v.take i rest y).jobsOf u ⊆ if y.window = some u then insert i (v.jobsOf u) else v.jobsOf u := by
  intro k hk
  have hk := (Finset.mem_filter.mp hk).2
  by_cases e : k = i
  · subst e
    have : y.window = some u := by simpa [JobView.take, setPlace] using hk
    simp [this]
  · have : k ∈ v.jobsOf u := by simpa [jobsOf, JobView.take, setPlace, e] using hk
    split
    · exact Finset.mem_insert_of_mem this
    · exact this

/-- An ISSUE is accepted for a window below its quota (R35, R38). -/
theorem keeps_issue (hs : v.freeStack = i :: rest) (room : (v.jobsOf w).card < v.quotas w) (live : v.starting = false) :
    v.Keeps (v.issue w i rest) := by
  have self : (v.issue w i rest).place i = some (.issued w) := Function.update_self ..
  refine ⟨⟨fun t => t.take hs _, fun c u => ⟨(c u).1, ?_⟩, fun t => t.take i rest (.issued w), id⟩, fun t d => ?_⟩
  · refine (Finset.card_le_card (jobsOf_take v i rest _ u)).trans ?_
    split
    · next e =>
      obtain rfl : w = u := Option.some.inj e
      exact (Finset.card_insert_le ..).trans (room.trans_le (c w).1)
    · exact (c u).2
  · have free := t.head_free hs
    have off := d.no_queue (i := i) (fun x hx => by simp [free] at hx)
    have unlisted := d.no_list (i := i) (fun x hx => by simp [free] at hx)
    have inQueue : ∀ k u, k ∈ (v.issue w i rest).queues u ↔ k ∈ v.queues u ∨ (k = i ∧ u = w) := fun _ => mem_update_append
    refine d.moved i rfl (fun k hk => Function.update_of_ne hk ..) (fun k hk u => ?_) (fun k hk q => .rfl) (fun hs => ?_)
      (nodup_update_append d.queues (off w)) d.lists (fun u => ?_) (fun q => ?_) fun x hx => ?_
    · simp [inQueue, hk]
    · simp [live] at hs
    · simp [inQueue, off u, self, JobPlace.issued, eq_comm]
    · simpa [self, JobPlace.issued] using! unlisted q
    · rw [self] at hx
      cases hx
      simp [JobPlace.issued]

/-- A TEST PRINT is accepted on a printer with room in its list (R132). -/
theorem keeps_test (hs : v.freeStack = i :: rest) (room : (v.lists p).length < 2) (live : v.starting = false) :
    v.Keeps (v.test p i rest) := by
  have self : (v.test p i rest).place i = some (.test p) := Function.update_self ..
  refine ⟨⟨fun t => t.take hs _, fun c u => ⟨(c u).1, (Finset.card_le_card (jobsOf_take v i rest _ u)).trans (c u).2⟩,
    fun t => t.take i rest (.test p), fun h => length_update_append h room⟩, fun t d => ?_⟩
  have free := t.head_free hs
  have off := d.no_queue (i := i) (fun x hx => by simp [free] at hx)
  have unlisted := d.no_list (i := i) (fun x hx => by simp [free] at hx)
  have inList : ∀ k q, k ∈ (v.test p i rest).lists q ↔ k ∈ v.lists q ∨ (k = i ∧ q = p) := fun _ => mem_update_append
  refine d.moved i rfl (fun k hk => Function.update_of_ne hk ..) (fun k hk u => .rfl) (fun k hk q => ?_) (fun hs => ?_)
    d.queues (nodup_update_append d.lists (unlisted p)) (fun u => ?_) (fun q => ?_) fun x hx => ?_
  · simp [inList, hk]
  · simp [live] at hs
  · simpa [self, JobPlace.test] using! off u
  · simp [inList, unlisted q, self, JobPlace.test, eq_comm]
  · rw [self] at hx
    cases hx
    simp [JobPlace.test]

/-! ### Starts -/

/-- A start's beginning clears every job, queue and list and fills the Free Job Stack (Table 2-4). -/
theorem keeps_cleared (stack : u.freeStack.Nodup) (full : ∀ i, i ∈ u.freeStack) (place : ∀ i, u.place i = none)
    (top : u.top ≠ 3) (queues : ∀ w, u.queues w = []) (lists : ∀ p, u.lists p = []) (quotas : u.quotas = v.quotas) :
    v.Keeps u := by
  refine ⟨⟨fun _ => ⟨stack, fun i => ?_⟩, fun c w => ⟨quotas ▸ (c w).1, ?_⟩, fun _ => top, fun _ p => ?_⟩, fun _ _ =>
    ⟨fun _ => place, fun w => ?_, fun p => ?_, fun i w => ?_, fun i p => ?_, fun i x hx => ?_⟩⟩
  · simp [full, place]
  · simp [jobsOf, place]
  · simp [lists]
  · simp [queues]
  · simp [lists]
  · simp [queues, place]
  · simp [lists, place]
  · simp [place] at hx

/-- A start ends, or is given up by a reset of the interface. -/
theorem keeps_live (v : JobView) : v.Keeps { v with starting := false } :=
  ⟨⟨id, id, id, id⟩, fun _ d => { d with idle := nofun }⟩

/-- A cold start's completion empties the outstanding lists and restores the quotas (R173). -/
theorem keeps_coldRecords (quotas : ∀ w, u.quotas w ≤ 16) (lists : ∀ p, u.lists p = []) (starting : v.starting = true)
    (same : u = { v with quotas := u.quotas, lists := u.lists, starting := u.starting }) : v.Keeps u := by
  have place : u.place = v.place := by rw [same]
  have queues : u.queues = v.queues := by rw [same]
  have top : u.top = v.top := by rw [same]
  have stack : u.freeStack = v.freeStack := by rw [same]
  refine ⟨⟨fun t => ?_, fun c w => ⟨quotas w, ?_⟩, fun t => ?_, fun _ p => ?_⟩, fun _ d =>
    ⟨fun _ => ?_, fun w => ?_, fun p => ?_, fun i w => ?_, fun i p => ?_, fun i x hx => ?_⟩⟩
  · rwa [Table, stack, place]
  · rw [jobsOf, place]; exact (c w).2
  · rwa [Token, top]
  · simp [lists]
  · rw [place]; exact d.idle starting
  · rw [queues]; exact d.queues w
  · simp [lists]
  · rw [queues, place]; exact d.queued i w
  · simp [lists, place, d.idle starting]
  · exact d.state i x (place ▸ hx)

/-- A window's record is written (R33). -/
theorem keeps_quota {quota : Nat} (h : quota ≤ 16) (w : WindowId) (v : JobView) :
    v.Keeps { v with quotas := Function.update v.quotas w quota } := by
  refine ⟨⟨id, fun c u => ⟨?_, (c u).2⟩, id, id⟩, fun _ d => { d with }⟩
  by_cases hu : u = w
  · subst hu; simpa using h
  · simpa [hu] using (c u).1

end

end JobView

end Sys2Proof.Machine
end

section
/-! SUPPORT. The part's shared operations as changes of where each job is (`jobView`): those that move none, and those that do (R37 to
R46, R81). -/

namespace Sys2Proof.Machine

section
variable {s t : State} {i : JobIx} {p : PrinterId} {w : WindowId} {order : List JobIx}

/-! ### Work that moves no job -/

theorem jobView_modPrinter {f : Printer → Printer} (hf : ∀ x, (f x).outstanding = x.outstanding) :
    jobView (modPrinter p f s) = jobView s := by
  have lists : (jobView (modPrinter p f s)).lists = (jobView s).lists := funext fun q => by
    simp only [jobView, modPrinter, upd_get]
    split
    · exact hf _
    · rfl
  exact congrArg (fun l => { jobView s with lists := l }) lists

theorem jobView_modJob {f : Job → Job} {g : JobPlace → JobPlace} (hf : ∀ j, (f j).place = g j.place) :
    jobView (modJob i f s) = (jobView s).setPlace i (((jobView s).place i).map g) := by
  have place : (jobView (modJob i f s)).place = Function.update (jobView s).place i (((jobView s).place i).map g) := by
    funext k
    simp only [jobView, jobAt_modJob]
    by_cases hk : i = k
    · subst hk
      cases jobAt s i <;> simp [hf]
    · rw [if_neg hk, Function.update_of_ne (Ne.symm hk)]
  have top : (jobView (modJob i f s)).top = (jobView s).top := by
    simp only [jobView, modJob, upd_get]
    split <;> rfl
  exact congrArg₂ (fun places top => { jobView s with place := places, top := top }) place top

/-- A change of a job that leaves its window, printer and state. -/
theorem jobView_modJob_same {f : Job → Job} (hf : ∀ j, (f j).place = j.place) : jobView (modJob i f s) = jobView s := by
  rw [jobView_modJob (g := id) hf, Option.map_id, id, JobView.setPlace, Function.update_eq_self]

theorem jobView_setMagazine (p : PrinterId) (m : Magazine) (s : State) : jobView (setMagazine p m s) = jobView s := by
  obtain ⟨marks, e⟩ := setMagazine_eq p m s
  rw [e]
  rfl

theorem jobView_recomputeKind (k : KindId) (s : State) : jobView (recomputeKind k s) = jobView s := by
  unfold recomputeKind judgeFlags
  dsimp only
  (repeat' split) <;> rfl

theorem jobView_recomputeOf (p : PrinterId) (s : State) : jobView (recomputeOf p s) = jobView s := by
  unfold recomputeOf
  split
  · exact jobView_recomputeKind ..
  · rfl

theorem jobView_inDoubtBlank (p : PrinterId) (n : Nat) (token : Byte) (window : Option WindowId) (shift : Nat) (s : State) :
    jobView (inDoubtBlank p n token window shift s) = jobView s := jobView_setMagazine ..

theorem jobView_moveNote (p : PrinterId) (n : Nat) (s : State) : jobView (moveNote p n s) = jobView s := by
  unfold moveNote
  dsimp only
  split
  · rfl
  · split
    · exact (jobView_modJob_same (by exact fun _ => rfl)).trans (jobView_setMagazine ..)
    · exact jobView_setMagazine ..

theorem jobView_claimBlank (p : PrinterId) (i : JobIx) (s : State) : jobView (claimBlank p i s) = jobView s := by
  unfold claimBlank
  split
  · rfl
  · dsimp only
    exact (jobView_modJob_same (by exact fun _ => rfl)).trans (jobView_setMagazine ..)

theorem jobView_modTally (w : WindowId) (shift : Nat) (f : Tally → Tally) (s : State) :
    jobView (modTally w shift f s) = jobView s := by
  obtain ⟨current, closing, e⟩ := modTally_eq w shift f s
  rw [e]
  rfl

theorem jobView_lowerOpenJobs (j : Job) (s : State) : jobView (lowerOpenJobs j s) = jobView s := by
  unfold lowerOpenJobs
  split
  · exact jobView_modTally ..
  · rfl

theorem jobView_produceStatement (w : WindowId) (c : PendingCashUp) (s : State) :
    jobView (produceStatement w c s) = jobView s := by
  unfold produceStatement
  split <;> rfl

theorem jobView_statementAfter (j : Job) (s : State) : jobView (statementAfter j s) = jobView s := by
  unfold statementAfter statementIfDue
  split
  · split
    · split
      · exact jobView_produceStatement ..
      · rfl
    · rfl
  · rfl

theorem jobView_releaseHold (p : PrinterId) (s : State) : jobView (releaseHold p s) = jobView s := by
  unfold releaseHold
  split
  · refine Eq.trans (b := jobView (modPrinter p (fun x => { x with hold := none }) s)) rfl ?_
    exact jobView_modPrinter (by exact fun _ => rfl)
  · rfl

theorem jobView_releaseSaleEnd (j : Job) (s : State) : jobView (releaseSaleEnd j s) = jobView s := by
  unfold releaseSaleEnd
  split
  · split
    · exact forEach_keeps jobView _ _ jobView_releaseHold s
    · rfl
  · rfl

theorem jobView_setHold (j : Job) (p : PrinterId) (s : State) : jobView (setHold j p s) = jobView s := by
  unfold setHold
  split
  · exact jobView_modPrinter (by exact fun _ => rfl)
  · rfl

theorem jobView_watchHold (p : PrinterId) (s : State) : jobView (watchHold p s) = jobView s := by
  have judged : ∀ x : Option Hold, jobView (modPrinter p (fun y => { y with hold := x }) s) = jobView s :=
    fun _ => jobView_modPrinter (by exact fun _ => rfl)
  unfold watchHold
  split
  · rfl
  · split
    · split
      · exact jobView_releaseHold ..
      · exact judged _
    · exact judged _

theorem jobView_leaveSelection (p : PrinterId) (s : State) : jobView (leaveSelection p s) = jobView s := by
  unfold leaveSelection
  split
  · dsimp only
    split <;> rfl
  · rfl

theorem jobView_settleResult (p : PrinterId) (r : RollResult) (s : State) : jobView (settleResult p r s) = jobView s := by
  unfold settleResult
  dsimp only
  split <;> rfl

theorem jobView_clearRecord (p : PrinterId) (s : State) : jobView (clearRecord p s) = jobView s := by
  have cleared : jobView (modPrinter p (fun x => { x with fault := .clear }) s) = jobView s :=
    jobView_modPrinter (by exact fun _ => rfl)
  unfold clearRecord
  dsimp only
  split <;> exact cleared

theorem jobView_applyJudgement (p : PrinterId) (r : RollResult) (s : State) :
    jobView (applyJudgement p r s) = jobView s := by
  unfold applyJudgement
  dsimp only
  split
  · rw [jobView_recomputeOf, jobView_setMagazine]
    split <;> rfl
  · rfl

theorem jobView_returnRollSlip (l : LineId) (s : State) : jobView (returnRollSlip l s) = jobView s := by
  unfold returnRollSlip
  split <;> rfl

theorem jobView_freeLine (l : LineId) (s : State) : jobView (freeLine l s) = jobView s := by
  unfold freeLine
  dsimp only
  split <;> rfl

theorem jobView_startRound (l : LineId) (s : State) : jobView (startRound l s) = jobView s := by
  unfold startRound recallIfFree
  split
  case h_1 | h_2 => split <;> rfl
  all_goals rfl

theorem jobView_sendPrint (l : LineId) (p : PrinterId) (i : JobIx) (s : State) : jobView (sendPrint l p i s) = jobView s := by
  unfold sendPrint
  split <;> rfl

theorem jobView_keepForRepeat (p : PrinterId) (command : CommandKind) (s : State) :
    jobView (keepForRepeat p command s) = jobView s := by
  unfold keepForRepeat
  split
  · split <;> rfl
  iterate 2 rfl

theorem jobView_countStray (p : PrinterId) (s : State) : jobView (countStray p s) = jobView s := by
  unfold countStray
  dsimp only
  split <;> rfl

theorem jobView_noteReported (p : PrinterId) (entries : List OutcomeEntry) (s : State) :
    jobView (noteReported p entries s) = jobView s := by
  unfold noteReported
  split <;> rfl

theorem jobView_answerClear (p : PrinterId) (command : CommandKind) (s : State) :
    jobView (answerClear p command s) = jobView s := by
  unfold answerClear
  split <;> rfl

theorem jobView_afterStandard (g : GroupId) (w : WindowId) (s : State) : jobView (afterStandard g w s) = jobView s := by
  unfold afterStandard
  dsimp only
  split <;> rfl

theorem jobView_allowanceReload (s : State) : jobView (allowanceReload s) = jobView s := by
  unfold allowanceReload
  split <;> rfl

theorem jobView_clockAdvance (s : State) : jobView (clockAdvance s) = jobView s := by
  have starting : (clockAdvance s).start.isSome = s.start.isSome := by
    rw [clockAdvance_eq]
    cases s.start with
    | none => rfl
    | some st => cases h : st.cold <;> simp [h]
  refine Eq.trans ?_ (congrArg (fun b => { jobView s with starting := b }) starting)
  rw [clockAdvance_eq]
  rfl

theorem jobView_tickClock (s : State) : jobView (tickClock s) = jobView s := by
  unfold tickClock
  split
  · exact jobView_clockAdvance s
  · rfl

/-! ### Queues, lists and records -/

theorem jobView_setQueue (w : WindowId) (q : List JobIx) (s : State) :
    jobView (setQueue w q s) = (jobView s).setQueue w q := by
  have replaced : jobView { s with queues := put s.queues w q } = (jobView s).setQueue w q := by
    have queues : (fun u : WindowId => (put s.queues w q)[u]) = Function.update (fun u : WindowId => s.queues[u]) w q := by
      funext u
      rw [put_get, Function.update_apply]
      by_cases hu : w = u <;> simp [hu, eq_comm]
    exact congrArg (fun l => { jobView s with queues := l }) queues
  unfold setQueue
  dsimp only
  split
  · split
    · exact replaced
    · exact (jobView_modJob_same (by exact fun _ => rfl)).trans replaced
  · exact replaced

theorem jobView_setList (p : PrinterId) (f : List JobIx → List JobIx) (s : State) :
    jobView (modPrinter p (fun x => { x with outstanding := f x.outstanding }) s) =
      (jobView s).setList p (f ((jobView s).lists p)) := by
  have lists : (jobView (modPrinter p (fun x => { x with outstanding := f x.outstanding }) s)).lists =
      Function.update (jobView s).lists p (f ((jobView s).lists p)) := by
    funext q
    simp only [jobView, modPrinter, upd_get, Function.update_apply]
    by_cases hq : p = q
    · subst hq; simp
    · simp [hq, Ne.symm hq]
  exact congrArg (fun l => { jobView s with lists := l }) lists

theorem jobView_leavePrinter (p : PrinterId) (i : JobIx) (s : State) :
    jobView (leavePrinter p i s) = (jobView s).setList p (((jobView s).lists p).filter (· != i)) :=
  jobView_setList p (·.filter (· != i)) s

theorem jobView_leaveLists {j : Job} (i : JobIx) (s : State) :
    jobView (leaveLists i j s) = (jobView s).leave i j.place := by
  unfold leaveLists JobView.leave Job.place
  dsimp only
  cases j.printer with
  | some p => exact jobView_leavePrinter ..
  | none =>
    cases j.window with
    | some w => exact jobView_setQueue ..
    | none => rfl

theorem jobView_freeRecord (i : JobIx) (s : State) :
    jobView (freeRecord i s) = { (jobView s).setPlace i none with freeStack := i :: s.freeStack } := by
  have place : (jobView (freeRecord i s)).place = Function.update (jobView s).place i none := by
    funext k
    simp only [jobView, jobAt_freeRecord]
    by_cases hk : i = k
    · subst hk; simp
    · rw [if_neg hk, Function.update_of_ne (Ne.symm hk)]
  have top : (jobView (freeRecord i s)).top = (jobView s).top := by
    simp only [jobView, freeRecord, modPort_jobs, upd_get]
    split <;> rfl
  exact congrArg₂ (fun places top => { jobView s with place := places, top := top, freeStack := i :: s.freeStack }) place top

theorem jobView_takeRecord (i : JobIx) (rest : List JobIx) (j : Job) (s : State) :
    jobView (takeRecord i rest j s) = (jobView s).take i rest j.place := by
  have place : (jobView (takeRecord i rest j s)).place = Function.update (jobView s).place i (some j.place) := by
    funext k
    simp only [jobView, jobAt_takeRecord]
    by_cases hk : i = k
    · subst hk; simp
    · rw [if_neg hk, Function.update_of_ne (Ne.symm hk)]
  have top : (jobView (takeRecord i rest j s)).top = if i = 63 then nextGeneration 63 (jobView s).top else (jobView s).top := by
    simp only [jobView, takeRecord, upd_get]
    split
    · next e => subst e; rfl
    · rfl
  exact congrArg₂ (fun places top => { jobView s with place := places, top := top, freeStack := rest }) place top

/-! ### The events that move a job -/

theorem jobView_finishJob (i : JobIx) (code : ResultCode) (reason : Nat) (s : State) :
    jobView (finishJob i code reason s) = (jobView s).finish i := by
  unfold finishJob JobView.finish
  cases hj : jobAt s i with
  | none => simp [jobView, hj]
  | some j =>
    have place : (jobView s).place i = some j.place := by simp [jobView, hj]
    have left : jobView (statementAfter j (lowerOpenJobs j (releaseSaleEnd j (leaveLists i j (returnJob i j code reason s))))) =
        (jobView s).leave i j.place := by
      rw [jobView_statementAfter, jobView_lowerOpenJobs, jobView_releaseSaleEnd, jobView_leaveLists]
      rfl
    have stack : (statementAfter j (lowerOpenJobs j (releaseSaleEnd j (leaveLists i j
        (returnJob i j code reason s))))).freeStack = s.freeStack := by
      refine (congrArg JobView.freeStack left).trans ?_
      unfold JobView.leave
      split <;> rfl
    rw [place]
    dsimp only
    rw [jobView_freeRecord, left, stack]
    rfl

theorem jobView_requeue (order : List JobIx) (p : PrinterId) (w : WindowId) (i : JobIx) (s : State) :
    jobView (requeue order p w i s) = (jobView s).comeBack order p w i := by
  unfold requeue joinFront
  rw [jobView_setQueue, jobView_modJob (g := .back) fun _ => rfl, jobView_leavePrinter]
  have queues : ∀ f : Job → Job, (modJob i f (leavePrinter p i s)).queues = s.queues := fun _ => rfl
  simp only [queues]
  rfl

theorem jobView_sendBack (order : List JobIx) (p : PrinterId) (reason : Nat) (i : JobIx) (s : State) :
    jobView (sendBack order p reason i s) = (jobView s).sendBack order p i := by
  unfold sendBack JobView.sendBack
  cases hj : jobAt s i with
  | none => simp [jobView, hj]
  | some j =>
    have place : (jobView s).place i = some j.place := by simp [jobView, hj]
    rw [place]
    dsimp only [Job.place]
    cases j.window with
    | some w => exact jobView_requeue ..
    | none => exact jobView_finishJob ..

theorem jobView_moveToPrinter (w : WindowId) (i : JobIx) (j : Job) (p : PrinterId) (s : State) :
    jobView (moveToPrinter w i j p s) = (jobView s).grant w i p := by
  unfold moveToPrinter joinPrinter
  refine (jobView_setHold ..).trans ((jobView_modJob (g := .granted p) fun _ => rfl).trans ?_)
  rw [jobView_setList p (· ++ [i]), leaveQueue, jobView_setQueue]
  rfl

theorem jobView_acceptJob {j : Job} {rest : List JobIx} (hs : s.freeStack = i :: rest) (hj : j.place = .issued w) :
    jobView (acceptJob w j s) = (jobView s).issue w i rest := by
  unfold acceptJob joinTail
  rw [hs]
  dsimp only
  rw [jobView_setQueue]
  refine (congrArg (JobView.setQueue w _) ((jobView_takeRecord i rest j s).trans (by rw [hj]))).trans ?_
  rfl

theorem jobView_acceptTest {j : Job} {rest : List JobIx} (hs : s.freeStack = i :: rest) (hj : j.window = none) :
    jobView (acceptTest p j s) = (jobView s).test p i rest := by
  unfold acceptTest joinPrinter
  rw [hs]
  refine (jobView_modJob (g := .granted p) fun _ => rfl).trans ?_
  rw [jobView_setList p (· ++ [i]), jobView_takeRecord]
  simp [JobView.test, JobView.take, JobView.setPlace, JobView.setList, JobPlace.granted, JobPlace.test, Job.place, hj]

end

end Sys2Proof.Machine
end

section
/-! SUPPORT. What the part's work keeps of the laws of the jobs' places (R37, R41, R42, R81; `JobView.Keeps`), operation by operation. -/

namespace Sys2Proof.Machine

/-! ### Granted jobs that leave their printer -/

namespace JobView

/-- The GRANTED jobs of a printer's list. -/
def granted (v : JobView) (p : PrinterId) : List JobIx :=
  (v.lists p).filter fun i => (v.place i).any (·.state == .granted)

/-- Some of a printer's GRANTED jobs leave it unprinted. -/
def SentBack (p : PrinterId) (v u : JobView) : Prop :=
  ∃ order l, List.Subperm l (v.granted p) ∧ u = v.sendBackAll order p l

theorem SentBack.refl (p : PrinterId) (v : JobView) : v.SentBack p v := ⟨[], [], List.nil_subperm, rfl⟩

/-- Jobs of the list, each no oftener than there. -/
theorem keeps_sendBackAll_of_subperm {order l : List JobIx} {p : PrinterId} {v : JobView} (h : List.Subperm l (v.lists p)) :
    v.Keeps (v.sendBackAll order p l) := by
  refine keeps_sendBackAll order fun d => ⟨?_, h.subset⟩
  obtain ⟨l', perm, sub⟩ := h
  exact perm.nodup_iff.mp ((d.lists p).sublist sub)

theorem SentBack.keeps {p : PrinterId} {v u : JobView} (h : v.SentBack p u) : v.Keeps u := by
  obtain ⟨order, l, sub, rfl⟩ := h
  exact keeps_sendBackAll_of_subperm (sub.trans List.filter_sublist.subperm)

/-- A job that is not GRANTED stays where it is. -/
theorem SentBack.samePlace {p : PrinterId} {v u : JobView} {i : JobIx} (h : v.SentBack p u)
    (hi : (v.place i).any (·.state == .granted) = false) : v.SamePlace i u := by
  obtain ⟨order, l, sub, rfl⟩ := h
  refine samePlace_sendBackAll order p (fun hm => ?_) v
  simp [(List.mem_filter.mp (sub.subset hm)).2] at hi

end JobView

section
variable {s t u : State} {i : JobIx} {j : Job} {p : PrinterId} {w : WindowId} {order l : List JobIx}

theorem jobView_place (hj : jobAt s i = some j) : (jobView s).place i = some j.place := by simp [jobView, hj]

theorem placeState_eq (s : State) (i : JobIx) (x : JobState) :
    ((jobView s).place i).any (·.state == x) = jobIs s i (·.state == x) := by
  unfold jobIs
  cases hj : jobAt s i <;> simp [jobView, hj, Job.place]

theorem jobView_granted (s : State) (p : PrinterId) :
    (jobView s).granted p = s.printers[p].outstanding.filter (isGranted s) := by
  simp only [JobView.granted, placeState_eq]
  rfl

theorem jobView_forEach {α : Type} {f : α → State → State} {g : α → JobView → JobView}
    (h : ∀ a u, jobView (f a u) = g a (jobView u)) (l : List α) (s : State) :
    jobView (forEach l f s) = l.foldl (fun v a => g a v) (jobView s) := by
  unfold forEach
  induction l generalizing s with
  | nil => rfl
  | cons a rest ih => rw [List.foldl_cons, ih, List.foldl_cons, h]

theorem jobView_sendBackGranted (order : List JobIx) (p : PrinterId) (s : State) :
    jobView (sendBackGranted order p s) = (jobView s).sendBackAll order p ((jobView s).granted p) := by
  rw [jobView_granted]
  exact jobView_forEach (jobView_sendBack order p reasonNotSent) _ s

theorem sentBack_sendBackGranted (order : List JobIx) (p : PrinterId) (s : State) :
    (jobView s).SentBack p (jobView (sendBackGranted order p s)) :=
  ⟨order, _, List.Subperm.refl _, jobView_sendBackGranted order p s⟩

theorem sentBack_enterState (order : List JobIx) (p : PrinterId) (new : PrinterState) (s : State) :
    (jobView s).SentBack p (jobView (enterState order p new s)) := by
  have entered : ∀ n : Printer → Nat,
      jobView (markPrinter p false (modPrinter p (fun x => { x with state := new, spoilRun := n x }) s)) = jobView s :=
    fun n => (jobView_modPrinter (by exact fun _ => rfl) : jobView (modPrinter p _ s) = _)
  unfold enterState
  dsimp only
  rw [jobView_recomputeOf]
  split
  · have back := sentBack_sendBackGranted order p
      (releaseHold p (markPrinter p false (modPrinter p (fun x =>
        { x with state := new, spoilRun := if new = .ready then 0 else x.spoilRun }) s)))
    rwa [jobView_releaseHold, entered] at back
  · rw [entered]
    exact .refl p _

/-- R137: the jobs that leave are the last of those granted. -/
theorem breakReservation_eq (order : List JobIx) (p : PrinterId) (l : List JobIx) (s : State) :
    ∃ sent, sent <+: l ∧ breakReservation order p l s = forEach sent (sendBack order p reasonNotSent) s := by
  induction l generalizing s with
  | nil => exact ⟨[], List.prefix_rfl, rfl⟩
  | cons i rest ih =>
    unfold breakReservation
    split
    · exact ⟨[], List.nil_prefix, rfl⟩
    · obtain ⟨sent, hp, e⟩ := ih (sendBack order p reasonNotSent i s)
      exact ⟨i :: sent, List.cons_prefix_cons.mpr ⟨rfl, hp⟩, e⟩

theorem sentBack_magazineChanged (order : List JobIx) (p : PrinterId) (s : State) :
    (jobView s).SentBack p (jobView (magazineChanged order p s)) := by
  have recomputed := jobView_recomputeOf p s
  unfold magazineChanged
  dsimp only
  split
  · split
    · have entered := sentBack_enterState order p .empty (recomputeOf p s)
      rwa [recomputed] at entered
    · obtain ⟨sent, hp, e⟩ := breakReservation_eq order p
        ((recomputeOf p s).printers[p].outstanding.filter (isGranted (recomputeOf p s))).reverse (recomputeOf p s)
      refine ⟨order, sent, ?_, ?_⟩
      · rw [← jobView_granted, recomputed] at hp
        exact hp.sublist.subperm.trans (List.reverse_perm _).subperm
      · rw [e, ← recomputed]
        exact jobView_forEach (jobView_sendBack order p reasonNotSent) sent _
  · rw [recomputed]
    exact .refl p _

theorem sentBack_magazineChanged_of (e : jobView t = jobView s) :
    (jobView s).SentBack p (jobView (magazineChanged order p t)) := e ▸ sentBack_magazineChanged order p t

/-! ### What work keeps -/

/-- What work keeps of the laws of the jobs' places. -/
def JobKeeps (s t : State) : Prop := (jobView s).Keeps (jobView t)

theorem JobKeeps.refl (s : State) : JobKeeps s s := JobView.Keeps.refl _

theorem JobKeeps.trans (h : JobKeeps s t) (k : JobKeeps t u) : JobKeeps s u := JobView.Keeps.trans h k

/-- Work that moves no job. -/
theorem JobKeeps.same (h : JobKeeps s t) (e : jobView u = jobView t) : JobKeeps s u := by
  unfold JobKeeps
  rwa [e]

/-- Work that is an event of the view. -/
theorem JobKeeps.event {v : JobView} (h : JobKeeps s t) (e : jobView u = v) (k : (jobView t).Keeps v) : JobKeeps s u :=
  h.trans (by unfold JobKeeps; rwa [e])

protected theorem JobKeeps.forEach {α : Type} {l : List α} {f : α → State → State} (h : JobKeeps s t)
    (hf : ∀ a u, JobKeeps s u → JobKeeps s (f a u)) : JobKeeps s (forEach l f t) := forEach_holds (JobKeeps s) l f hf t h

protected theorem JobKeeps.ite {c : Prop} [Decidable c] (h : JobKeeps s t) (k : JobKeeps s u) :
    JobKeeps s (if c then t else u) := by split <;> assumption

protected theorem JobKeeps.modPort {f : ExchangePort → ExchangePort} (h : JobKeeps s t) : JobKeeps s (modPort f t) := h
protected theorem JobKeeps.markPrinter {cause : Bool} (h : JobKeeps s t) : JobKeeps s (markPrinter p cause t) := h
protected theorem JobKeeps.addReturn {n : SlipId} {tag : Word} {code : ResultCode} {detail : Word} {area : List Byte}
    (h : JobKeeps s t) : JobKeeps s (addReturn n tag code detail area t) := h
protected theorem JobKeeps.refuseField {n : SlipId} {tag : Word} {offset : Nat} {area : List Byte} (h : JobKeeps s t) :
    JobKeeps s (refuseField n tag offset area t) := h
protected theorem JobKeeps.modLine {l : LineId} {f : Line → Line} (h : JobKeeps s t) : JobKeeps s (modLine l f t) := h
protected theorem JobKeeps.rollRequest {l : LineId} {mask : BitVec 8} (h : JobKeeps s t) :
    JobKeeps s (rollRequest l mask t) := h
protected theorem JobKeeps.modLineRecord {f : LineRecord → LineRecord} (h : JobKeeps s t) :
    JobKeeps s (modLineRecord p f t) := h

protected theorem JobKeeps.modPrinter {f : Printer → Printer} (h : JobKeeps s t)
    (hf : ∀ x, (f x).outstanding = x.outstanding := by exact fun _ => rfl) : JobKeeps s (modPrinter p f t) :=
  h.same (jobView_modPrinter hf)

protected theorem JobKeeps.modJob {f : Job → Job} (h : JobKeeps s t)
    (hf : ∀ j, (f j).place = j.place := by exact fun _ => rfl) : JobKeeps s (modJob i f t) :=
  h.same (jobView_modJob_same hf)

protected theorem JobKeeps.modTally {shift : Nat} {f : Tally → Tally} (h : JobKeeps s t) :
    JobKeeps s (modTally w shift f t) := h.same (jobView_modTally ..)

protected theorem JobKeeps.setMagazine {m : Magazine} (h : JobKeeps s t) : JobKeeps s (setMagazine p m t) :=
  h.same (jobView_setMagazine ..)

protected theorem JobKeeps.recomputeKind {k : KindId} (h : JobKeeps s t) : JobKeeps s (recomputeKind k t) :=
  h.same (jobView_recomputeKind ..)

protected theorem JobKeeps.releaseHold (h : JobKeeps s t) : JobKeeps s (releaseHold p t) := h.same (jobView_releaseHold ..)

protected theorem JobKeeps.leaveSelection (h : JobKeeps s t) : JobKeeps s (leaveSelection p t) :=
  h.same (jobView_leaveSelection ..)

/-! ### Results, stock and faults -/

protected theorem JobKeeps.finishJob {code : ResultCode} {reason : Nat} (h : JobKeeps s t) :
    JobKeeps s (finishJob i code reason t) := h.event (jobView_finishJob ..) (JobView.keeps_finish ..)

protected theorem JobKeeps.finishJobs {code : ResultCode} {reason : Nat} (h : JobKeeps s t) :
    JobKeeps s (finishJobs code reason l t) := h.forEach fun _ _ k => k.finishJob

protected theorem JobKeeps.sendBackGranted (h : JobKeeps s t) : JobKeeps s (sendBackGranted order p t) :=
  h.trans (sentBack_sendBackGranted order p t).keeps

protected theorem JobKeeps.enterState {new : PrinterState} (h : JobKeeps s t) : JobKeeps s (enterState order p new t) :=
  h.trans (sentBack_enterState order p new t).keeps

protected theorem JobKeeps.magazineChanged (h : JobKeeps s t) : JobKeeps s (magazineChanged order p t) :=
  h.trans (sentBack_magazineChanged order p t).keeps

protected theorem JobKeeps.endInDoubt (h : JobKeeps s t) : JobKeeps s (endInDoubt order p i t) := by
  have blank : ∀ {n token window shift}, JobKeeps s (magazineChanged order p (inDoubtBlank p n token window shift t)) :=
    (h.same (jobView_inDoubtBlank ..)).magazineChanged
  unfold endInDoubt
  split
  · exact h
  · refine JobKeeps.finishJob ?_
    split
    · refine JobKeeps.modTally ?_
      split
      · exact blank
      · exact h
    · split
      · exact blank
      · exact h

protected theorem JobKeeps.causeEffects {cause : FaultCause} (h : JobKeeps s t) :
    JobKeeps s (causeEffects order p cause t) := by
  unfold causeEffects
  split
  iterate 5 exact h
  iterate 2 exact h.forEach fun _ _ k => k.endInDoubt
  exact h

protected theorem JobKeeps.raiseFault {f : FaultInfo} (h : JobKeeps s t) : JobKeeps s (raiseFault order p f t) := by
  have faulted : ∀ {u : State}, JobKeeps s u →
      JobKeeps s (sendBackGranted order p (enterState order p .faulted (markPrinter p true u))) :=
    fun k => k.markPrinter.enterState.sendBackGranted
  unfold raiseFault
  split
  iterate 2 exact h
  · exact h.modPrinter.markPrinter.causeEffects
  iterate 3 exact ((faulted h.modPrinter).ite (faulted h.modPrinter).leaveSelection).causeEffects

/-! ### Outcomes -/

theorem jobView_takeCancelled (order : List JobIx) (p : PrinterId) (i : JobIx) (s : State) :
    jobView (takeCancelled order p i s) = (jobView s).sendBack order p i := by
  unfold takeCancelled
  dsimp only
  rw [jobView_sendBack, jobView_recomputeOf]
  congr 1
  split
  · rw [jobView_moveNote, jobView_setMagazine]
  · rw [jobView_setMagazine]

protected theorem JobKeeps.takeCancelled (h : JobKeeps s t) (hi : i ∈ t.printers[p].outstanding) :
    JobKeeps s (takeCancelled order p i t) :=
  h.event (jobView_takeCancelled ..) (JobView.keeps_sendBack order fun _ => hi)

protected theorem JobKeeps.takePrinted (h : JobKeeps s t) : JobKeeps s (takePrinted order p i j t) := by
  unfold takePrinted
  extract_lets m base used blank stock tally
  have hb : JobKeeps s blank := by
    unfold blank
    split
    · exact h.setMagazine
    · exact h.same (jobView_setMagazine ..)
  have ht : JobKeeps s tally := by
    unfold tally
    split
    · exact hb.magazineChanged.modTally
    · exact hb.magazineChanged
  exact ht.finishJob.modPrinter

theorem sentBack_spoilBlanks (order : List JobIx) (p : PrinterId) (i : JobIx) (j : Job) (k : Nat) (cause : SpoilCause)
    (s : State) : (jobView s).SentBack p (jobView (spoilBlanks order p i j k cause s)) := by
  unfold spoilBlanks
  refine sentBack_magazineChanged_of ((jobView_moveNote ..).trans ((jobView_setMagazine ..).trans ?_))
  exact forEach_keeps jobView _ _ (by exact fun _ _ => rfl) s

/-- A spoiled job in flight comes back from its printer to its own window's queue (R123). -/
theorem keeps_requeue_of_flight (hj : jobAt s i = some j) (hw : j.window = some w) (hi : i ∈ s.printers[p].outstanding)
    (flight : inFlight s i = true) (sent : (jobView s).SentBack p (jobView t)) :
    (jobView t).Keeps ((jobView t).comeBack order p w i) := by
  have still := sent.samePlace (i := i) ((placeState_eq s i .granted).trans (isGranted_eq_false flight))
  refine JobView.keeps_comeBack order fun d => ?_
  obtain ⟨y, hy, hp⟩ := (d.listed i p).mp ((still.lists p).mpr hi)
  obtain rfl : j.place = y := Option.some.inj ((jobView_place hj).symm.trans (still.place.symm.trans hy))
  exact ⟨_, hy, hp, hw⟩

protected theorem JobKeeps.takeSpoiled {flags : BitVec 5} {asked : Nat} {cause : SpoilCause} (hj : jobAt s i = some j)
    (hi : i ∈ s.printers[p].outstanding) (flight : inFlight s i = true) :
    JobKeeps s (takeSpoiled order p i j flags asked cause s) := by
  unfold takeSpoiled
  extract_lets k token ended blanks job
  have sent : (jobView s).SentBack p (jobView blanks) := sentBack_spoilBlanks ..
  have hb : JobKeeps s blanks := sent.keeps
  have moved : JobKeeps s job := by
    unfold job
    split
    · next w hw =>
      have charged : ∀ f g, (∀ x, (g x).place = x.place) → jobView (modJob i g (modTally w j.shift f blanks)) = jobView blanks :=
        fun f g hg => (jobView_modJob_same hg).trans (jobView_modTally ..)
      refine JobKeeps.ite (hb.event ?_ (keeps_requeue_of_flight (order := order) hj hw hi flight sent)) hb.modTally.finishJob
      refine (jobView_requeue ..).trans (congrArg _ (charged _ _ ?_))
      exact fun _ => rfl
    · exact hb.finishJob
  exact moved.modPrinter.raiseFault.modPrinter.ite moved.modPrinter

protected theorem JobKeeps.takeOutcome {flags : BitVec 5} {e : OutcomeEntry} (hj : jobAt s i = some j)
    (hi : i ∈ s.printers[p].outstanding) (flight : inFlight s i = true) :
    JobKeeps s (takeOutcome order p flags e i j s) :=
  have own := JobKeeps.refl s
  (own.takeCancelled hi).ite ((own.takePrinted.ite (.takeSpoiled hj hi flight)).ite own.raiseFault)

/-- The job of an entry is in the printer's list, in flight (R106). -/
theorem outcomeJob_eq_some {token : Byte} (h : outcomeJob s p token = some i) :
    i ∈ s.printers[p].outstanding ∧ inFlight s i = true := by
  unfold outcomeJob at h
  split at h
  · split at h
    · next k _ hk =>
      cases h
      simpa using hk
    · exact nomatch h
  · exact nomatch h

protected theorem JobKeeps.handleEntry {flags : BitVec 5} {reported : List Byte} {e : OutcomeEntry} (h : JobKeeps s t) :
    JobKeeps s (handleEntry order p flags reported e t) := by
  unfold handleEntry
  refine h.ite (JobKeeps.modLineRecord (h.trans ?_))
  split
  · next i hi =>
    obtain ⟨listed, flight⟩ := outcomeJob_eq_some hi
    split
    · next j hj => exact .takeOutcome hj listed flight
    · exact .refl t
  · exact (JobKeeps.refl t).same (jobView_countStray ..)

protected theorem JobKeeps.judgeConditionFlags {flags : BitVec 5} (h : JobKeeps s t) :
    JobKeeps s (judgeConditionFlags order p flags t) := (h.forEach fun _ _ k => k.raiseFault).modPrinter

protected theorem JobKeeps.judgeNotReady {flags : BitVec 5} (h : JobKeeps s t) :
    JobKeeps s (judgeNotReady order p flags t) := by
  unfold judgeNotReady
  split
  · exact h
  · exact h.raiseFault.modPrinter

protected theorem JobKeeps.judgeRecovery {flags : BitVec 5} (h : JobKeeps s t) :
    JobKeeps s (judgeRecovery order p flags t) := h.enterState.rollRequest.ite h

protected theorem JobKeeps.impliedCancel {waiting : Nat} (h : JobKeeps s t) : JobKeeps s (impliedCancel order p waiting t) := by
  unfold impliedCancel
  refine JobKeeps.ite (h.event (jobView_forEach (jobView_takeCancelled order p) _ t) ?_) h
  exact JobView.keeps_sendBackAll_of_subperm ((perm_bySerial ..).subperm.trans List.filter_sublist.subperm)

end

end Sys2Proof.Machine
end

section
/-! SUPPORT. What the lines, the slips, the sweep and the grants keep of the laws of the jobs' places. -/

namespace Sys2Proof.Machine

section
variable {s t u : State} {i : JobIx} {j : Job} {p : PrinterId} {w : WindowId} {l : LineId} {order : List JobIx}

/-! ### Roll calls -/

protected theorem JobKeeps.freeLine (h : JobKeeps s t) : JobKeeps s (freeLine l t) := h.same (jobView_freeLine ..)

protected theorem JobKeeps.returnToService (h : JobKeeps s t) : JobKeeps s (returnToService order p t) :=
  h.enterState.same (jobView_clearRecord ..)

protected theorem JobKeeps.handOver {r : RollResult} (h : JobKeeps s t) : JobKeeps s (handOver p r t) := by
  unfold handOver
  dsimp only
  split
  iterate 2 exact h.returnToService
  iterate 4 exact h.raiseFault
  exact h

protected theorem JobKeeps.settleResult {r : RollResult} (h : JobKeeps s t) : JobKeeps s (settleResult p r t) :=
  h.same (jobView_settleResult ..)

protected theorem JobKeeps.takeSerial {serial kind : Nat} (h : JobKeeps s t) : JobKeeps s (takeSerial p serial kind t) :=
  (h.same (jobView_applyJudgement ..)).settleResult.handOver.ite h

protected theorem JobKeeps.endRollCall (h : JobKeeps s t) : JobKeeps s (endRollCall l t) :=
  ((h.forEach fun _ _ k => k.settleResult.handOver).same (jobView_returnRollSlip ..)).modLine

protected theorem JobKeeps.endRound (h : JobKeeps s t) : JobKeeps s (endRound l t) := (h.endRollCall.ite h.modLine).freeLine

protected theorem JobKeeps.nextSlot {slots : BitVec 8} (h : JobKeeps s t) : JobKeeps s (nextSlot l slots t) := by
  unfold nextSlot
  split
  · exact h.modLine
  · exact h.endRound

protected theorem JobKeeps.endSlot (h : JobKeeps s t) : JobKeeps s (endSlot l t) := by
  unfold endSlot
  split
  · exact h.nextSlot
  · exact h

protected theorem JobKeeps.takeAnswer {a : AddressIx} {address : Byte} {reply : Reply} (h : JobKeeps s t) :
    JobKeeps s (takeAnswer l a address reply t) := by
  unfold takeAnswer
  refine JobKeeps.endSlot ?_
  split
  · exact h.takeSerial
  · exact h

/-! ### Turns and exchanges -/

/-- A job that a test finds in one state enters another, neither of them QUEUED. -/
protected theorem JobKeeps.setState {old new : JobState} (h : JobKeeps s t) (hi : jobIs t i (·.state == old) = true)
    (ho : old ≠ .queued) (hn : new ≠ .queued) : JobKeeps s (modJob i (fun j => { j with state := new }) t) := by
  refine h.event (jobView_modJob (g := fun x => { x with state := new }) fun _ => rfl)
    (JobView.keeps_change (fun _ => rfl) (fun _ => rfl) fun x hx => ?_)
  rw [← placeState_eq, hx] at hi
  have was : x.state = old := by simpa using hi
  simp [was, ho, hn]

/-- The first transmission of a GRANTED job (R102). -/
protected theorem JobKeeps.transmitFirst (h : JobKeeps s t) (hi : isGranted t i = true) :
    JobKeeps s (transmitFirst l p i t) := by
  have claimed : jobView (claimBlank p i t) = jobView t := jobView_claimBlank p i t
  have granted : jobIs (claimBlank p i t) i (·.state == .granted) = true := by
    rw [← placeState_eq, claimed, placeState_eq]
    exact hi
  exact (((h.same claimed).setState granted (by decide) (by decide)).same (jobView_sendPrint ..)).modLineRecord

/-- The job of a first transmission is GRANTED (R100). -/
theorem chooseFrame_first (h : chooseFrame s p = .first i) : isGranted s i = true := by
  unfold chooseFrame at h
  split at h
  · cases h
  · split at h
    · split at h
      · cases h
      · split at h
        · cases h
        · split at h
          · next k hk =>
            cases h
            exact List.find?_some hk
          · cases h
    · cases h

protected theorem JobKeeps.takeTurn (h : JobKeeps s t) : JobKeeps s (takeTurn l p t) := by
  unfold takeTurn
  dsimp only
  split
  · exact h.modLine
  · exact h.same (jobView_sendPrint ..)
  · next i hi => exact h.transmitFirst (chooseFrame_first hi)
  · exact h.modLine

protected theorem JobKeeps.lineTurn (h : JobKeeps s t) : JobKeeps s (lineTurn l t) := by
  unfold lineTurn
  refine JobKeeps.ite ?_ h
  split
  · exact h.modLine.takeTurn
  · exact h

protected theorem JobKeeps.exchangeFailed {x : Exchange} (h : JobKeeps s t) : JobKeeps s (exchangeFailed x t) :=
  have kept : JobKeeps s (keepForRepeat x.printer x.command (modLineRecord x.printer (fun r =>
      { r with failures := if r.failures < t.lineConfigs[lineOfPrinter x.printer].retryLimit then r.failures + 1
                           else r.failures }) t)) := h.modLineRecord.same (jobView_keepForRepeat ..)
  kept.raiseFault.ite kept

/-- The job that an ACCEPT or a REFUSE answers is SENDING (R103, R104). -/
theorem sendingJob_eq_some {token : Byte} (h : sendingJob s p token = some i) : jobIs s i (·.state == .sending) = true := by
  unfold sendingJob at h
  split at h
  · split at h
    · next k _ hk =>
      cases h
      exact (Bool.and_eq_true_iff.mp hk).2
    · cases h
  · cases h

protected theorem JobKeeps.takeAccept {token : Byte} (h : JobKeeps s t) : JobKeeps s (takeAccept p token t) := by
  unfold takeAccept
  split
  · next i hi => exact (h.setState (sendingJob_eq_some hi) (by decide) (by decide)).modLineRecord
  · exact h

protected theorem JobKeeps.takeRefuse {token reason : Byte} (h : JobKeeps s t) : JobKeeps s (takeRefuse p token reason t) := by
  unfold takeRefuse
  split
  · exact h
  · exact h.modLineRecord.ite (h.modLineRecord.modPrinter.ite h.modLineRecord.raiseFault)

protected theorem JobKeeps.takeStatus {command : CommandKind} {flags : Byte} {waiting : Nat} {entries : List OutcomeEntry}
    (h : JobKeeps s t) : JobKeeps s (takeStatus p command flags waiting entries t) := by
  have noted : ∀ {u : State}, JobKeeps s u → JobKeeps s (noteReported p entries u) := fun k =>
    k.same (jobView_noteReported ..)
  have answered : ∀ {u : State}, JobKeeps s u → JobKeeps s (answerClear p command u) := fun k =>
    k.same (jobView_answerClear ..)
  exact (answered (noted (h.forEach fun _ _ k => k.handleEntry)).judgeConditionFlags.judgeNotReady.impliedCancel).judgeRecovery

protected theorem JobKeeps.takeGoodReply {x : Exchange} {reply : Reply} (h : JobKeeps s t) :
    JobKeeps s (takeGoodReply x reply t) := by
  unfold takeGoodReply
  dsimp only
  split
  · exact h.modLineRecord.takeStatus
  · exact h.modLineRecord.takeAccept
  · exact h.modLineRecord.takeRefuse
  iterate 2 exact h.modLineRecord

protected theorem JobKeeps.receiveReply {address : Byte} {reply : Reply} (h : JobKeeps s t) :
    JobKeeps s (receiveReply l address reply t) := by
  unfold receiveReply
  split
  · unfold endExchange
    refine JobKeeps.freeLine (h.ite ?_)
    split
    · exact h.takeGoodReply
    · exact h.exchangeFailed
  · exact h.takeAnswer
  iterate 3 exact h

protected theorem JobKeeps.receiveNothing (h : JobKeeps s t) : JobKeeps s (receiveNothing l t) := by
  unfold receiveNothing
  split
  · exact (h.ite h.exchangeFailed).freeLine
  · exact h.endSlot
  iterate 3 exact h

protected theorem JobKeeps.receiveRaw {bytes : List Byte} (h : JobKeeps s t) : JobKeeps s (receiveRaw l bytes t) := by
  unfold receiveRaw
  split
  · exact h
  · exact h.receiveNothing
  · split
    · exact h.receiveReply
    · exact h.receiveNothing

protected theorem JobKeeps.commandFrameEnd (h : JobKeeps s t) : JobKeeps s (commandFrameEnd l t) := by
  unfold commandFrameEnd
  split
  · exact h.modLine
  · exact h.nextSlot
  iterate 3 exact h

/-! ### Jobs made -/

/-- An ISSUE with no refusal is below its window's quota (R35). -/
theorem below_quota_of_issueRefusal {c : ClassId} (h : issueRefusal s w c = none) : jobCount s w < s.windows[w].quota := by
  unfold issueRefusal at h
  split_ifs at h with _ _ _ full
  exact Nat.lt_of_not_le full

protected theorem JobKeeps.acceptJob (live : s.start = none) (hj : j.place = .issued w)
    (room : jobCount s w < s.windows[w].quota) : JobKeeps s (acceptJob w j s) := by
  cases hs : s.freeStack with
  | nil =>
    unfold acceptJob
    rw [hs]
    exact .refl s
  | cons i rest =>
    refine (JobKeeps.refl s).event (jobView_acceptJob hs hj) (JobView.keeps_issue hs ?_ ?_)
    · rwa [← jobCount_eq_card]
    · simp [jobView, live]

protected theorem JobKeeps.issueWork {tag : Word} {r : IssueRequest} {n : SlipId} (live : s.start = none) :
    JobKeeps s (issueWork tag r n s) := by
  have own := JobKeeps.refl s
  unfold issueWork
  split
  · exact own.refuseField
  · split
    · split
      · exact own.addReturn
      · next hr => exact .acceptJob live rfl (below_quota_of_issueRefusal hr)
    · exact own

protected theorem JobKeeps.acceptTest (live : s.start = none) (hj : j.window = none)
    (room : s.printers[p].outstanding.length < 2) : JobKeeps s (acceptTest p j s) := by
  cases hs : s.freeStack with
  | nil =>
    unfold acceptTest
    rw [hs]
    exact .refl s
  | cons i rest =>
    refine (JobKeeps.refl s).event (jobView_acceptTest hs hj) (JobView.keeps_test hs room ?_)
    simp [jobView, live]

protected theorem JobKeeps.testPrintWork {tag : Word} {r : TestPrintRequest} {n : SlipId} (live : s.start = none) :
    JobKeeps s (testPrintWork tag r n s) := by
  have own := JobKeeps.refl s
  unfold testPrintWork
  split
  · exact own.refuseField
  · exact own
  · refine own.addReturn.ite ?_
    split
    · exact own.addReturn
    · next p _ _ hb =>
      exact .acceptTest live rfl ((testPrintBusy_eq_false s _).mp (Bool.eq_false_iff.mpr hb)).1

/-! ### Slips -/

protected theorem JobKeeps.voidWork {tag : Word} {window : Byte} {sale : BitVec 16} {n : SlipId} (h : JobKeeps s t) :
    JobKeeps s (voidWork tag window sale n t) := by
  unfold voidWork
  split
  · exact h.refuseField
  · exact h.finishJobs.addReturn

protected theorem JobKeeps.refundWork {tag : Word} {r : RefundRequest} {n : SlipId} (h : JobKeeps s t) :
    JobKeeps s (refundWork tag r n t) := by
  unfold refundWork
  split
  iterate 3 exact h

protected theorem JobKeeps.readTallyWork {tag : Word} {window : Byte} {n : SlipId} (h : JobKeeps s t) :
    JobKeeps s (readTallyWork tag window n t) := by
  unfold readTallyWork
  split
  · exact h.refuseField
  · exact h.addReturn

protected theorem JobKeeps.produceStatement {c : PendingCashUp} (h : JobKeeps s t) : JobKeeps s (produceStatement w c t) :=
  h.same (jobView_produceStatement ..)

protected theorem JobKeeps.awaitStatement {c : PendingCashUp} (h : JobKeeps s t) : JobKeeps s (awaitStatement w c t) := by
  unfold awaitStatement
  split
  · split
    · exact h
    · exact h.produceStatement
  · exact h

protected theorem JobKeeps.closeShift {withdraw : Bool} {c : PendingCashUp} (h : JobKeeps s t) :
    JobKeeps s (closeShift w withdraw c t) := by
  have counted : JobKeeps s (countClosing w (shiftOpen w t)) := h
  exact (counted.finishJobs.ite counted).awaitStatement

protected theorem JobKeeps.cashUpWork {tag : Word} {r : CashUpRequest} {n : SlipId} (h : JobKeeps s t) :
    JobKeeps s (cashUpWork tag r n t) := by
  unfold cashUpWork
  split
  · exact h.refuseField
  · dsimp only
    split
    · exact h.addReturn.ite h.produceStatement
    · exact h.closeShift
  · exact h

protected theorem JobKeeps.endOfDayWork {tag : Word} {n : SlipId} (h : JobKeeps s t) : JobKeeps s (endOfDayWork tag n t) := by
  have closed : jobView (closeDay tag n t) = jobView t := by
    unfold closeDay
    rfl
  unfold endOfDayWork
  split
  · exact h.addReturn
  · exact h.same closed

protected theorem JobKeeps.replaceMagazine {m : Magazine} (h : JobKeeps s t) : JobKeeps s (replaceMagazine p m t) :=
  (h.setMagazine.recomputeKind.ite h.setMagazine).recomputeKind.ite (h.setMagazine.recomputeKind.ite h.setMagazine)

protected theorem JobKeeps.loadStockWork {tag : Word} {r : LoadStockRequest} {n : SlipId} (h : JobKeeps s t) :
    JobKeeps s (loadStockWork tag r n t) := by
  unfold loadStockWork
  split
  · exact h.refuseField
  · exact h.addReturn.ite (h.addReturn.ite
      (h.replaceMagazine.enterState.rollRequest.ite h.replaceMagazine).addReturn)
  · exact h

protected theorem JobKeeps.unloadStockWork {tag : Word} {printer : Byte} {n : SlipId} (h : JobKeeps s t) :
    JobKeeps s (unloadStockWork tag printer n t) := by
  unfold unloadStockWork
  split
  · exact h.refuseField
  · exact h.addReturn.ite (h.addReturn.ite h.replaceMagazine.addReturn)

protected theorem JobKeeps.readSpoilsWork {tag : Word} {index : BitVec 16} {n : SlipId} (h : JobKeeps s t) :
    JobKeeps s (readSpoilsWork tag index n t) := h.refuseField.ite h.addReturn

protected theorem JobKeeps.setStockKindWork {tag : Word} {kind : Byte} {lowMark band : BitVec 16} {n : SlipId}
    (h : JobKeeps s t) : JobKeeps s (setStockKindWork tag kind lowMark band n t) := by
  have written : ∀ k lowMark band, jobView (writeStockKind k lowMark band t) = jobView t := fun k lowMark band => by
    unfold writeStockKind judgeFlags
    dsimp only
    split <;> rfl
  unfold setStockKindWork
  split
  · exact h.refuseField
  · exact (h.same (written _ _ _)).addReturn
  · exact h

protected theorem JobKeeps.rollCallWork {tag : Word} {line mask : Byte} {n : SlipId} (h : JobKeeps s t) :
    JobKeeps s (rollCallWork tag line mask n t) := by
  unfold rollCallWork
  split
  · exact h.refuseField
  · exact h.addReturn.ite (h.addReturn.ite h.modLine.rollRequest)
  · exact h

protected theorem JobKeeps.serviceAction {action : Byte} (h : JobKeeps s t) : JobKeeps s (serviceAction p action t).2 := by
  have left : JobKeeps s (leaveService p t) :=
    have l : JobKeeps s (modLineRecord p (fun r => { r with clearRequest := false })
      (modPrinter p (fun x => { x with notReady := none }) (leaveSelection p (enterState [] p .offline t)))) :=
      h.enterState.leaveSelection.modPrinter.modLineRecord
    l.modPrinter.markPrinter.ite l
  unfold serviceAction
  dsimp only
  split
  · split
    · exact h.enterState.rollRequest
    · exact h
  · split
    · split
      iterate 3
        · split
          · exact left
          · exact h
      iterate 3 exact h
    · split
      · exact h.modPrinter.markPrinter.ite h
      · exact h

protected theorem JobKeeps.printerServiceWork {tag : Word} {printer action : Byte} {n : SlipId} (h : JobKeeps s t) :
    JobKeeps s (printerServiceWork tag printer action n t) := by
  unfold printerServiceWork
  split
  · exact h.refuseField
  · exact h.serviceAction.addReturn.ite h.refuseField

protected theorem JobKeeps.setOfficeWork {tag : Word} {r : OfficeRequest} {n : SlipId} (h : JobKeeps s t) :
    JobKeeps s (setOfficeWork tag r n t) := by
  unfold setOfficeWork
  split
  iterate 2 exact h

/-- A record in range has a quota of at most 16 (R33). -/
theorem windowRecordOf_quota {r : WindowRequest} {x : WindowRecord} (hb : windowBad r = none)
    (hx : windowRecordOf r = some x) : x.quota ≤ 16 := by
  have quota := (firstBad_eq_none.mp hb) (1 ≤ r.quota.toNat && r.quota.toNat ≤ 16, 7) (by simp)
  unfold windowRecordOf at hx
  split at hx
  · cases hx
    simp only [Bool.and_eq_true, decide_eq_true_eq] at quota
    exact quota.2
  · cases hx

theorem jobView_writeWindow (w : WindowId) (x : WindowRecord) (s : State) :
    jobView (writeWindow w x s) = { jobView s with quotas := Function.update (jobView s).quotas w x.quota } := by
  have quotas : (jobView (modWindow w (fun _ => x) s)).quotas = Function.update (jobView s).quotas w x.quota := by
    funext u
    simp only [jobView, modWindow, upd_get, Function.update_apply]
    by_cases hu : w = u
    · simp [hu]
    · simp [hu, Ne.symm hu]
  have written : jobView (modWindow w (fun _ => x) s) =
      { jobView s with quotas := Function.update (jobView s).quotas w x.quota } :=
    congrArg (fun q => { jobView s with quotas := q }) quotas
  unfold writeWindow
  dsimp only
  split
  · exact written
  · exact (forEach_keeps jobView _ _ jobView_releaseHold _).trans written

protected theorem JobKeeps.setWindowWork {tag : Word} {r : WindowRequest} {n : SlipId} (h : JobKeeps s t) :
    JobKeeps s (setWindowWork tag r n t) := by
  unfold setWindowWork
  split
  · exact h.refuseField
  · next w x hb hw hx =>
    exact (h.event (jobView_writeWindow w x t) (JobView.keeps_quota (windowRecordOf_quota hb hx) w _)).addReturn
  · exact h

protected theorem JobKeeps.setRouteWork {tag : Word} {r : RouteRequest} {n : SlipId} (h : JobKeeps s t) :
    JobKeeps s (setRouteWork tag r n t) := by
  unfold setRouteWork
  split
  iterate 3 exact h

protected theorem JobKeeps.writePrinter {configured : Bool} {group : GroupId} (h : JobKeeps s t) :
    JobKeeps s (writePrinter p configured group t) := by
  unfold writePrinter
  dsimp only
  split
  · exact h.modPrinter.enterState.modLineRecord
  · exact h.modPrinter.enterState.modLineRecord.leaveSelection.modLine
  · exact h.modPrinter

protected theorem JobKeeps.setPrinterWork {tag : Word} {printer configured group : Byte} {n : SlipId} (h : JobKeeps s t) :
    JobKeeps s (setPrinterWork tag printer configured group n t) := by
  unfold setPrinterWork
  split
  · exact h.refuseField
  · exact h.writePrinter.addReturn.ite h.addReturn
  · exact h

protected theorem JobKeeps.setLineWork {tag : Word} {line rate window limit : Byte} {n : SlipId} (h : JobKeeps s t) :
    JobKeeps s (setLineWork tag line rate window limit n t) := by
  unfold setLineWork
  split
  · exact h.refuseField
  · next l c _ _ _ =>
    have written : ∀ c, JobKeeps s (writeLine l c t) := fun c =>
      JobKeeps.forEach (t := modLineConfig l (fun _ => c) t) h fun _ _ k => k.modLineRecord
    exact (written _).addReturn.ite h.addReturn
  · exact h

/-! ### The sweep's blocks -/

protected theorem JobKeeps.ageWindow (h : JobKeeps s t) : JobKeeps s (ageWindow w t) := by
  unfold ageWindow
  split
  · exact h
  · split
    · exact h
    · exact h.modJob.ite ((h.modJob.ite h.finishJob).ite h.modJob)

protected theorem JobKeeps.watchOutcomes (h : JobKeeps s t) : JobKeeps s (watchOutcomes p t) := by
  have waits : JobKeeps s (forEach (flightList t p) (fun i => modJob i fun j => { j with outcomeWait := true }) t) :=
    h.forEach fun _ _ k => k.modJob
  unfold watchOutcomes
  dsimp only
  split
  · exact waits
  · exact waits.raiseFault

protected theorem JobKeeps.blockWork {windows : List WindowId} {printers : List PrinterId} {block : Fin 4}
    (h : JobKeeps s t) : JobKeeps s (blockWork windows printers block t) := by
  unfold blockWork
  split
  · exact h.forEach fun _ _ k => k.ageWindow
  · exact h.forEach fun _ _ k => k.watchOutcomes.same (jobView_watchHold ..)
  · exact h.forEach fun _ _ k => k.same (jobView_startRound ..)
  · exact h

protected theorem JobKeeps.allowanceReload (h : JobKeeps s t) : JobKeeps s (allowanceReload t) :=
  h.same (jobView_allowanceReload t)

protected theorem JobKeeps.sweepEvent {blocks windows printers : List Nat} (h : JobKeeps s t) :
    JobKeeps s (sweepEvent blocks windows printers t) := by
  have counted : JobKeeps s (modTime (fun x => { x with sweepCounter := 0#16 }) t) := h
  have reloaded : ∀ f, JobKeeps s (modTime f (allowanceReload (modTime (fun x => { x with sweepCounter := 0#16 }) t))) :=
    fun _ => counted.allowanceReload
  exact (reloaded _).forEach fun _ _ k => k.blockWork

protected theorem JobKeeps.tickSweep (h : JobKeeps s t) : JobKeeps s (tickSweep t) := by
  have counted : ∀ f, JobKeeps s (modTime f t) := fun _ => h
  exact (h.sweepEvent.allowanceReload.ite (counted _)).ite h

protected theorem JobKeeps.tickClock (h : JobKeeps s t) : JobKeeps s (tickClock t) := h.same (jobView_tickClock t)

theorem jobKeeps_tickWork (s : State) : JobKeeps s (tickWork s) :=
  have reloaded := (JobKeeps.refl s).allowanceReload
  tickWork_cases (JobKeeps s) reloaded.tickClock.tickSweep reloaded.tickSweep.tickClock

/-! ### Grants -/

theorem fewestJobs_mem {l : List PrinterId} (h : fewestJobs s l = some p) : p ∈ l := by
  induction l generalizing p with
  | nil => cases h
  | cons q rest ih =>
    unfold fewestJobs at h
    split at h
    · cases h
      exact List.mem_cons_self
    · next k hk =>
      split at h
      · cases h
        exact List.mem_cons_self
      · cases h
        exact List.mem_cons_of_mem q (ih hk)

/-- The printer chosen for a job has room in its outstanding list (R74). -/
theorem room_of_chosenPrinter (h : chosenPrinter s j = some p) : s.printers[p].outstanding.length < 2 := by
  have chosen := (List.mem_filter.mp (fewestJobs_mem h)).2
  simp only [eligible, suits, Bool.and_eq_true, decide_eq_true_eq] at chosen
  obtain ⟨⟨⟨⟨⟨⟨-, room⟩, -⟩, -⟩, -⟩, -⟩, -⟩ := chosen
  exact room

protected theorem JobKeeps.grantTo {ring : State → State} (h : JobKeeps s t) (hr : ∀ u, jobView (ring u) = jobView u) :
    JobKeeps s (grantTo w ring t) := by
  unfold grantTo
  split
  · exact h
  · next i hi =>
    split
    · exact h
    · split
      · exact h
      · next p hp =>
        refine h.event ((hr _).trans (jobView_moveToPrinter ..)) (JobView.keeps_grant ?_ (room_of_chosenPrinter hp))
        exact List.mem_of_mem_head? hi

protected theorem JobKeeps.grantOnce {g : GroupId} (h : JobKeeps s t) : JobKeeps s (grantOnce g t) := by
  unfold grantOnce
  split
  · exact h.grantTo fun _ => rfl
  · split
    · exact h.grantTo (jobView_afterStandard g _)
    · exact h

protected theorem JobKeeps.actRepeatedly {g : GroupId} (fuel : Nat) (h : JobKeeps s t) : JobKeeps s (actRepeatedly g fuel t) := by
  induction fuel generalizing t with
  | zero => exact h
  | succ fuel ih => exact (ih (h.forEach fun _ _ k => k.releaseHold).grantOnce).ite h

end

end Sys2Proof.Machine
end

section
/-! PROOF. R35, R37, R41 and R43; R42, R81, R132 and R171: what every step keeps of the job records and of the jobs' places. -/

namespace Sys2Proof.Machine

section
variable {s t u : State}

/-! ### Power and starts -/

/-- The volatile state cleared: no job, every list empty and the Free Job Stack full (R171). -/
theorem keeps_clearVolatile (attn : BitVec 7) (x : Option StartInProgress) (v : State) (hv : v.windows = s.windows) :
    (jobView s).Keeps (jobView { clearVolatile attn v with start := x }) := by
  refine JobView.keeps_cleared (List.nodup_finRange 64) List.mem_finRange (fun i => ?_) ?_ (fun w => ?_) (fun p => ?_) ?_
  · simp [jobView, clearVolatile, jobAt]
  · simp [jobView, clearVolatile]
  · simp [jobView, clearVolatile]
  · simp [jobView, clearVolatile, printerAfterStart]
  · funext w
    show v.windows[w].quota = s.windows[w].quota
    rw [hv]

theorem jobKeeps_beginStart (cold lost : Bool) (hu : u.windows = s.windows) : JobKeeps s (beginStart cold lost u) :=
  keeps_clearVolatile 0#7 (some { cold := cold, lost := lost, seconds := 0#32 }) u hu

theorem jobKeeps_finishStart (lost : Bool) (s : State) : JobKeeps s (finishStart lost s) := JobView.keeps_live (jobView s)

/-- The records of a cold start's completion, no job standing while the start is in progress (R173). -/
theorem jobKeeps_coldComplete {st : StartInProgress} (hs : s.start = some st) :
    JobKeeps s (sealStore (finishStart st.lost (coldRecords st.seconds s))) := by
  refine JobView.keeps_coldRecords (fun w => ?_) (fun p => ?_) ?_ rfl
  · simp [jobView, sealStore, finishStart, coldRecords, WindowRecord.default]
  · simp [jobView, sealStore, finishStart, coldRecords, Printer.default]
  · simp [jobView, hs]

protected theorem JobKeeps.settleNote {p : PrinterId} {n : Note} (h : JobKeeps s t) : JobKeeps s (settleNote p n t) := by
  have blank : JobKeeps s (inDoubtBlank p n.serial n.token n.window n.shift t) := h.same (jobView_inDoubtBlank ..)
  unfold settleNote
  dsimp only
  split
  · exact blank.modTally
  · exact blank

protected theorem JobKeeps.faultHolder {held : PrinterId → Option Nat} {p : PrinterId} (h : JobKeeps s t) :
    JobKeeps s (faultHolder held p t) := by
  unfold faultHolder
  split
  · exact h.raiseFault
  · exact h

protected theorem JobKeeps.recoverPrinter {p : PrinterId} (h : JobKeeps s t) : JobKeeps s (recoverPrinter p t) := by
  unfold recoverPrinter
  split
  iterate 3 exact h.enterState.rollRequest
  iterate 3 exact h

theorem jobView_clearOpenJobs (s : State) : jobView (clearOpenJobs s) = jobView s := rfl

protected theorem JobKeeps.rewriteChecks (h : JobKeeps s t) : JobKeeps s (rewriteChecks u t) := h

theorem jobKeeps_settleWarm (s : State) : JobKeeps s (settleWarm s) := by
  have settled : JobKeeps s (settleBlanks s) :=
    ((((JobKeeps.refl s).forEach fun _ _ k => k.forEach fun _ _ k => k.settleNote).forEach fun _ _ k =>
      k.faultHolder).forEach fun _ _ k => k.recoverPrinter).forEach fun _ _ k => k.recomputeKind
  exact settled.same (jobView_clearOpenJobs _)

/-! ### What a whole command keeps -/

/-- Work that is done while the part is live, no start being in progress. -/
theorem jobKeeps_whenLive {f : State → State} (h : whenLive s f = .next t) (hf : s.start = none → JobKeeps s (f s)) :
    JobKeeps s t := by
  rw [whenLive_eq_next] at h
  subst h
  split
  · next hl => exact hf ((live_iff s).mp hl).2
  · exact .refl s

/-- A command that moves no job. -/
theorem jobKeeps_of_same {f : State → State} (h : whenLive s f = .next t) (hf : jobView (f s) = jobView s) : JobKeeps s t :=
  jobKeeps_whenLive h fun _ => (JobKeeps.refl s).same hf

/-- Work gated by a test of the state. -/
theorem jobKeeps_whenLive_ite {c : State → Bool} {f : State → State}
    (h : whenLive s (fun u => if c u then f u else u) = .next t) (hf : JobKeeps s (f s)) : JobKeeps s t :=
  jobKeeps_whenLive h fun _ => hf.ite (.refl s)

/-- A slip handed on for its work. -/
theorem jobKeeps_handOn {work : SlipId → State → State} (h : handOn work s = .next t)
    (hw : ∀ {n : SlipId} {u : State}, JobKeeps u u → JobKeeps u (work n u)) : JobKeeps s t := by
  refine jobKeeps_whenLive h fun _ => ?_
  split
  · exact JobKeeps.trans (t := takeSlip s) (.refl s) (hw (.refl _))
  · exact .refl s

theorem jobKeeps_handOnForRecord {work : SlipId → State → State} (h : handOnForRecord work s = .next t)
    (hw : ∀ {n : SlipId} {u : State}, u.start = none → JobKeeps u (work n u)) : JobKeeps s t := by
  refine jobKeeps_whenLive h fun live => ?_
  split
  · refine JobKeeps.ite (.refl s) (JobKeeps.trans (t := takeSlip s) (.refl s) (hw ?_))
    exact live
  · exact .refl s

theorem jobView_writeXbase (value : Word) (s : State) : jobView (writeXbase value s) = jobView s := by
  unfold writeXbase
  dsimp only
  split <;> rfl

theorem jobView_writePost (value : Word) (s : State) : jobView (writePost value s) = jobView s := by
  unfold writePost
  split
  · dsimp only
    split
    · rfl
    · split <;> rfl
  · rfl

theorem jobView_runCommand (s : State) : jobView (runCommand s) = jobView s := by
  unfold runCommand
  split
  · split <;> rfl
  iterate 3 rfl

theorem jobView_holdCommand (s : State) : jobView (holdCommand s) = jobView s := by
  unfold holdCommand
  split
  · exact Eq.trans rfl (jobView_allowanceReload s)
  · rfl

theorem jobView_startRetry (f : FailedAccess) (s : State) : jobView (startRetry f s) = jobView s := by
  cases f with
  | returning =>
    unfold startRetry startReturn
    dsimp only
    split <;> rfl
  | _ => rfl

theorem jobView_startFirstWaiting (s : State) : jobView (startFirstWaiting s) = jobView s := by
  unfold startFirstWaiting
  split
  · exact jobView_startRetry ..
  · split
    · exact jobView_startRetry .returning s
    · split
      · next u hu =>
        unfold startTableWrite at hu
        split at hu <;> cases hu <;> rfl
      · split
        · rfl
        · unfold startFetch
          split <;> rfl

theorem jobView_exchangeFault (a : Access) (s : State) : jobView (exchangeFault a s) = jobView s := by
  rw [exchangeFault_eq]
  rfl

/-- A write to the register window, whichever command it spells (R1, R3, R20). -/
theorem jobKeeps_write {write : Instr} (h : whenLive s (writeEffect write) = .next t) : JobKeeps s t := by
  cases write with
  | xbaseWrite value => exact jobKeeps_of_same h (jobView_writeXbase value s)
  | post value => exact jobKeeps_of_same h (jobView_writePost value s)
  | run => exact jobKeeps_of_same h (jobView_runCommand s)
  | hold => exact jobKeeps_of_same h (jobView_holdCommand s)
  | restart => exact jobKeeps_whenLive h fun _ => jobKeeps_beginStart false false rfl
  | cold => exact jobKeeps_whenLive h fun _ => jobKeeps_beginStart true false rfl
  | _ => exact jobKeeps_of_same h rfl

theorem jobKeeps_execPowerUp {strap : Bool} (h : execPowerUp strap s = .next t) : JobKeeps s t := by
  unfold execPowerUp at h
  cases h
  exact JobKeeps.ite (.refl s) (jobKeeps_beginStart _ _ rfl)

theorem jobKeeps_execPciReset (h : execPciReset s = .next t) : JobKeeps s t := by
  unfold execPciReset at h
  cases h
  exact JobKeeps.ite (JobView.keeps_live (jobView s)) (.refl s)

theorem jobKeeps_execPciResetRelease (h : execPciResetRelease s = .next t) : JobKeeps s t := by
  unfold execPciResetRelease at h
  cases h
  exact JobKeeps.ite (jobKeeps_beginStart _ _ rfl) (.refl s)

theorem jobKeeps_execMainPowerLoss (h : execMainPowerLoss s = .next t) : JobKeeps s t := by
  unfold execMainPowerLoss at h
  cases h
  refine JobKeeps.ite ?_ (.refl s)
  exact keeps_clearVolatile 0#7 none s rfl

theorem jobKeeps_execVbkLoss (h : execVbkLoss s = .next t) : JobKeeps s t := by
  unfold execVbkLoss at h
  cases h
  exact JobKeeps.ite (.refl s) ((JobKeeps.refl s).same rfl)

theorem jobKeeps_execStartComplete (h : execStartComplete s = .next t) : JobKeeps s t := by
  unfold execStartComplete at h
  cases h
  refine JobKeeps.ite ?_ (.refl s)
  split
  · next st hs =>
    exact JobKeeps.ite (jobKeeps_coldComplete hs) ((jobKeeps_settleWarm s).trans (jobKeeps_finishStart st.lost _)).rewriteChecks
  · exact .refl s

/-! ### The exchange engine -/

theorem jobKeeps_execFetchRequest (h : execFetchRequest s = .next t) : JobKeeps s t := by
  refine jobKeeps_of_same h ?_
  split <;> rfl

theorem jobKeeps_execEngineAccessStart (h : execEngineAccessStart s = .next t) : JobKeeps s t := by
  refine jobKeeps_of_same h ?_
  split
  · exact jobView_startFirstWaiting s
  · rfl

theorem jobKeeps_execReturnResultWritten (h : execReturnResultWritten s = .next t) : JobKeeps s t := by
  refine jobKeeps_of_same h ?_
  split <;> rfl

theorem jobKeeps_execReturnComplete (h : execReturnComplete s = .next t) : JobKeeps s t := by
  refine jobKeeps_of_same h ?_
  split <;> rfl

theorem jobKeeps_execHeaderWriteComplete (h : execHeaderWriteComplete s = .next t) : JobKeeps s t := by
  refine jobKeeps_of_same h ?_
  split <;> rfl

theorem jobKeeps_execTableWriteComplete (h : execTableWriteComplete s = .next t) : JobKeeps s t := by
  refine jobKeeps_of_same h ?_
  split
  iterate 2 split <;> rfl
  rfl

theorem jobKeeps_execAccessFail (h : execAccessFail s = .next t) : JobKeeps s t := by
  refine jobKeeps_of_same h ?_
  split
  · exact jobView_exchangeFault ..
  · rfl

theorem jobKeeps_execOfficeClockAdvance (h : execOfficeClockAdvance s = .next t) : JobKeeps s t := by
  unfold execOfficeClockAdvance at h
  cases h
  exact JobKeeps.ite ((JobKeeps.refl s).same (jobView_clockAdvance s)).rewriteChecks (.refl s)

theorem jobKeeps_execBadKind {tag : Word} {kind : Byte} (h : execBadKind tag kind s = .next t) : JobKeeps s t := by
  unfold execBadKind at h
  split at h
  · cases h
    exact .refl s
  · exact jobKeeps_handOn h fun k => k.addReturn

/-- What every command keeps. -/
theorem jobKeeps_exec {c : Instr} (h : exec c s = .next t) : JobKeeps s t := by
  have own : JobKeeps s s := .refl s
  cases c with
  | xbaseWrite value => exact jobKeeps_write (write := .xbaseWrite value) h
  | post value => exact jobKeeps_write (write := .post value) h
  | attnWrite value => exact jobKeeps_write (write := .attnWrite value) h
  | attnEnWrite value => exact jobKeeps_write (write := .attnEnWrite value) h
  | run => exact jobKeeps_write (write := .run) h
  | hold => exact jobKeeps_write (write := .hold) h
  | restart => exact jobKeeps_write (write := .restart) h
  | cold => exact jobKeeps_write (write := .cold) h
  | registerWriteIgnored offset enables value => exact jobKeeps_write h
  | powerUp strap => exact jobKeeps_execPowerUp h
  | pciReset => exact jobKeeps_execPciReset h
  | pciResetRelease => exact jobKeeps_execPciResetRelease h
  | mainPowerLoss => exact jobKeeps_execMainPowerLoss h
  | vbkLoss => exact jobKeeps_execVbkLoss h
  | startComplete => exact jobKeeps_execStartComplete h
  | officeClockAdvance => exact jobKeeps_execOfficeClockAdvance h
  | sweep blocks windows printers => exact jobKeeps_whenLive_ite (c := granting) h own.sweepEvent
  | allowanceReload => exact jobKeeps_whenLive h fun _ => own.allowanceReload
  | fetchRequest => exact jobKeeps_execFetchRequest h
  | engineAccessStart => exact jobKeeps_execEngineAccessStart h
  | returnResultWritten => exact jobKeeps_execReturnResultWritten h
  | returnComplete => exact jobKeeps_execReturnComplete h
  | headerWriteComplete => exact jobKeeps_execHeaderWriteComplete h
  | tableWriteComplete => exact jobKeeps_execTableWriteComplete h
  | accessFail => exact jobKeeps_execAccessFail h
  | issue tag r => exact jobKeeps_handOnForRecord h fun live => .issueWork live
  | void tag window sale => exact jobKeeps_handOn h fun k => k.voidWork
  | refund tag r => exact jobKeeps_handOn h fun k => k.refundWork
  | readTally tag window => exact jobKeeps_handOn h fun k => k.readTallyWork
  | loadStock tag r => exact jobKeeps_handOn h fun k => k.loadStockWork
  | unloadStock tag printer => exact jobKeeps_handOn h fun k => k.unloadStockWork
  | readSpoils tag index => exact jobKeeps_handOn h fun k => k.readSpoilsWork
  | rollCall tag line mask => exact jobKeeps_handOn h fun k => k.rollCallWork
  | testPrint tag r => exact jobKeeps_handOnForRecord h fun live => .testPrintWork live
  | printerServiceEnter tag printer | printerServiceLeave tag printer =>
    exact jobKeeps_handOn h fun k => k.printerServiceWork
  | printerServiceAcknowledge tag printer action => exact jobKeeps_handOn h fun k => k.printerServiceWork
  | cashUp tag r => exact jobKeeps_handOn h fun k => k.cashUpWork
  | endOfDay tag => exact jobKeeps_handOn h fun k => k.endOfDayWork
  | setOffice tag r => exact jobKeeps_handOn h fun k => k.setOfficeWork
  | setWindow tag r => exact jobKeeps_handOn h fun k => k.setWindowWork
  | setRoute tag r => exact jobKeeps_handOn h fun k => k.setRouteWork
  | setPrinter tag printer configured group => exact jobKeeps_handOn h fun k => k.setPrinterWork
  | setLine tag line rate window limit => exact jobKeeps_handOn h fun k => k.setLineWork
  | setStockKind tag kind lowMark band => exact jobKeeps_handOn h fun k => k.setStockKindWork
  | badKind tag kind => exact jobKeeps_execBadKind h
  | arbiterAction g => exact jobKeeps_whenLive_ite h (own.actRepeatedly 64)
  | lineTurn l => exact jobKeeps_whenLive h fun _ => own.lineTurn
  | replyWindowExpiry l => exact jobKeeps_whenLive_ite (c := (awaitsReply · l)) h own.receiveNothing
  | characterGapTimeout l => exact jobKeeps_whenLive h fun _ => own.receiveNothing
  | badReply l bytes => exact jobKeeps_whenLive_ite (c := (awaitsReply · l)) h own.receiveRaw
  | frameDiscarded l bytes =>
    cases h
    exact own
  | status l address flags waiting entries => exact jobKeeps_whenLive h fun _ => own.receiveReply
  | accept l address token => exact jobKeeps_whenLive h fun _ => own.receiveReply
  | refuse l address token reason => exact jobKeeps_whenLive h fun _ => own.receiveReply
  | serial l address serial kind => exact jobKeeps_whenLive h fun _ => own.receiveReply
  | retry l address => exact jobKeeps_whenLive h fun _ => own.receiveReply
  | slotExpiry l => exact jobKeeps_whenLive_ite (c := (inSlot · l)) h own.endSlot
  | badAnswer l bytes => exact jobKeeps_whenLive_ite (c := (inSlot · l)) h own.receiveRaw
  | commandFrameEnd l => exact jobKeeps_whenLive h fun _ => own.commandFrameEnd

/-- What every step keeps. -/
theorem jobKeeps_step (h : step s = .next t) : JobKeeps s t := by
  unfold step at h
  split at h
  · next c rest _ => exact jobKeeps_exec (s := s.withPending rest) h
  · cases h
    exact JobKeeps.ite (jobKeeps_tickWork s) (.refl s)

end

/-- Settles O4, each law through the view of the jobs' places. -/
theorem jobRecordLawsKept : Obligations.JobRecordLawsKept := by
  refine ⟨fun s t law h => ?_, fun s t law h => ?_, fun s t law h => (jobKeeps_step h).token law⟩
  · exact (jobTableLaw_iff t).mpr ((jobKeeps_step h).table ((jobTableLaw_iff s).mp law))
  · exact (windowJobsLaw_iff t).mpr ((jobKeeps_step h).counts ((windowJobsLaw_iff s).mp law))

/-- Settles O7; the place law is kept where the Job Table's is, a record on the Free Job Stack being then in no list. -/
theorem outstandingLawKept : Obligations.OutstandingLawKept := by
  refine ⟨fun s t law h => (jobKeeps_step h).short law, fun s t ⟨table, places⟩ h => ?_⟩
  have keeps := jobKeeps_step h
  have stack := (jobTableLaw_iff s).mp table
  exact ⟨(jobTableLaw_iff t).mpr (keeps.table stack), (placeLaw_iff t).mpr (keeps.placed stack ((placeLaw_iff s).mp places))⟩

end Sys2Proof.Machine
end

section
/-! PROOF. R33, R34, R83 and R90: SET WINDOW. -/

namespace Sys2Proof.Machine

section
variable {s t : State} {w : WindowId} {p : PrinterId}

/-! ### Holds released -/

/-- The release of holds changes printers and their marks alone. -/
theorem forEach_releaseHold_eq (l : List PrinterId) (s : State) : ∃ printers marks,
    forEach l releaseHold s = { s with printers := printers, port := { s.port with printerMarks := marks } } := by
  refine forEach_holds (fun t => ∃ printers marks,
    t = { s with printers := printers, port := { s.port with printerMarks := marks } }) l releaseHold ?_ s ⟨_, _, rfl⟩
  rintro p _ ⟨printers, marks, rfl⟩
  unfold releaseHold
  split <;> exact ⟨_, _, rfl⟩

theorem forEach_releaseHold_printers (l : List PrinterId) (s : State) (p : PrinterId) :
    (forEach l releaseHold s).printers[p] = if p ∈ l then { s.printers[p] with hold := none } else s.printers[p] := by
  unfold forEach
  induction l generalizing s with
  | nil => rfl
  | cons q rest ih =>
    rw [List.foldl_cons, ih, releaseHold_printers, put_get]
    by_cases hq : q = p
    · subst hq
      simp
    · simp [hq, Ne.symm hq]

/-! ### The record written -/

theorem setWindowWork_inRange {r : WindowRequest} {x : WindowRecord} (hw : r.window.toNat = w.val) (hb : windowBad r = none)
    (hx : windowRecordOf r = some x) (tag : Word) (n : SlipId) (s : State) :
    setWindowWork tag r n s =
      addReturn n tag .done 0#32 (windowRecordBytes w (writeWindow w x s).windows[w]) (writeWindow w x s) := by
  have window : windowOf r.window = some w := below_eq_some hw
  unfold setWindowWork
  rw [hb, window, hx]

theorem writeWindow_enabled {x : WindowRecord} (h : x.enabled = true) (s : State) :
    writeWindow w x s = { s with windows := put s.windows w x } := by
  unfold writeWindow
  rw [h]
  rfl

/-- A record that disables its window: it is written, and the window's holds are released after it (R90). -/
theorem writeWindow_disabled {x : WindowRecord} (h : x.enabled = false) (s : State) : ∃ printers marks,
    writeWindow w x s = { s with
      windows := put s.windows w x, printers := printers, port := { s.port with printerMarks := marks } } ∧
    ∀ p : PrinterId, printers[p] = if holds s w p then { s.printers[p] with hold := none } else s.printers[p] := by
  obtain ⟨printers, marks, e⟩ := forEach_releaseHold_eq ((every 16).filter (holds s w)) { s with windows := put s.windows w x }
  have written : writeWindow w x s = forEach ((every 16).filter (holds s w)) releaseHold { s with windows := put s.windows w x } := by
    unfold writeWindow
    rw [h]
    rfl
  refine ⟨printers, marks, written.trans e, fun p => ?_⟩
  have released := forEach_releaseHold_printers ((every 16).filter (holds s w)) { s with windows := put s.windows w x } p
  rw [e] at released
  simpa [every] using released

end

/-- Settles O48, by the two forms of the record written. -/
theorem setWindowWritesRecord : Obligations.SetWindowWritesRecord := by
  intro s n tag r w x hf hw hb hx
  have taken : exec (.setWindow tag r) s = .next (rewriteChecks s _) := handOn_fetching (setWindowWork tag r) s n hf
  rw [setWindowWork_inRange hw hb hx] at taken
  refine ⟨fun on => ?_, fun off => ?_⟩
  · rw [taken, writeWindow_enabled on]
    dsimp only
    rw [put_get_self]
    rfl
  · obtain ⟨printers, marks, e, released⟩ := writeWindow_disabled (w := w) off { s with port := portAfterTaking s.port }
    rw [e] at taken
    refine ⟨_, taken, rfl, fun p => ?_, rfl, rfl, rfl, rfl, ?_⟩
    · have here : printers[p] = if holds s w p then { s.printers[p] with hold := none } else s.printers[p] := released p
      show (printers[p].hold.any fun h => h.window == w) = false ∧ printers[p].outstanding = _ ∧ (_ → printers[p] = _)
      rw [here]
      cases held : holds s w p with
      | true => simp
      | false => exact ⟨held, rfl, fun _ => rfl⟩
    · show s.port.returns ++ [_] = _
      rw [put_get_self]
      rfl

end Sys2Proof.Machine
end

section
/-! PROOF. R51 to R53: VOID, as the ends of the jobs it withdraws, one after another. -/

namespace Sys2Proof.Machine

section
variable {s t u : State} {i k : JobIx} {j : Job} {w : WindowId} {p : PrinterId} {l l' : List JobIx}

/-! ### What the end of a job leaves alone -/

/-- A job but for its aged flag, which the removal of a queue's head clears in the job behind it (R47). -/
def Job.unaged (j : Job) : Job := { j with aged := false }

/-- What a record holds, but for the aged flag. -/
def unaged (s : State) (k : JobIx) : Option Job := (jobAt s k).map Job.unaged

theorem unaged_leaveLists (i k : JobIx) (j : Job) (s : State) : unaged (leaveLists i j s) k = unaged s k := by
  unfold leaveLists unaged
  split
  · rfl
  · rcases setQueue_jobAt _ _ s k with e | e
    · exact congrArg _ e
    · refine (congrArg _ e).trans ?_
      cases jobAt s k <;> rfl
  · rfl

theorem leaveLists_frame (i : JobIx) (j : Job) (s : State) :
    (∀ k, tokenOf (leaveLists i j s) k = tokenOf s k) ∧
      ∀ p : PrinterId, (leaveLists i j s).printers[p].hold = s.printers[p].hold := by
  unfold leaveLists
  split
  · next q _ =>
    refine ⟨fun _ => rfl, fun p => ?_⟩
    simp only [leavePrinter, markPrinter, modPort, modLineRecord, modPrinter, upd_get]
    split <;> rfl
  · obtain ⟨tokens, printers, -⟩ := setQueue_frame _ _ s
    exact ⟨tokens, fun p => by rw [leaveQueue, printers]⟩
  · exact ⟨fun _ => rfl, fun _ => rfl⟩

/-- The hold is a SALE_END hold that the end of a job releases (R87). -/
def Job.endsHold (j : Job) (h : Hold) : Bool :=
  j.lastInSale && j.window.any fun w => h.window == w && h.kind == .saleEnd j.sale

theorem releaseSaleEnd_hold (j : Job) (s : State) (p : PrinterId) :
    (releaseSaleEnd j s).printers[p].hold = s.printers[p].hold.filter (!j.endsHold ·) := by
  have kept : ∀ o : Option Hold, o.filter (fun _ => true) = o := fun o => by cases o <;> rfl
  have released : ∀ (o : Option Hold) (test : Hold → Bool), (if o.any test then none else o) = o.filter (!test ·) :=
    fun o test => by
      cases o with
      | none => rfl
      | some h => cases ht : test h <;> simp [Option.filter, ht]
  have mem : ∀ test : PrinterId → Bool, p ∈ (every 16).filter test ↔ test p = true := fun _ => by simp [every]
  unfold releaseSaleEnd Job.endsHold
  cases j.window with
  | none => simp [kept]
  | some w =>
    cases j.lastInSale with
    | false => simp [kept]
    | true =>
      simp only [if_true, forEach_releaseHold_printers, mem, apply_ite Printer.hold]
      exact released _ _

theorem statementAfter_stock (j : Job) (s : State) : (statementAfter j s).magazines = s.magazines ∧
    (statementAfter j s).register = s.register := by
  unfold statementAfter
  split
  · unfold statementIfDue
    split
    · split
      · unfold produceStatement
        split <;> exact ⟨rfl, rfl⟩
      · exact ⟨rfl, rfl⟩
    · exact ⟨rfl, rfl⟩
  · exact ⟨rfl, rfl⟩

theorem lowerOpenJobs_stock (j : Job) (s : State) : (lowerOpenJobs j s).magazines = s.magazines ∧
    (lowerOpenJobs j s).register = s.register := by
  obtain ⟨current, closing, e⟩ := modTallyOf_eq j (fun t => { t with openJobs := t.openJobs - 1 }) s
  rw [lowerOpenJobs_eq, e]
  exact ⟨rfl, rfl⟩

/-- A withdrawal's steps before its record is freed (R43). -/
def beforeFree (i : JobIx) (j : Job) (s : State) : State :=
  statementAfter j (lowerOpenJobs j (releaseSaleEnd j (leaveLists i j (returnJob i j .withdrawn 0 s))))

theorem finishJob_eq_freeRecord (hj : jobAt s i = some j) :
    finishJob i .withdrawn 0 s = freeRecord i (beforeFree i j s) := by
  unfold finishJob
  rw [hj]
  rfl

theorem beforeFree_places (i : JobIx) (j : Job) (s : State) :
    places (beforeFree i j s) = places (leaveLists i j (returnJob i j .withdrawn 0 s)) :=
  (statementAfter_places ..).1.trans ((lowerOpenJobs_places ..).1.trans (places_releaseSaleEnd ..))

theorem beforeFree_unaged (i k : JobIx) (j : Job) (s : State) : unaged (beforeFree i j s) k = unaged s k := by
  have jobs := congrArg Places.jobs (beforeFree_places i j s)
  refine Eq.trans ?_ (unaged_leaveLists i k j (returnJob i j .withdrawn 0 s))
  unfold unaged jobAt
  exact congrArg (fun v : Vector JobRecord 64 => v[k].job.map Job.unaged) jobs

theorem beforeFree_tokenOf (i k : JobIx) (j : Job) (s : State) : tokenOf (beforeFree i j s) k = tokenOf s k := by
  have jobs := congrArg Places.jobs (beforeFree_places i j s)
  refine Eq.trans ?_ ((leaveLists_frame i j (returnJob i j .withdrawn 0 s)).1 k)
  exact congrArg (fun v : Vector JobRecord 64 => BitVec.ofNat 8 (v[k].generation.val * 64 + k.val)) jobs

theorem beforeFree_hold (i : JobIx) (j : Job) (s : State) (p : PrinterId) :
    (beforeFree i j s).printers[p].hold = s.printers[p].hold.filter (!j.endsHold ·) := by
  unfold beforeFree
  rw [(statementAfter_places ..).2, (lowerOpenJobs_places ..).2, releaseSaleEnd_hold, (leaveLists_frame ..).2]
  rfl

/-- The end of a job writes nothing in the Stock Unit. -/
theorem beforeFree_stock (i : JobIx) (j : Job) (s : State) :
    (beforeFree i j s).magazines = s.magazines ∧ (beforeFree i j s).register = s.register := by
  have same : books (releaseSaleEnd j (leaveLists i j (returnJob i j .withdrawn 0 s))) = books s :=
    (books_releaseSaleEnd ..).trans ((books_leaveLists ..).trans rfl)
  unfold beforeFree
  rw [(statementAfter_stock ..).1, (statementAfter_stock ..).2, (lowerOpenJobs_stock ..).1, (lowerOpenJobs_stock ..).2]
  exact ⟨congrArg Books.magazines same, congrArg Books.register same⟩

/-! ### Jobs withdrawn one after another -/

theorem entryNow_congr (h : t.settings = s.settings) (n : SlipId) (tag : Word) (code : ResultCode) (detail : Word)
    (area : List Byte) : entryNow t n tag code detail area = entryNow s n tag code detail area := by
  unfold entryNow
  rw [h]

/-- The entry that a job's withdrawal adds (R53). -/
def withdrawnEntry (s : State) (i : JobIx) (j : Job) : ReturnEntry :=
  entryNow s j.slip j.tag .withdrawn (clampedBit j.clamped) (jobResultBytes (tokenOf s i) j)

/-- What the withdrawal of the jobs of a list has done, and left alone. -/
structure Withdrawn (l : List JobIx) (s t : State) : Prop where
  jobs : ∀ k, unaged t k = if k ∈ l then none else unaged s k
  tokens : ∀ k, tokenOf t k = tokenOf s k
  settings : t.settings = s.settings
  magazines : t.magazines = s.magazines
  register : t.register = s.register
  holds : ∀ p : PrinterId, t.printers[p].hold = s.printers[p].hold ∨ t.printers[p].hold = none
  returns : s.port.returns <+: t.port.returns
  entries : ∀ i ∈ l, ∀ j, unaged s i = some j → withdrawnEntry s i j ∈ t.port.returns
  released : ∀ i ∈ l, ∀ j, unaged s i = some j → ∀ (p : PrinterId) (h : Hold), s.printers[p].hold = some h →
    j.endsHold h = true → t.printers[p].hold = none

theorem Withdrawn.nil (s : State) : Withdrawn [] s s :=
  ⟨fun _ => rfl, fun _ => rfl, rfl, rfl, rfl, fun _ => .inl rfl, List.prefix_rfl, fun _ h => (nomatch h),
    fun _ h => (nomatch h)⟩

theorem withdrawnEntry_congr (tokens : ∀ k, tokenOf t k = tokenOf s k) (settings : t.settings = s.settings) (i : JobIx)
    (j : Job) : withdrawnEntry t i j = withdrawnEntry s i j := by
  unfold withdrawnEntry
  rw [tokens, entryNow_congr settings]

theorem Withdrawn.append (h : Withdrawn l s t) (k : Withdrawn l' t u) : Withdrawn (l ++ l') s u := by
  have found : ∀ {i j}, i ∉ l → unaged s i = some j → unaged t i = some j := fun hi hj => by rw [h.jobs, if_neg hi, hj]
  refine ⟨fun i => ?_, fun i => (k.tokens i).trans (h.tokens i), k.settings.trans h.settings,
    k.magazines.trans h.magazines, k.register.trans h.register, fun p => ?_, h.returns.trans k.returns, fun i hi j hj => ?_,
    fun i hi j hj p x hx hr => ?_⟩
  · rw [k.jobs, h.jobs]
    by_cases first : i ∈ l <;> by_cases second : i ∈ l' <;> simp [first, second]
  · rcases k.holds p with e | e
    · rw [e]; exact h.holds p
    · exact .inr e
  · by_cases first : i ∈ l
    · exact k.returns.subset (h.entries i first j hj)
    · have second := (List.mem_append.mp hi).resolve_left first
      rw [← withdrawnEntry_congr h.tokens h.settings]
      exact k.entries i second j (found first hj)
  · have ends : t.printers[p].hold = none → u.printers[p].hold = none := fun e => by
      rcases k.holds p with e' | e'
      · rw [e', e]
      · exact e'
    by_cases first : i ∈ l
    · exact ends (h.released i first j hj p x hx hr)
    · have second := (List.mem_append.mp hi).resolve_left first
      rcases h.holds p with e | e
      · exact k.released i second j (found first hj) p x (e.trans hx) hr
      · exact ends e

/-- A job's end: its record is freed, its entry joins the Return Hold list, and the hold that waits for it is released. -/
theorem withdrawn_finishJob (i : JobIx) (s : State) : Withdrawn [i] s (finishJob i .withdrawn 0 s) := by
  cases hj : jobAt s i with
  | none =>
    have same : finishJob i .withdrawn 0 s = s := by
      unfold finishJob
      rw [hj]
    have gone : unaged s i = none := by
      unfold unaged
      rw [hj]
      rfl
    rw [same]
    refine ⟨fun k => ?_, fun _ => rfl, rfl, rfl, rfl, fun _ => .inl rfl, List.prefix_rfl, fun k hk j hk' => ?_,
      fun k hk j hk' => ?_⟩
    · by_cases hk : k = i
      · subst hk; simp [gone]
      · simp [hk]
    all_goals
      rw [List.mem_singleton.mp hk, gone] at hk'
      cases hk'
  | some j =>
    have here : unaged s i = some j.unaged := by
      unfold unaged
      rw [hj]
      rfl
    have entry := (finishJob_ends hj .withdrawn 0).2
    have settings : (finishJob i .withdrawn 0 s).settings = s.settings := congrArg Still.settings (finishJob_still ..)
    obtain ⟨magazines, register⟩ := beforeFree_stock i j s
    have hold := beforeFree_hold i j s
    rw [finishJob_eq_freeRecord hj] at *
    refine ⟨fun k => ?_, fun k => (tokenOf_freeRecord ..).trans (beforeFree_tokenOf ..), settings, magazines, register,
      fun p => ?_, (List.prefix_append _ _).trans entry, fun k hk x hx => ?_, fun k hk x hx p h hp ends => ?_⟩
    · unfold unaged
      rw [jobAt_freeRecord]
      by_cases hk : i = k
      · simp [hk]
      · simpa [hk, Ne.symm hk] using! beforeFree_unaged i k j s
    · have filtered : ∀ (o : Option Hold) (test : Hold → Bool), o.filter test = o ∨ o.filter test = none := fun o test => by
        cases o with
        | none => exact .inl rfl
        | some h => cases ht : test h <;> simp [Option.filter, ht]
      exact hold p ▸ filtered s.printers[p].hold (!j.endsHold ·)
    all_goals
      obtain rfl := List.mem_singleton.mp hk
      obtain rfl : j.unaged = x := Option.some.inj (here.symm.trans hx)
    · refine entry.subset (List.mem_append_right _ (List.mem_singleton.mpr ?_))
      rw [show detailOf 0 ||| clampedBit j.clamped = clampedBit j.clamped from BitVec.zero_or]
      rfl
    · have : (beforeFree k j s).printers[p].hold = none := by
        have ends : j.endsHold h = true := ends
        rw [hold, hp]
        simp [Option.filter, ends]
      exact this

theorem withdrawn_finishJobs (l : List JobIx) (s : State) : Withdrawn l s (finishJobs .withdrawn 0 l s) := by
  induction l generalizing s with
  | nil => exact .nil s
  | cons i rest ih => exact (withdrawn_finishJob i s).append (ih _)

/-! ### The slip -/

theorem voidWork_badField {window : Byte} (hw : 24 ≤ window.toNat) (tag : Word) (sale : BitVec 16) (n : SlipId) (s : State) :
    voidWork tag window sale n s = addReturn n tag .badField 0#32 [] s := by
  have none : windowOf window = none := below_eq_none hw
  unfold voidWork
  rw [none]
  rfl

theorem voidWork_inRange {window : Byte} (hw : window.toNat = w.val) (tag : Word) (sale : BitVec 16) (n : SlipId) (s : State) :
    voidWork tag window sale n s = addReturn n tag .done 0#32
      [byte (unsentJobs s w (·.sale == sale)).length, byte (printingJobs s w (·.sale == sale)).length]
      (finishJobs .withdrawn 0 (unsentJobs s w (·.sale == sale)) s) := by
  have window : windowOf window = some w := below_eq_some hw
  unfold voidWork
  rw [window]
  rfl

/-- The jobs a VOID picks are of its sale. -/
theorem sale_of_mem_unsentJobs {sale : BitVec 16} (hi : i ∈ unsentJobs s w (·.sale == sale)) (hj : jobAt s i = some j) :
    j.sale = sale := by
  have picked : ∀ test : Job → Bool, jobIs s i test = true ↔ test j = true := fun test => by
    unfold jobIs
    rw [hj]
    rfl
  unfold unsentJobs at hi
  rcases List.mem_append.mp hi with hq | hp
  · simpa [picked] using (List.mem_filter.mp hq).2
  · obtain ⟨p, -, hp⟩ := List.mem_flatMap.mp hp
    have both := (List.mem_filter.mp hp).2
    rw [Bool.and_eq_true, picked, Bool.and_eq_true] at both
    simpa using both.2.2

end

/-- Settles O37, by what the withdrawal of a list of jobs does (`Withdrawn`). -/
theorem voidWithdrawsUnsentJobs : Obligations.VoidWithdrawsUnsentJobs := by
  intro s n tag window sale hf
  refine ⟨fun hw => handOn_answers hf (voidWork_badField hw tag sale n _), fun w hw => ?_⟩
  have taken : exec (.void tag window sale) s = .next (rewriteChecks s _) := handOn_fetching (voidWork tag window sale) s n hf
  have done : Withdrawn (unsentJobs s w (·.sale == sale)) { s with port := portAfterTaking s.port } _ :=
    withdrawn_finishJobs _ _
  have same := voidWork_still tag window sale n { s with port := portAfterTaking s.port }
  rw [voidWork_inRange hw] at taken same
  have record : ∀ i j, jobAt s i = some j →
      unaged { s with port := portAfterTaking s.port } i = some j.unaged := fun i j hj => congrArg (Option.map _) hj
  refine ⟨_, taken, same, fun i hi => ⟨?_, fun j hj => ⟨?_, fun hw' last p h hp window kind => ?_⟩⟩, fun i hi => ?_,
    done.magazines, done.register, ?_⟩
  · have gone := done.jobs i
    rw [if_pos hi] at gone
    exact Option.map_eq_none_iff.mp gone
  · exact List.mem_append_left _ (done.entries i hi j.unaged (record i j hj))
  · refine done.released i hi j.unaged (record i j hj) p h hp ?_
    have ofSale : j.sale = sale := sale_of_mem_unsentJobs hi hj
    simp [Job.endsHold, Job.unaged, hw', last, window, kind, ofSale]
  · have kept := done.jobs i
    rwa [if_neg hi] at kept
  · exact List.getLast?_concat.trans (congrArg some (entryNow_congr done.settings ..))

end Sys2Proof.Machine
end

section
/-! PROOF. The Fare Unit (R54 to R57): discount and rounding step, the office minimum and the amount, the bounds, and the law of
fares. -/

namespace Sys2Proof.Machine

/-! ### Stages 1 and 2 (R55) -/

/-- The discount cannot raise the fare. -/
theorem discountedFare_le (fare discount : Nat) : discountedFare fare discount ≤ fare :=
  Nat.div_le_of_le_mul (by
    rw [Nat.mul_comm 10000]
    exact Nat.mul_le_mul_left fare (Nat.sub_le _ _))

theorem steppedFare_le (fare discount step : Nat) : steppedFare fare discount step ≤ discountedFare fare discount :=
  Nat.sub_le _ _

theorem discountedFare_zero (fare : Nat) : discountedFare fare 0 = fare := by
  unfold discountedFare
  omega

theorem discountedFare_full (fare : Nat) : discountedFare fare 10000 = 0 := by
  unfold discountedFare
  omega

/-- Any discount lowers the largest fare. -/
theorem discountedFare_max {discount : Nat} (h : discountedFare 999999 discount = 999999) : discount = 0 := by
  unfold discountedFare at h
  omega

/-- Settles O14. -/
theorem fareDiscountAndStep : Obligations.FareDiscountAndStep := by
  intro fare discount step hf hd hs product p0 p1
  have bound : product ≤ 9999990000 := by
    calc product ≤ 999999 * 10000 := Nat.mul_le_mul hf (Nat.sub_le _ _)
      _ = 9999990000 := rfl
  have rounds : p0 % step < step := Nat.mod_lt _ (by omega)
  have within : p0 % step ≤ p0 := Nat.mod_le _ _
  have down : p1 = p0 - p0 % step := rfl
  have floor : p0 = product / 10000 := rfl
  refine ⟨bound, by norm_num, by norm_num, by omega, ?_, ?_, discountedFare_le fare discount,
    ⟨Nat.dvd_sub_mod p0, down, by omega, by omega⟩, ?_⟩
  · rintro rfl
    exact discountedFare_zero fare
  · rintro rfl
    exact discountedFare_full fare
  · rintro rfl
    omega

/-! ### Stages 3 and 4 (R56) -/

theorem passengerFare_minimum {fare discount step minimum : Nat} {flag : Bool}
    (h : flag = true ∧ 0 < discount ∧ steppedFare fare discount step < minimum) :
    passengerFare fare discount flag step minimum = min fare minimum := if_pos h

theorem passengerFare_stepped {fare discount step minimum : Nat} {flag : Bool}
    (h : ¬(flag = true ∧ 0 < discount ∧ steppedFare fare discount step < minimum)) :
    passengerFare fare discount flag step minimum = steppedFare fare discount step := if_neg h

/-- Settles O15, by the minimum's three conditions. -/
theorem fareMinimumAndAmount : Obligations.FareMinimumAndAmount := by
  intro fare discount quantity step minimum flag _ p1 p
  refine ⟨passengerFare_minimum, passengerFare_stepped, rfl, ?_, ?_, ?_⟩
  · rintro rfl
    exact passengerFare_stepped fun h => absurd h.2.1 (Nat.lt_irrefl 0)
  · rintro rfl
    exact passengerFare_stepped fun h => absurd h.2.2 (Nat.not_lt_zero _)
  · rintro ⟨hflag, hdiscount, hminimum, hfare⟩
    exact (passengerFare_minimum ⟨hflag, hdiscount, hminimum⟩).trans (Nat.min_eq_left hfare.le)

/-! ### Bounds (R57) -/

/-- No order is charged more than its base fare. -/
theorem passengerFare_le (fare discount : Nat) (flag : Bool) (step minimum : Nat) :
    passengerFare fare discount flag step minimum ≤ fare := by
  unfold passengerFare
  split
  · exact Nat.min_le_left _ _
  · exact (steppedFare_le ..).trans (discountedFare_le ..)

/-- The amount of nine passengers at most, each at the largest fare at most. -/
theorem ticketAmount_le {fare quantity : Nat} (hf : fare ≤ 999999) (hq : quantity ≤ 9) :
    ticketAmount fare quantity ≤ 8999991 := Nat.mul_le_mul hf hq

/-- The largest amount is that of nine of the largest fare. -/
theorem ticketAmount_max {fare quantity : Nat} (hf : fare ≤ 999999) (hq : quantity ≤ 9) :
    ticketAmount fare quantity = 8999991 ↔ fare = 999999 ∧ quantity = 9 := by
  constructor
  · intro h
    have nine : quantity = 9 := by
      by_contra hne
      have : ticketAmount fare quantity ≤ 999999 * 8 := Nat.mul_le_mul hf (by omega)
      omega
    subst nine
    unfold ticketAmount at h
    omega
  · rintro ⟨rfl, rfl⟩
    rfl

/-- The largest per-passenger fare is that of the largest fare, neither discounted nor rounded. -/
theorem passengerFare_max {fare discount step minimum : Nat} {flag : Bool} (hf : fare ≤ 999999)
    (hs : step = 1 ∨ step = 5 ∨ step = 10) (hm : minimum ≤ 99999) :
    passengerFare fare discount flag step minimum = 999999 ↔ fare = 999999 ∧ discount = 0 ∧ step = 1 := by
  constructor
  · intro h
    have full : fare = 999999 := by
      have := passengerFare_le fare discount flag step minimum
      omega
    subst full
    have stepped : steppedFare 999999 discount step = 999999 := by
      refine (passengerFare_stepped fun applies => ?_).symm.trans h
      rw [passengerFare_minimum applies] at h
      omega
    have undiscounted : discountedFare 999999 discount = 999999 := by
      have := steppedFare_le 999999 discount step
      have := discountedFare_le 999999 discount
      omega
    unfold steppedFare at stepped
    rw [undiscounted] at stepped
    refine ⟨rfl, discountedFare_max undiscounted, ?_⟩
    rcases hs with rfl | rfl | rfl <;> omega
  · rintro ⟨rfl, rfl, rfl⟩
    rw [passengerFare_stepped fun h => absurd h.2.1 (Nat.lt_irrefl 0)]
    unfold steppedFare
    rw [discountedFare_zero, Nat.mod_one]

/-- A full discount leaves the minimum, where it applies, or nothing. -/
theorem passengerFare_full (fare : Nat) (flag : Bool) (step minimum : Nat) :
    passengerFare fare 10000 flag step minimum = if flag = true then min fare minimum else 0 := by
  have none : steppedFare fare 10000 step = 0 := by
    unfold steppedFare
    rw [discountedFare_full, Nat.zero_sub]
  unfold passengerFare
  rw [none]
  cases flag with
  | false => simp
  | true =>
    rcases Nat.eq_zero_or_pos minimum with rfl | hm
    · simp
    · simp [hm]

/-! ### The field tests of an order (R35) -/

/-- An order that passes the field tests has a base fare and a quantity within their bounds. -/
theorem issueBad_bounds {r : IssueRequest} (h : issueBad r = none) :
    r.baseFare.toNat ≤ 999999 ∧ 1 ≤ r.quantity.toNat ∧ r.quantity.toNat ≤ 9 := by
  simp only [issueBad, firstBad, Bool.and_eq_true, decide_eq_true_eq] at h
  repeat' split at h
  any_goals contradiction
  next hq hf _ => exact ⟨hf, hq.1, hq.2⟩

/-- The law of fares, whatever the office settings. -/
theorem fareOf_le (o : OfficeSettings) {r : IssueRequest} (h : issueBad r = none) :
    fareOf o r ≤ r.baseFare.toNat ∧ fareOf o r ≤ 999999 ∧ ticketAmount (fareOf o r) r.quantity.toNat ≤ 8999991 := by
  obtain ⟨hf, -, hq⟩ := issueBad_bounds h
  have le : fareOf o r ≤ r.baseFare.toNat := passengerFare_le ..
  exact ⟨le, le.trans hf, ticketAmount_le (le.trans hf) hq⟩

/-- Settles O16. -/
theorem lawOfFares : Obligations.LawOfFares := by
  refine ⟨?_, by decide, fun o r h => ?_⟩
  · intro fare discount quantity step minimum flag hf _ _ hq hs hm p a
    have le : p ≤ fare := passengerFare_le ..
    have bound : p ≤ 999999 := le.trans hf
    have amount : p = 0 → a = 0 := fun h => (congrArg (· * quantity) h).trans (Nat.zero_mul _)
    refine ⟨bound, le, ticketAmount_le bound hq, fun h => ?_, ?_, ?_, ?_⟩
    · have free : p = 0 := by omega
      exact ⟨free, amount free⟩
    · rintro rfl rfl
      have free : p = 0 := passengerFare_full fare false step minimum
      exact ⟨free, amount free⟩
    · rintro rfl rfl
      exact passengerFare_full fare true step minimum
    · exact (ticketAmount_max bound hq).trans
        ((and_congr_left' (passengerFare_max hf hs hm)).trans ⟨fun ⟨⟨f, d, s⟩, q⟩ => ⟨f, d, s, q⟩,
          fun ⟨f, d, s, q⟩ => ⟨⟨f, d, s⟩, q⟩⟩)
  · obtain ⟨le, -, amount⟩ := fareOf_le o h
    exact ⟨le, amount⟩

end Sys2Proof.Machine
end

section
/-! PROOF. Every step keeps R57's bounds for the jobs in the Job Table: a job's fare and amount are fixed when its ISSUE or TEST PRINT
is taken (R38, R132), and no work on jobs, printers, lines, stock or tallies changes them. -/

namespace Sys2Proof.Machine

/-- The bounds of one job. -/
def Job.WithinFares (j : Job) : Prop := j.fare ≤ 999999 ∧ j.amount ≤ 8999991

section
variable {s t : State} {i : JobIx} {p : PrinterId} {w : WindowId} {l : LineId} {order : List JobIx}

/-! ### Job records -/

/-- Work that leaves the job records alone. -/
theorem FareLaw.same (h : FareLaw s) (jobs : t.jobs = s.jobs) : FareLaw t := fun i j hj => by
  unfold jobAt at hj
  rw [jobs] at hj
  exact h i j hj

protected theorem FareLaw.ite {c : Prop} [Decidable c] (h : FareLaw s) (k : FareLaw t) : FareLaw (if c then s else t) := by
  split <;> assumption

protected theorem FareLaw.forEach {α : Type} {l : List α} {f : α → State → State} (h : FareLaw s)
    (hf : ∀ a {u : State}, FareLaw u → FareLaw (f a u)) : FareLaw (forEach l f s) :=
  forEach_holds FareLaw l f (fun a _ => hf a) s h

/-- A change of a job that leaves its fare and amount. -/
protected theorem FareLaw.modJob {f : Job → Job} (h : FareLaw s)
    (hf : ∀ j, (f j).fare = j.fare ∧ (f j).amount = j.amount := by exact fun _ => ⟨rfl, rfl⟩) :
    FareLaw (modJob i f s) := by
  intro k j hj
  rw [jobAt_modJob] at hj
  split at hj
  · obtain ⟨j', hj', rfl⟩ := Option.map_eq_some_iff.mp hj
    obtain ⟨fare, amount⟩ := hf j'
    rw [fare, amount]
    exact h k j' hj'
  · exact h k j hj

protected theorem FareLaw.freeRecord (h : FareLaw s) : FareLaw (freeRecord i s) := by
  intro k j hj
  rw [jobAt_freeRecord] at hj
  split at hj
  · cases hj
  · exact h k j hj

protected theorem FareLaw.takeRecord {rest : List JobIx} {j : Job} (h : FareLaw s) (hj : j.WithinFares) :
    FareLaw (takeRecord i rest j s) := by
  intro k j' hj'
  rw [jobAt_takeRecord] at hj'
  split at hj'
  · cases hj'
    exact hj
  · exact h k j' hj'

/-! ### Queues, lists and holds -/

protected theorem FareLaw.setQueue {q : List JobIx} (h : FareLaw s) : FareLaw (setQueue w q s) := by
  unfold setQueue
  dsimp only
  split
  · refine FareLaw.ite (h.same rfl) (FareLaw.modJob (h.same rfl))
  · exact h.same rfl

protected theorem FareLaw.leavePrinter (h : FareLaw s) : FareLaw (leavePrinter p i s) := h.same rfl

protected theorem FareLaw.joinPrinter (h : FareLaw s) : FareLaw (joinPrinter p i s) := by
  have listed : FareLaw (modPrinter p (fun x => { x with outstanding := x.outstanding ++ [i] }) s) := h.same rfl
  exact listed.modJob.same rfl

protected theorem FareLaw.leaveLists {j : Job} (h : FareLaw s) : FareLaw (leaveLists i j s) := by
  unfold leaveLists
  split
  · exact h.leavePrinter
  · exact h.setQueue
  · exact h

protected theorem FareLaw.releaseHold (h : FareLaw s) : FareLaw (releaseHold p s) := by
  unfold releaseHold
  split
  · exact h.same rfl
  · exact h

protected theorem FareLaw.releaseSaleEnd {j : Job} (h : FareLaw s) : FareLaw (releaseSaleEnd j s) := by
  unfold releaseSaleEnd
  split
  · exact (h.forEach fun _ _ k => k.releaseHold).ite h
  · exact h

/-! ### Tallies and the ends of jobs -/

protected theorem FareLaw.modTally {shift : Nat} {f : Tally → Tally} (h : FareLaw s) : FareLaw (modTally w shift f s) := by
  obtain ⟨current, closing, e⟩ := modTally_eq w shift f s
  rw [e]
  exact h.same rfl

protected theorem FareLaw.lowerOpenJobs {j : Job} (h : FareLaw s) : FareLaw (lowerOpenJobs j s) := by
  unfold lowerOpenJobs
  split
  · exact h.modTally
  · exact h

protected theorem FareLaw.produceStatement {c : PendingCashUp} (h : FareLaw s) : FareLaw (produceStatement w c s) := by
  unfold produceStatement
  split
  · exact h
  · exact h.same rfl

protected theorem FareLaw.statementAfter {j : Job} (h : FareLaw s) : FareLaw (statementAfter j s) := by
  unfold statementAfter statementIfDue
  split
  · split
    · exact h.produceStatement.ite h
    · exact h
  · exact h

protected theorem FareLaw.finishJob {code : ResultCode} {reason : Nat} (h : FareLaw s) :
    FareLaw (finishJob i code reason s) := by
  unfold finishJob
  split
  · exact h
  · next j _ =>
    have returned : FareLaw (returnJob i j code reason s) := h.same rfl
    exact returned.leaveLists.releaseSaleEnd.lowerOpenJobs.statementAfter.freeRecord

protected theorem FareLaw.finishJobs {code : ResultCode} {reason : Nat} {l : List JobIx} (h : FareLaw s) :
    FareLaw (finishJobs code reason l s) := h.forEach fun _ _ k => k.finishJob

protected theorem FareLaw.requeue (h : FareLaw s) : FareLaw (requeue order p w i s) :=
  FareLaw.setQueue (FareLaw.modJob h.leavePrinter)

protected theorem FareLaw.sendBack {reason : Nat} (h : FareLaw s) : FareLaw (sendBack order p reason i s) := by
  unfold sendBack
  split
  · exact h
  · split
    · exact h.requeue
    · exact h.finishJob

protected theorem FareLaw.sendBackGranted (h : FareLaw s) : FareLaw (sendBackGranted order p s) :=
  h.forEach fun _ _ k => k.sendBack

/-! ### Stock -/

protected theorem FareLaw.setMagazine {m : Magazine} (h : FareLaw s) : FareLaw (setMagazine p m s) := by
  obtain ⟨marks, e⟩ := setMagazine_eq p m s
  rw [e]
  exact h.same rfl

protected theorem FareLaw.moveNote {serial : Nat} (h : FareLaw s) : FareLaw (moveNote p serial s) := by
  unfold moveNote
  dsimp only
  split
  · exact h
  · split
    · exact h.setMagazine.modJob
    · exact h.setMagazine

protected theorem FareLaw.claimBlank (h : FareLaw s) : FareLaw (claimBlank p i s) := by
  unfold claimBlank
  split
  · exact h
  · exact h.setMagazine.modJob

protected theorem FareLaw.judgeFlags {k : KindId} (h : FareLaw s) : FareLaw (judgeFlags k s) := by
  unfold judgeFlags
  dsimp only
  split <;> exact h.same rfl

protected theorem FareLaw.recomputeKind {k : KindId} (h : FareLaw s) : FareLaw (recomputeKind k s) := by
  unfold recomputeKind
  refine FareLaw.judgeFlags ?_
  split <;> exact h.same rfl

protected theorem FareLaw.recomputeOf (h : FareLaw s) : FareLaw (recomputeOf p s) := h.recomputeKind.ite h

protected theorem FareLaw.inDoubtBlank {n : Nat} {token : Byte} {window : Option WindowId} {shift : Nat} (h : FareLaw s) :
    FareLaw (inDoubtBlank p n token window shift s) := by
  have disposed : FareLaw (disposeBlank p n window shift .inDoubt .inDoubt s) := h.same rfl
  exact disposed.setMagazine

/-! ### Printers and faults -/

protected theorem FareLaw.leaveSelection (h : FareLaw s) : FareLaw (leaveSelection p s) := by
  unfold leaveSelection
  split
  · dsimp only
    split <;> exact h.same rfl
  · exact h

protected theorem FareLaw.enterState {new : PrinterState} (h : FareLaw s) : FareLaw (enterState order p new s) := by
  have entered : FareLaw (markPrinter p false (modPrinter p (fun x => { x with
    state := new, spoilRun := if new = .ready then 0 else x.spoilRun }) s)) := h.same rfl
  exact (entered.releaseHold.sendBackGranted.ite entered).recomputeOf

protected theorem FareLaw.breakReservation (l : List JobIx) : ∀ {s : State}, FareLaw s →
    FareLaw (breakReservation order p l s) := by
  induction l with
  | nil => exact id
  | cons i rest ih => exact fun h => h.ite (ih h.sendBack)

protected theorem FareLaw.magazineChanged (h : FareLaw s) : FareLaw (magazineChanged order p s) :=
  (h.recomputeOf.enterState.ite (h.recomputeOf.breakReservation _)).ite h.recomputeOf

protected theorem FareLaw.endInDoubt (h : FareLaw s) : FareLaw (endInDoubt order p i s) := by
  unfold endInDoubt
  split
  · exact h
  · refine FareLaw.finishJob ?_
    split
    · refine FareLaw.modTally ?_
      split
      · exact h.inDoubtBlank.magazineChanged
      · exact h
    · split
      · exact h.inDoubtBlank.magazineChanged
      · exact h

protected theorem FareLaw.causeEffects {cause : FaultCause} (h : FareLaw s) : FareLaw (causeEffects order p cause s) := by
  unfold causeEffects
  split
  iterate 5 exact h.same rfl
  iterate 2 exact h.forEach fun _ _ k => k.endInDoubt
  exact h

protected theorem FareLaw.raiseFault {f : FaultInfo} (h : FareLaw s) : FareLaw (raiseFault order p f s) := by
  have noted : ∀ g : Printer → Printer, FareLaw (markPrinter p true (modPrinter p g s)) := fun _ => h.same rfl
  have started := (noted fun x => { x with fault := firstFault f x s.settings.clock, notReady := none }).enterState
    (order := order) (p := p) (new := .faulted) |>.sendBackGranted (order := order) (p := p)
  unfold raiseFault
  split
  iterate 2 exact h
  · exact (noted _).causeEffects
  iterate 3 exact (started.ite started.leaveSelection).causeEffects

/-! ### Outcomes -/

protected theorem FareLaw.takeCancelled (h : FareLaw s) : FareLaw (takeCancelled order p i s) := by
  unfold takeCancelled
  refine FareLaw.sendBack (FareLaw.recomputeOf ?_)
  split
  · exact h.setMagazine.moveNote
  · exact h.setMagazine

protected theorem FareLaw.takePrinted {j : Job} (h : FareLaw s) : FareLaw (takePrinted order p i j s) := by
  unfold takePrinted
  extract_lets m base used blank stock tally
  have hb : FareLaw blank := by
    unfold blank
    split
    · exact h.setMagazine
    · have disposed : FareLaw (disposeBlank p m.next none 0 .test .spoiled s) := h.same rfl
      exact disposed.setMagazine
  have ht : FareLaw tally := by
    unfold tally
    split
    · exact hb.magazineChanged.modTally
    · exact hb.magazineChanged
  exact ht.finishJob.same rfl

protected theorem FareLaw.spoilBlanks {j : Job} {k : Nat} {cause : SpoilCause} (h : FareLaw s) :
    FareLaw (spoilBlanks order p i j k cause s) :=
  FareLaw.magazineChanged (FareLaw.moveNote (FareLaw.setMagazine (h.forEach fun _ _ k => k.same rfl)))

protected theorem FareLaw.takeSpoiled {j : Job} {flags : BitVec 5} {asked : Nat} {cause : SpoilCause} (h : FareLaw s) :
    FareLaw (takeSpoiled order p i j flags asked cause s) := by
  unfold takeSpoiled
  extract_lets k token ended blanks job run
  have hj : FareLaw job := by
    unfold job
    split
    · exact (FareLaw.requeue (FareLaw.modJob h.spoilBlanks.modTally)).ite h.spoilBlanks.modTally.finishJob
    · exact h.spoilBlanks.finishJob
  have hr : FareLaw run := hj.same rfl
  exact FareLaw.ite (hr.raiseFault.same rfl) hr

protected theorem FareLaw.takeOutcome {flags : BitVec 5} {e : OutcomeEntry} {j : Job} (h : FareLaw s) :
    FareLaw (takeOutcome order p flags e i j s) :=
  h.takeCancelled.ite ((h.takePrinted.ite h.takeSpoiled).ite h.raiseFault)

protected theorem FareLaw.countStray (h : FareLaw s) : FareLaw (countStray p s) := by
  unfold countStray
  dsimp only
  split <;> exact h.same rfl

protected theorem FareLaw.handleEntry {flags : BitVec 5} {reported : List Byte} {e : OutcomeEntry} (h : FareLaw s) :
    FareLaw (handleEntry order p flags reported e s) := by
  unfold handleEntry
  refine h.ite (FareLaw.same (s := match outcomeJob s p e.token with
    | some i => match jobAt s i with
      | some j => takeOutcome order p flags e i j s
      | none => s
    | none => countStray p s) ?_ rfl)
  split
  · split
    · exact h.takeOutcome
    · exact h
  · exact h.countStray

protected theorem FareLaw.judgeConditionFlags {flags : BitVec 5} (h : FareLaw s) :
    FareLaw (judgeConditionFlags order p flags s) := by
  have raised : FareLaw (forEach (flagCauses s p flags) (flagFault order p flags) s) := h.forEach fun _ _ k => k.raiseFault
  exact raised.same rfl

protected theorem FareLaw.judgeNotReady {flags : BitVec 5} (h : FareLaw s) : FareLaw (judgeNotReady order p flags s) := by
  unfold judgeNotReady
  split
  · exact h
  · exact h.raiseFault.same rfl

protected theorem FareLaw.judgeRecovery {flags : BitVec 5} (h : FareLaw s) : FareLaw (judgeRecovery order p flags s) :=
  FareLaw.ite (h.enterState.same rfl) h

protected theorem FareLaw.impliedCancel {waiting : Nat} (h : FareLaw s) : FareLaw (impliedCancel order p waiting s) :=
  (h.forEach fun _ _ k => k.takeCancelled).ite h

/-! ### Roll calls -/

protected theorem FareLaw.freeLine (h : FareLaw s) : FareLaw (freeLine l s) := by
  unfold freeLine
  dsimp only
  split <;> exact h.same rfl

protected theorem FareLaw.startRound (h : FareLaw s) : FareLaw (startRound l s) := by
  unfold startRound recallIfFree
  split
  iterate 2 split <;> exact h.same rfl
  iterate 2 exact h

protected theorem FareLaw.settleResult {r : RollResult} (h : FareLaw s) : FareLaw (settleResult p r s) := by
  unfold settleResult
  dsimp only
  split <;> exact h.same rfl

protected theorem FareLaw.clearRecord (h : FareLaw s) : FareLaw (clearRecord p s) := FareLaw.ite (h.same rfl) (h.same rfl)

protected theorem FareLaw.returnToService (h : FareLaw s) : FareLaw (returnToService order p s) := h.enterState.clearRecord

protected theorem FareLaw.handOver {r : RollResult} (h : FareLaw s) : FareLaw (handOver p r s) := by
  unfold handOver
  dsimp only
  split
  iterate 2 exact h.returnToService
  iterate 4 exact h.raiseFault
  exact h

protected theorem FareLaw.applyJudgement {r : RollResult} (h : FareLaw s) : FareLaw (applyJudgement p r s) := by
  unfold applyJudgement
  refine FareLaw.ite (FareLaw.recomputeOf (FareLaw.setMagazine ?_)) h
  split
  · exact h.same rfl
  · exact h

protected theorem FareLaw.takeSerial {serial kind : Nat} (h : FareLaw s) : FareLaw (takeSerial p serial kind s) :=
  h.applyJudgement.settleResult.handOver.ite h

protected theorem FareLaw.endRollCall (h : FareLaw s) : FareLaw (endRollCall l s) := by
  have given : FareLaw (forEach (unresolvedPrinters s l) giveUnanswered s) :=
    h.forEach fun _ _ k => k.settleResult.handOver
  unfold endRollCall returnRollSlip
  split <;> exact given.same rfl

protected theorem FareLaw.endRound (h : FareLaw s) : FareLaw (endRound l s) :=
  FareLaw.freeLine (h.endRollCall.ite (h.same rfl))

protected theorem FareLaw.nextSlot {slots : BitVec 8} (h : FareLaw s) : FareLaw (nextSlot l slots s) := by
  unfold nextSlot
  split
  · exact h.same rfl
  · exact h.endRound

protected theorem FareLaw.endSlot (h : FareLaw s) : FareLaw (endSlot l s) := by
  unfold endSlot
  split
  · exact h.nextSlot
  · exact h

protected theorem FareLaw.takeAnswer {a : AddressIx} {address : Byte} {reply : Reply} (h : FareLaw s) :
    FareLaw (takeAnswer l a address reply s) := by
  unfold takeAnswer
  refine FareLaw.endSlot ?_
  split
  · exact h.takeSerial
  · exact h

/-! ### Printer lines -/

protected theorem FareLaw.sendPrint (h : FareLaw s) : FareLaw (sendPrint l p i s) := by
  unfold sendPrint
  split
  · exact h.same rfl
  · exact h

protected theorem FareLaw.transmitFirst (h : FareLaw s) : FareLaw (transmitFirst l p i s) :=
  (FareLaw.sendPrint (FareLaw.modJob h.claimBlank)).same rfl

protected theorem FareLaw.takeTurn (h : FareLaw s) : FareLaw (takeTurn l p s) := by
  unfold takeTurn
  dsimp only
  split
  · exact h.same rfl
  · exact h.sendPrint
  · exact h.transmitFirst
  · exact h.same rfl

protected theorem FareLaw.lineTurn (h : FareLaw s) : FareLaw (lineTurn l s) := by
  unfold lineTurn
  refine FareLaw.ite ?_ h
  split
  · next a _ =>
    have turned : FareLaw (modLine l (fun x => { x with pointer := a }) s) := h.same rfl
    exact turned.takeTurn
  · exact h

protected theorem FareLaw.exchangeFailed {x : Exchange} (h : FareLaw s) : FareLaw (exchangeFailed x s) := by
  have kept : ∀ {u : State}, FareLaw u → FareLaw (keepForRepeat x.printer x.command u) := fun k => by
    unfold keepForRepeat
    split
    · split
      · exact k.same rfl
      · exact k
    iterate 2 exact k
  have counted : ∀ g, FareLaw (modLineRecord x.printer g s) := fun _ => h.same rfl
  exact (kept (counted _)).raiseFault.ite (kept (counted _))

protected theorem FareLaw.takeAccept {token : Byte} (h : FareLaw s) : FareLaw (takeAccept p token s) := by
  unfold takeAccept
  split
  · exact (FareLaw.modJob h).same rfl
  · exact h

protected theorem FareLaw.takeRefuse {token reason : Byte} (h : FareLaw s) : FareLaw (takeRefuse p token reason s) := by
  have cleared : FareLaw (modLineRecord p (fun r => { r with repeatJob := none }) s) := h.same rfl
  unfold takeRefuse
  split
  · exact h
  · exact FareLaw.ite (h.same rfl) (FareLaw.ite (h.same rfl) cleared.raiseFault)

protected theorem FareLaw.takeStatus {command : CommandKind} {flags : Byte} {waiting : Nat} {entries : List OutcomeEntry}
    (h : FareLaw s) : FareLaw (takeStatus p command flags waiting entries s) := by
  have noted : ∀ {u : State}, FareLaw u → FareLaw (noteReported p entries u) := fun k => by
    unfold noteReported
    split
    · exact k
    · exact k.same rfl
  have answered : ∀ {u : State}, FareLaw u → FareLaw (answerClear p command u) := fun k => by
    unfold answerClear
    split
    · exact k.same rfl
    · exact k
  exact (answered (noted (h.forEach fun _ _ k => k.handleEntry)).judgeConditionFlags.judgeNotReady.impliedCancel).judgeRecovery

protected theorem FareLaw.takeGoodReply {x : Exchange} {reply : Reply} (h : FareLaw s) :
    FareLaw (takeGoodReply x reply s) := by
  have heard : FareLaw (modLineRecord x.printer (fun r => { r with failures := 0 }) s) := h.same rfl
  unfold takeGoodReply
  dsimp only
  split
  · exact heard.takeStatus
  · exact heard.takeAccept
  · exact heard.takeRefuse
  iterate 2 exact heard

protected theorem FareLaw.receiveReply {address : Byte} {reply : Reply} (h : FareLaw s) :
    FareLaw (receiveReply l address reply s) := by
  unfold receiveReply
  split
  · unfold endExchange
    refine FareLaw.freeLine (h.ite ?_)
    split
    · exact h.takeGoodReply
    · exact h.exchangeFailed
  · exact h.takeAnswer
  iterate 3 exact h

protected theorem FareLaw.receiveNothing (h : FareLaw s) : FareLaw (receiveNothing l s) := by
  unfold receiveNothing
  split
  · exact (h.ite h.exchangeFailed).freeLine
  · exact h.endSlot
  iterate 3 exact h

protected theorem FareLaw.receiveRaw {bytes : List Byte} (h : FareLaw s) : FareLaw (receiveRaw l bytes s) := by
  unfold receiveRaw
  split
  · exact h
  · exact h.receiveNothing
  · split
    · exact h.receiveReply
    · exact h.receiveNothing

protected theorem FareLaw.commandFrameEnd (h : FareLaw s) : FareLaw (commandFrameEnd l s) := by
  unfold commandFrameEnd
  split
  · exact h.same rfl
  · exact h.nextSlot
  iterate 3 exact h

/-! ### Slips -/

protected theorem FareLaw.addReturn {n : SlipId} {tag : Word} {code : ResultCode} {detail : Word} {area : List Byte}
    (h : FareLaw s) : FareLaw (addReturn n tag code detail area s) := h.same rfl

/-- The job of an ISSUE taken is within the bounds (R57). -/
theorem withinFares_issuedJob {r : IssueRequest} (hr : issueBad r = none) (s : State) (n : SlipId) (tag : Word)
    (w : WindowId) (c : ClassId) (v : ServiceClass) (x : Tender) : (issuedJob s n tag r w c v x).WithinFares :=
  (fareOf_le s.settings hr).2

protected theorem FareLaw.issueWork {tag : Word} {r : IssueRequest} {n : SlipId} (h : FareLaw s) :
    FareLaw (issueWork tag r n s) := by
  unfold issueWork
  split
  · exact h.addReturn
  · next hr =>
    split
    · next w c v x _ _ _ _ =>
      split
      · exact h.addReturn
      · unfold acceptJob
        split
        · next i rest _ =>
          have taken := h.takeRecord (i := i) (rest := rest) (withinFares_issuedJob hr s n tag w c v x)
          exact FareLaw.setQueue (taken.same rfl)
        · exact h
    · exact h

protected theorem FareLaw.testPrintWork {tag : Word} {r : TestPrintRequest} {n : SlipId} (h : FareLaw s) :
    FareLaw (testPrintWork tag r n s) := by
  unfold testPrintWork
  split
  · exact h.addReturn
  · exact h
  · refine h.addReturn.ite (h.addReturn.ite ?_)
    unfold acceptTest
    split
    · exact (h.takeRecord ⟨Nat.zero_le _, Nat.zero_le _⟩).joinPrinter
    · exact h

protected theorem FareLaw.voidWork {tag : Word} {window : Byte} {sale : BitVec 16} {n : SlipId} (h : FareLaw s) :
    FareLaw (voidWork tag window sale n s) := by
  unfold voidWork
  split
  · exact h.addReturn
  · exact h.finishJobs.addReturn

protected theorem FareLaw.refundWork {tag : Word} {r : RefundRequest} {n : SlipId} (h : FareLaw s) :
    FareLaw (refundWork tag r n s) := by
  unfold refundWork
  split
  · exact h.addReturn
  · exact h.same rfl
  · exact h

protected theorem FareLaw.readTallyWork {tag : Word} {window : Byte} {n : SlipId} (h : FareLaw s) :
    FareLaw (readTallyWork tag window n s) := by
  unfold readTallyWork
  split <;> exact h.addReturn

protected theorem FareLaw.cashUpWork {tag : Word} {r : CashUpRequest} {n : SlipId} (h : FareLaw s) :
    FareLaw (cashUpWork tag r n s) := by
  have awaited : ∀ {u : State} {w : WindowId} {c : PendingCashUp}, FareLaw u → FareLaw (awaitStatement w c u) := fun k => by
    unfold awaitStatement
    split
    · exact FareLaw.ite (k.same rfl) k.produceStatement
    · exact k
  have closed : ∀ {w : WindowId} {withdraw : Bool} {c : PendingCashUp}, FareLaw (closeShift w withdraw c s) := by
    intro w withdraw c
    have opened : FareLaw (countClosing w (shiftOpen w s)) := h.same rfl
    exact awaited (opened.finishJobs.ite opened)
  unfold cashUpWork
  split
  · exact h.addReturn
  · dsimp only
    split
    · exact h.addReturn.ite h.produceStatement
    · exact closed
  · exact h

protected theorem FareLaw.endOfDayWork {tag : Word} {n : SlipId} (h : FareLaw s) : FareLaw (endOfDayWork tag n s) := by
  unfold endOfDayWork
  split
  · exact h.addReturn
  · exact h.same rfl

protected theorem FareLaw.replaceMagazine {m : Magazine} (h : FareLaw s) : FareLaw (replaceMagazine p m s) := by
  have old : FareLaw (if s.magazines[p].loaded then recomputeKind s.magazines[p].kind (setMagazine p m s)
    else setMagazine p m s) := h.setMagazine.recomputeKind.ite h.setMagazine
  exact old.recomputeKind.ite old

protected theorem FareLaw.loadStockWork {tag : Word} {r : LoadStockRequest} {n : SlipId} (h : FareLaw s) :
    FareLaw (loadStockWork tag r n s) := by
  have checked : ∀ {u : State} {p : PrinterId}, FareLaw u → FareLaw (checkLoad p u) := fun k =>
    FareLaw.ite (k.enterState.same rfl) k
  unfold loadStockWork
  split
  · exact h.addReturn
  · exact h.addReturn.ite (h.addReturn.ite (checked h.replaceMagazine).addReturn)
  · exact h

protected theorem FareLaw.unloadStockWork {tag : Word} {printer : Byte} {n : SlipId} (h : FareLaw s) :
    FareLaw (unloadStockWork tag printer n s) := by
  unfold unloadStockWork
  split
  · exact h.addReturn
  · exact h.addReturn.ite (h.addReturn.ite h.replaceMagazine.addReturn)

protected theorem FareLaw.readSpoilsWork {tag : Word} {index : BitVec 16} {n : SlipId} (h : FareLaw s) :
    FareLaw (readSpoilsWork tag index n s) := FareLaw.ite h.addReturn h.addReturn

protected theorem FareLaw.setStockKindWork {tag : Word} {kind : Byte} {lowMark band : BitVec 16} {n : SlipId}
    (h : FareLaw s) : FareLaw (setStockKindWork tag kind lowMark band n s) := by
  unfold setStockKindWork writeStockKind
  split
  · exact h.addReturn
  · exact FareLaw.addReturn (FareLaw.judgeFlags (h.same rfl))
  · exact h

protected theorem FareLaw.rollCallWork {tag : Word} {line mask : Byte} {n : SlipId} (h : FareLaw s) :
    FareLaw (rollCallWork tag line mask n s) := by
  unfold rollCallWork
  split
  · exact h.addReturn
  · exact h.addReturn.ite (h.addReturn.ite (h.same rfl))
  · exact h

protected theorem FareLaw.leaveService (h : FareLaw s) : FareLaw (leaveService p s) := by
  have left : FareLaw (modLineRecord p (fun r => { r with clearRequest := false })
      (modPrinter p (fun x => { x with notReady := none }) (leaveSelection p (enterState [] p .offline s)))) :=
    (FareLaw.leaveSelection h.enterState).same rfl
  exact FareLaw.ite (left.same rfl) left

protected theorem FareLaw.serviceAction {action : Byte} (h : FareLaw s) : FareLaw (serviceAction p action s).2 := by
  have acknowledged : FareLaw (acknowledgeFault p s) := FareLaw.ite (h.same rfl) h
  unfold serviceAction
  dsimp only
  split
  · split
    · exact h.enterState.same rfl
    · exact h
  · split
    · split
      iterate 3
        · split
          · exact h.leaveService
          · exact h
      iterate 3 exact h
    · split
      · exact acknowledged
      · exact h

protected theorem FareLaw.printerServiceWork {tag : Word} {printer action : Byte} {n : SlipId} (h : FareLaw s) :
    FareLaw (printerServiceWork tag printer action n s) := by
  unfold printerServiceWork
  split
  · exact h.addReturn
  · exact h.serviceAction.addReturn.ite h.addReturn

protected theorem FareLaw.setOfficeWork {tag : Word} {r : OfficeRequest} {n : SlipId} (h : FareLaw s) :
    FareLaw (setOfficeWork tag r n s) := by
  unfold setOfficeWork
  split <;> exact h.same rfl

protected theorem FareLaw.setWindowWork {tag : Word} {r : WindowRequest} {n : SlipId} (h : FareLaw s) :
    FareLaw (setWindowWork tag r n s) := by
  have written : ∀ w f, FareLaw (modWindow w f s) := fun _ _ => h.same rfl
  unfold setWindowWork
  split
  · exact h.addReturn
  · exact FareLaw.addReturn ((written _ _).ite ((written _ _).forEach fun _ _ k => k.releaseHold))
  · exact h

protected theorem FareLaw.setRouteWork {tag : Word} {r : RouteRequest} {n : SlipId} (h : FareLaw s) :
    FareLaw (setRouteWork tag r n s) := by
  unfold setRouteWork
  split
  iterate 2 exact h.same rfl
  exact h

protected theorem FareLaw.setPrinterWork {tag : Word} {printer configured group : Byte} {n : SlipId} (h : FareLaw s) :
    FareLaw (setPrinterWork tag printer configured group n s) := by
  have changed : ∀ (p : PrinterId) (new : PrinterState) (g : Printer → Printer),
      FareLaw (changeConfigured p new (modPrinter p g s)) := fun p new g =>
    (FareLaw.enterState (s := modPrinter p g s) (h.same rfl)).same rfl
  have written : ∀ {p : PrinterId} {c : Bool} {g : GroupId}, FareLaw (writePrinter p c g s) := by
    intro p c g
    unfold writePrinter
    dsimp only
    split
    · exact changed _ _ _
    · exact (FareLaw.leaveSelection (changed _ _ _)).same rfl
    · exact h.same rfl
  unfold setPrinterWork
  split
  · exact h.addReturn
  · exact written.addReturn.ite h.addReturn
  · exact h

protected theorem FareLaw.setLineWork {tag : Word} {line rate window limit : Byte} {n : SlipId} (h : FareLaw s) :
    FareLaw (setLineWork tag line rate window limit n s) := by
  have written : ∀ l c, FareLaw (writeLine l c s) := fun l c =>
    FareLaw.forEach (s := modLineConfig l (fun _ => c) s) (h.same rfl) fun _ _ k => k.same rfl
  unfold setLineWork
  split
  · exact h.addReturn
  · exact (written _ _).addReturn.ite h.addReturn
  · exact h

/-! ### Sweeps and ticks -/

protected theorem FareLaw.ageWindow (h : FareLaw s) : FareLaw (ageWindow w s) := by
  unfold ageWindow handleStale
  split
  · exact h
  · split
    · exact h
    · exact FareLaw.ite h.modJob (FareLaw.ite (FareLaw.ite h.modJob h.finishJob) h.modJob)

protected theorem FareLaw.watchOutcomes (h : FareLaw s) : FareLaw (watchOutcomes p s) := by
  have waits : FareLaw (forEach (flightList s p) (fun i => modJob i fun j => { j with outcomeWait := true }) s) :=
    h.forEach fun _ _ k => k.modJob
  unfold watchOutcomes
  dsimp only
  split
  · exact waits
  · exact waits.raiseFault

protected theorem FareLaw.watchHold (h : FareLaw s) : FareLaw (watchHold p s) := by
  unfold watchHold
  split
  · exact h
  · exact FareLaw.ite (h.releaseHold.ite (h.same rfl)) (h.same rfl)

protected theorem FareLaw.blockWork {windows : List WindowId} {printers : List PrinterId} {block : Fin 4} (h : FareLaw s) :
    FareLaw (blockWork windows printers block s) := by
  unfold blockWork
  split
  · exact h.forEach fun _ _ k => k.ageWindow
  · exact h.forEach fun _ _ k => k.watchOutcomes.watchHold
  · exact h.forEach fun _ _ k => k.startRound
  · exact h.same rfl

protected theorem FareLaw.allowanceReload (h : FareLaw s) : FareLaw (allowanceReload s) := FareLaw.ite (h.same rfl) h

protected theorem FareLaw.sweepEvent {blocks windows printers : List Nat} (h : FareLaw s) :
    FareLaw (sweepEvent blocks windows printers s) := by
  have counted : FareLaw (allowanceReload (modTime (fun t => { t with sweepCounter := 0#16 }) s)) :=
    FareLaw.allowanceReload (h.same rfl)
  exact FareLaw.forEach (counted.same rfl) fun _ _ k => k.blockWork

protected theorem FareLaw.clockAdvance (h : FareLaw s) : FareLaw (clockAdvance s) := by
  unfold clockAdvance
  dsimp only
  split
  · split <;> exact h.same rfl
  · exact h.same rfl

protected theorem FareLaw.tickWork (h : FareLaw s) : FareLaw (tickWork s) := by
  have clock : ∀ {u : State}, FareLaw u → FareLaw (tickClock u) := fun k => FareLaw.ite k.clockAdvance (k.same rfl)
  have sweep : ∀ {u : State}, FareLaw u → FareLaw (tickSweep u) := fun k =>
    FareLaw.ite (FareLaw.ite k.sweepEvent.allowanceReload (k.same rfl)) k
  exact FareLaw.ite (sweep (clock h.allowanceReload)) (clock (sweep h.allowanceReload))

/-! ### Grants -/

protected theorem FareLaw.moveToPrinter {j : Job} (h : FareLaw s) : FareLaw (moveToPrinter w i j p s) := by
  have moved : FareLaw (joinPrinter p i (leaveQueue w i s)) := FareLaw.joinPrinter h.setQueue
  unfold moveToPrinter setHold
  split
  · exact moved.same rfl
  · exact moved

protected theorem FareLaw.grantTo {ring : State → State} (h : FareLaw s) (hr : ∀ u, (ring u).jobs = u.jobs) :
    FareLaw (grantTo w ring s) := by
  unfold grantTo
  split
  · exact h
  · split
    · exact h
    · split
      · exact h
      · exact h.moveToPrinter.same (hr _)

theorem afterStandard_jobs (g : GroupId) (w : WindowId) (s : State) : (afterStandard g w s).jobs = s.jobs := by
  unfold afterStandard
  dsimp only
  split <;> rfl

protected theorem FareLaw.grantOnce {g : GroupId} (h : FareLaw s) : FareLaw (grantOnce g s) := by
  unfold grantOnce
  split
  · exact h.grantTo fun _ => rfl
  · split
    · exact h.grantTo fun _ => afterStandard_jobs ..
    · exact h

protected theorem FareLaw.actRepeatedly {g : GroupId} (fuel : Nat) : ∀ {s : State}, FareLaw s →
    FareLaw (actRepeatedly g fuel s) := by
  induction fuel with
  | zero => exact id
  | succ fuel ih => exact fun h => (ih (h.forEach fun _ _ k => k.releaseHold).grantOnce).ite h

/-! ### Power and starts -/

/-- A state without jobs. -/
theorem FareLaw.of_empty (h : ∀ i, jobAt s i = none) : FareLaw s := fun i j hj => by
  rw [h] at hj
  cases hj

theorem fareLaw_clearVolatile (attn : BitVec 7) (s : State) : FareLaw (clearVolatile attn s) :=
  FareLaw.of_empty fun i => by
    unfold jobAt clearVolatile
    simp

theorem fareLaw_checkedStart (strap : Bool) (s : State) : FareLaw (checkedStart strap s) :=
  (fareLaw_clearVolatile 0#7 s).same rfl

protected theorem FareLaw.clearOpenJobs (h : FareLaw s) : FareLaw (clearOpenJobs s) := h.same rfl

protected theorem FareLaw.settleWarm (h : FareLaw s) : FareLaw (settleWarm s) := by
  have note : ∀ (p : PrinterId) (n : Note) {u : State}, FareLaw u → FareLaw (settleNote p n u) := fun p n u k => by
    unfold settleNote
    dsimp only
    split
    · exact k.inDoubtBlank.modTally
    · exact k.inDoubtBlank
  have holder : ∀ (held : PrinterId → Option Nat) (p : PrinterId) {u : State}, FareLaw u → FareLaw (faultHolder held p u) :=
    fun held p u k => by
      unfold faultHolder
      split
      · exact k.raiseFault
      · exact k
  have recovered : ∀ (p : PrinterId) {u : State}, FareLaw u → FareLaw (recoverPrinter p u) := fun p u k => by
    unfold recoverPrinter
    split
    iterate 3 exact k.enterState.same rfl
    iterate 3 exact k
  have settled := h.forEach (l := every 16) (f := settleMagazine) fun p _ k => k.forEach fun n _ k => note p n k
  have faulted := settled.forEach (l := every 16) (f := faultHolder fun p => lowestNote s.magazines[p]) fun p _ k => holder _ p k
  have recovering := faulted.forEach (l := every 16) (f := recoverPrinter) fun p _ k => recovered p k
  exact (recovering.forEach (l := every 16) (f := recomputeKind) fun _ _ k => k.recomputeKind).clearOpenJobs

protected theorem FareLaw.completeStart {st : StartInProgress} (h : FareLaw s) : FareLaw (completeStart st s) := by
  have finished : ∀ {u : State}, FareLaw u → FareLaw (rewriteChecks s (finishStart st.lost u)) := fun k => k.same rfl
  exact FareLaw.ite (h.same rfl) (finished h.settleWarm)

/-! ### Commands and the tick -/

/-- Work done while the part is live. -/
theorem FareLaw.of_whenLive {f : State → State} (h : FareLaw s) (hs : whenLive s f = .next t) (hf : FareLaw (f s)) :
    FareLaw t := by
  rw [whenLive_eq_next] at hs
  subst hs
  exact FareLaw.ite (hf.same rfl) h

/-- A slip handed on for its work. -/
theorem FareLaw.of_handOn {work : SlipId → State → State} (h : FareLaw s) (hs : handOn work s = .next t)
    (hw : ∀ {n : SlipId} {u : State}, FareLaw u → FareLaw (work n u)) : FareLaw t := by
  refine h.of_whenLive hs ?_
  split
  · exact hw (h.same rfl)
  · exact h

theorem FareLaw.of_handOnForRecord {work : SlipId → State → State} (h : FareLaw s) (hs : handOnForRecord work s = .next t)
    (hw : ∀ {n : SlipId} {u : State}, FareLaw u → FareLaw (work n u)) : FareLaw t := by
  refine h.of_whenLive hs ?_
  split
  · exact FareLaw.ite (h.same rfl) (hw (h.same rfl))
  · exact h

/-- A write to the register window, whichever command it spells (R1, R3, R20). -/
protected theorem FareLaw.writeEffect {write : Instr} (h : FareLaw s) : FareLaw (writeEffect write s) := by
  cases write with
  | xbaseWrite value => exact FareLaw.ite (h.same rfl) h
  | post value =>
    show FareLaw (writePost value s)
    unfold writePost
    split
    · exact FareLaw.ite (h.same rfl) (FareLaw.ite (h.same rfl) (h.same rfl))
    · exact h.same rfl
  | run =>
    show FareLaw (runCommand s)
    unfold runCommand
    split
    · exact h.ite (h.same rfl)
    · exact h
    iterate 2 exact h.same rfl
  | hold => exact FareLaw.ite (h.allowanceReload.same rfl) h
  | restart | cold => exact (fareLaw_clearVolatile 0#7 s).same rfl
  | _ => exact h.same rfl

theorem startRetry_jobs (f : FailedAccess) (s : State) : (startRetry f s).jobs = s.jobs := by
  cases f with
  | returning =>
    unfold startRetry startReturn
    dsimp only
    split <;> rfl
  | _ => rfl

theorem startFirstWaiting_jobs (s : State) : (startFirstWaiting s).jobs = s.jobs := by
  unfold startFirstWaiting
  split
  · exact startRetry_jobs ..
  · split
    · exact startRetry_jobs .returning s
    · split
      · next u hu =>
        unfold startTableWrite at hu
        split at hu <;> cases hu <;> rfl
      · split
        · rfl
        · unfold startFetch
          split <;> rfl

/-- What every command keeps. -/
theorem fareLaw_exec {c : Instr} (h : FareLaw s) (hs : exec c s = .next t) : FareLaw t := by
  have write : ∀ {i : Instr}, whenLive s (writeEffect i) = .next t → FareLaw t := fun hw => h.of_whenLive hw h.writeEffect
  have port : ∀ {f : State → State}, whenLive s f = .next t → (f s).jobs = s.jobs → FareLaw t := fun hw jobs =>
    h.of_whenLive hw (h.same jobs)
  cases c with
  | xbaseWrite value => exact write (i := .xbaseWrite value) hs
  | post value => exact write (i := .post value) hs
  | attnWrite value => exact write (i := .attnWrite value) hs
  | attnEnWrite value => exact write (i := .attnEnWrite value) hs
  | run => exact write (i := .run) hs
  | hold => exact write (i := .hold) hs
  | restart => exact write (i := .restart) hs
  | cold => exact write (i := .cold) hs
  | registerWriteIgnored offset enables value => exact write hs
  | powerUp strap =>
    cases hs
    exact h.ite (fareLaw_checkedStart _ _)
  | pciReset =>
    cases hs
    exact FareLaw.ite (h.same rfl) h
  | pciResetRelease =>
    cases hs
    exact FareLaw.ite (fareLaw_checkedStart _ _) h
  | mainPowerLoss =>
    cases hs
    exact FareLaw.ite ((fareLaw_clearVolatile 0#7 s).same rfl) h
  | vbkLoss =>
    cases hs
    exact h.ite (h.same rfl)
  | startComplete =>
    cases hs
    refine FareLaw.ite ?_ h
    split
    · exact h.completeStart
    · exact h
  | officeClockAdvance =>
    cases hs
    exact FareLaw.ite (h.clockAdvance.same rfl) h
  | sweep blocks windows printers => exact h.of_whenLive hs (h.sweepEvent.ite h)
  | allowanceReload => exact h.of_whenLive hs h.allowanceReload
  | fetchRequest => exact h.of_whenLive hs (FareLaw.ite (h.same rfl) h)
  | engineAccessStart => exact h.of_whenLive hs (FareLaw.ite (h.same (startFirstWaiting_jobs s)) h)
  | returnResultWritten =>
    change execReturnResultWritten s = .next t at hs
    refine port hs ?_
    split <;> rfl
  | returnComplete =>
    change execReturnComplete s = .next t at hs
    refine port hs ?_
    split <;> rfl
  | headerWriteComplete =>
    change execHeaderWriteComplete s = .next t at hs
    refine port hs ?_
    split <;> rfl
  | tableWriteComplete =>
    change execTableWriteComplete s = .next t at hs
    refine port hs ?_
    split
    iterate 2 split <;> rfl
    rfl
  | accessFail =>
    change execAccessFail s = .next t at hs
    refine port hs ?_
    split
    · rw [exchangeFault_eq]
    · rfl
  | issue tag r => exact h.of_handOnForRecord hs fun k => k.issueWork
  | void tag window sale => exact h.of_handOn hs fun k => k.voidWork
  | refund tag r => exact h.of_handOn hs fun k => k.refundWork
  | readTally tag window => exact h.of_handOn hs fun k => k.readTallyWork
  | loadStock tag r => exact h.of_handOn hs fun k => k.loadStockWork
  | unloadStock tag printer => exact h.of_handOn hs fun k => k.unloadStockWork
  | readSpoils tag index => exact h.of_handOn hs fun k => k.readSpoilsWork
  | rollCall tag line mask => exact h.of_handOn hs fun k => k.rollCallWork
  | testPrint tag r => exact h.of_handOnForRecord hs fun k => k.testPrintWork
  | printerServiceEnter tag printer | printerServiceLeave tag printer => exact h.of_handOn hs fun k => k.printerServiceWork
  | printerServiceAcknowledge tag printer action => exact h.of_handOn hs fun k => k.printerServiceWork
  | cashUp tag r => exact h.of_handOn hs fun k => k.cashUpWork
  | endOfDay tag => exact h.of_handOn hs fun k => k.endOfDayWork
  | setOffice tag r => exact h.of_handOn hs fun k => k.setOfficeWork
  | setWindow tag r => exact h.of_handOn hs fun k => k.setWindowWork
  | setRoute tag r => exact h.of_handOn hs fun k => k.setRouteWork
  | setPrinter tag printer configured group => exact h.of_handOn hs fun k => k.setPrinterWork
  | setLine tag line rate window limit => exact h.of_handOn hs fun k => k.setLineWork
  | setStockKind tag kind lowMark band => exact h.of_handOn hs fun k => k.setStockKindWork
  | badKind tag kind =>
    change execBadKind tag kind s = .next t at hs
    unfold execBadKind at hs
    split at hs
    · cases hs
      exact h
    · exact h.of_handOn hs fun k => k.addReturn
  | arbiterAction g => exact h.of_whenLive hs ((h.actRepeatedly 64).ite h)
  | lineTurn l => exact h.of_whenLive hs h.lineTurn
  | replyWindowExpiry l => exact h.of_whenLive hs (h.receiveNothing.ite h)
  | characterGapTimeout l => exact h.of_whenLive hs h.receiveNothing
  | badReply l bytes => exact h.of_whenLive hs (h.receiveRaw.ite h)
  | frameDiscarded l bytes =>
    cases hs
    exact h
  | status l address flags waiting entries => exact h.of_whenLive hs h.receiveReply
  | accept l address token => exact h.of_whenLive hs h.receiveReply
  | refuse l address token reason => exact h.of_whenLive hs h.receiveReply
  | serial l address serial kind => exact h.of_whenLive hs h.receiveReply
  | retry l address => exact h.of_whenLive hs h.receiveReply
  | slotExpiry l => exact h.of_whenLive hs (h.endSlot.ite h)
  | badAnswer l bytes => exact h.of_whenLive hs (h.receiveRaw.ite h)
  | commandFrameEnd l => exact h.of_whenLive hs h.commandFrameEnd

/-- What every step keeps. -/
theorem fareLaw_step (h : FareLaw s) (hs : step s = .next t) : FareLaw t := by
  unfold step at hs
  split at hs
  · next c rest _ => exact fareLaw_exec (s := s.withPending rest) (h.same rfl) hs
  · cases hs
    exact FareLaw.ite (h.tickWork.same rfl) h

end

/-- Settles O11. -/
theorem fareLawKept : Obligations.FareLawKept := fun _ _ law h => fareLaw_step law h

end Sys2Proof.Machine
end

section
/-! PROOF. REFUND (R67): the columns it raises and what it leaves alone. -/

namespace Sys2Proof.Machine

/-- A byte that holds a window number names that window. -/
theorem windowOf_eq {b : Byte} {w : WindowId} (h : b.toNat = w.val) : windowOf b = some w := below_eq_some h

theorem refundBad_none {r : RefundRequest} {w : WindowId} {x : Tender} (hw : r.window.toNat = w.val)
    (hx : tenderOf r.tender = some x) (hv : 1 ≤ r.value.toNat) (hv' : r.value.toNat ≤ 8999991) : refundBad r = none := by
  simp [refundBad, firstBad, windowOf_eq hw, hx, hv, hv']

/-- A REFUND whose fields are in range raises its tender's columns and is answered with them. -/
theorem refundWork_inRange {r : RefundRequest} {w : WindowId} {x : Tender} (hw : r.window.toNat = w.val)
    (hx : tenderOf r.tender = some x) (hv : 1 ≤ r.value.toNat) (hv' : r.value.toNat ≤ 8999991) (tag : Word) (n : SlipId)
    (s : State) : refundWork tag r n s =
      let t := modCurrent w (addRefund x r.value.toNat) s
      addReturn n tag .done 0#32 (refundArea t.current[w] x r) t := by
  unfold refundWork
  rw [refundBad_none hw hx hv hv', windowOf_eq hw, hx]

/-! ### The tally after a refund -/

theorem columnsOf_addRefund (x y : Tender) (value : Nat) (t : Tally) : columnsOf (addRefund x value t) y =
    if x = y then
      { columnsOf t x with
        refunds := satAdd Config.max32 (columnsOf t x).refunds value
        refundCount := satAdd Config.max16 (columnsOf t x).refundCount 1 }
    else columnsOf t y := by
  cases x <;> cases y <;> rfl

/-- Beside its tender's columns a refund changes the saturated flag alone. -/
theorem addRefund_frame (x : Tender) (value : Nat) (t : Tally) :
    (addRefund x value t).saturated = (t.saturated || (saturates Config.max32 (columnsOf t x).refunds value ||
        saturates Config.max16 (columnsOf t x).refundCount 1)) ∧
      (addRefund x value t).shift = t.shift ∧ (addRefund x value t).openJobs = t.openJobs ∧
      (addRefund x value t).float = t.float ∧ (addRefund x value t).spoils = t.spoils ∧
      (addRefund x value t).firstIssue = t.firstIssue ∧ (addRefund x value t).lastIssue = t.lastIssue := by
  cases x <;> exact ⟨rfl, rfl, rfl, rfl, rfl, rfl, rfl⟩

/-- Settles O38. -/
theorem refundRaisesItsColumns : Obligations.RefundRaisesItsColumns := by
  intro s n tag r w x hs hw hx hv hv'
  have refunded : ∀ v : WindowId, (modCurrent w (addRefund x r.value.toNat) s).current[v] =
      if w = v then addRefund x r.value.toNat s.current[v] else s.current[v] := fun v => upd_get ..
  refine ⟨_, handOn_fetching _ s n hs, ?_⟩
  rw [refundWork_inRange hw hx hv hv']
  have own := refunded w
  rw [if_pos rfl] at own
  obtain ⟨saturated, shift, openJobs, float, spoils, firstIssue, lastIssue⟩ := addRefund_frame x r.value.toNat s.current[w]
  refine ⟨rfl, ?_, fun y hy => ?_, ?_, ?_, ?_, ?_, ?_, ?_, ?_, fun v hv => ?_⟩
  · refine (congrArg (columnsOf · x) own).trans ((columnsOf_addRefund ..).trans (if_pos rfl))
  · exact (congrArg (columnsOf · y) own).trans ((columnsOf_addRefund ..).trans (if_neg (Ne.symm hy)))
  · refine (congrArg Tally.saturated own).trans (saturated.trans (Bool.or_assoc ..).symm)
  · exact (congrArg Tally.shift own).trans shift
  · exact (congrArg Tally.openJobs own).trans openJobs
  · exact (congrArg Tally.float own).trans float
  · exact (congrArg Tally.spoils own).trans spoils
  · exact (congrArg Tally.firstIssue own).trans firstIssue
  · exact (congrArg Tally.lastIssue own).trans lastIssue
  · exact (refunded v).trans (if_neg (Ne.symm hv))

end Sys2Proof.Machine
end

section
/-! SUPPORT. What the end of a job and a statement write in the tallies, the cash-up records, the Day Totals and the Return Hold list
(R43, R61, R159 to R164). -/

namespace Sys2Proof.Machine

/-- The records a statement reads or writes. -/
structure Ledger where
  settings : OfficeSettings
  returns : List ReturnEntry
  register : SpoilRegister
  current : Vector Tally 24
  closing : Vector (Option Tally) 24
  cashUps : Vector (Option PendingCashUp) 24
  dayTotals : DayTotals

/-- Those of a state. -/
def ledger (s : State) : Ledger :=
  { settings := s.settings, returns := s.port.returns, register := s.register, current := s.current, closing := s.closing,
    cashUps := s.cashUps, dayTotals := s.dayTotals }

section
variable {s t : State} {i : JobIx} {j : Job} {w : WindowId} {c : Tally} {d : PendingCashUp}

theorem put_put {α : Type} {n : Nat} (v : Vector α n) (i : Fin n) (x y : α) : put (put v i x) i y = put v i y := by
  unfold put
  exact Vector.set_set ..

/-! ### Work that writes none of them -/

theorem ledger_leaveLists (i : JobIx) (j : Job) (s : State) : ledger (leaveLists i j s) = ledger s := by
  unfold leaveLists
  split
  · rfl
  · unfold leaveQueue setQueue
    dsimp only
    split
    · split <;> rfl
    · rfl
  · rfl

theorem ledger_releaseSaleEnd (j : Job) (s : State) : ledger (releaseSaleEnd j s) = ledger s := by
  have released : ∀ (p : PrinterId) (u : State), ledger (releaseHold p u) = ledger u := fun p u => by
    unfold releaseHold
    split <;> rfl
  unfold releaseSaleEnd
  split
  · split
    · exact forEach_keeps ledger _ _ released s
    · rfl
  · rfl

theorem ledger_freeRecord (i : JobIx) (s : State) : ledger (freeRecord i s) = ledger s := by
  unfold freeRecord ledger
  simp only [modPort_port]
  split <;> rfl

/-! ### Statements (R159 to R164) -/

/-- A statement, as one next state. -/
theorem produceStatement_eq (hc : s.closing[w] = some c) (d : PendingCashUp) :
    produceStatement w d s = { s with
      port := portWithReturn s.port (statementOf s w c s.current[w].shift d).1
      dayTotals := (statementOf s w c s.current[w].shift d).2
      closing := put s.closing w none
      cashUps := put s.cashUps w none } := by
  unfold produceStatement
  rw [hc]
  rfl

/-- A statement is written from the register, the settings and the Day Totals. -/
theorem statementOf_congr (settings : t.settings = s.settings) (register : t.register = s.register)
    (dayTotals : t.dayTotals = s.dayTotals) (w : WindowId) (c : Tally) (shift : Nat) (d : PendingCashUp) :
    statementOf t w c shift d = statementOf s w c shift d := by
  unfold statementOf entryNow
  rw [settings, register, dayTotals]

/-- What a statement writes depends on these records alone. -/
theorem ledger_statementIfDue (h : ledger t = ledger s) (w : WindowId) :
    ledger (statementIfDue w t) = ledger (statementIfDue w s) := by
  have settings : t.settings = s.settings := congrArg Ledger.settings h
  have returns : t.port.returns = s.port.returns := congrArg Ledger.returns h
  have register : t.register = s.register := congrArg Ledger.register h
  have current : t.current = s.current := congrArg Ledger.current h
  have closing : t.closing = s.closing := congrArg Ledger.closing h
  have cashUps : t.cashUps = s.cashUps := congrArg Ledger.cashUps h
  have dayTotals : t.dayTotals = s.dayTotals := congrArg Ledger.dayTotals h
  unfold statementIfDue
  rw [closing, cashUps]
  split
  · next c d hc hd =>
    split
    · rw [produceStatement_eq (closing ▸ hc), produceStatement_eq hc, statementOf_congr settings register dayTotals, current]
      simp only [ledger, portWithReturn, settings, returns, register, closing, cashUps]
    · exact h
  · exact h

/-! ### The end of a job of a closed shift (R43, R61) -/

/-- A job of a window's closed shift that ends leaves its tally one job less open. -/
theorem lowerOpenJobs_closing (hw : j.window = some w) (hc : s.closing[w] = some c) (hs : j.shift = c.shift)
    (hn : s.current[w].shift ≠ c.shift) :
    lowerOpenJobs j s = { s with closing := put s.closing w (some { c with openJobs := c.openJobs - 1 }) } := by
  unfold lowerOpenJobs modTally
  rw [hw]
  dsimp only
  rw [if_neg (hs ▸ hn), hc]
  dsimp only
  rw [if_pos hs.symm]

/-- The end of a job of a window's closed shift: its entry, its tally, and the statement where one is due. -/
theorem ledger_finishJob (hj : jobAt s i = some j) (hw : j.window = some w) (hc : s.closing[w] = some c)
    (hs : j.shift = c.shift) (hn : s.current[w].shift ≠ c.shift) (code : ResultCode) (reason : Nat) :
    ledger (finishJob i code reason s) = ledger (statementIfDue w { returnJob i j code reason s with
      closing := put s.closing w (some { c with openJobs := c.openJobs - 1 }) }) := by
  have same : ledger (releaseSaleEnd j (leaveLists i j (returnJob i j code reason s))) =
      ledger (returnJob i j code reason s) := (ledger_releaseSaleEnd ..).trans (ledger_leaveLists ..)
  unfold finishJob
  rw [hj]
  dsimp only
  rw [ledger_freeRecord]
  generalize releaseSaleEnd j (leaveLists i j (returnJob i j code reason s)) = x at same
  have closing : x.closing = s.closing := congrArg Ledger.closing same
  have current : x.current = s.current := congrArg Ledger.current same
  have after : ∀ u, statementAfter j u = statementIfDue w u := fun u => by
    unfold statementAfter
    rw [hw]
  rw [after, lowerOpenJobs_closing hw (closing ▸ hc) hs (current ▸ hn), closing]
  exact ledger_statementIfDue (congrArg
    (fun b : Ledger => { b with closing := put s.closing w (some { c with openJobs := c.openJobs - 1 }) }) same) w

theorem statementIfDue_none (h : s.cashUps[w] = none) : statementIfDue w s = s := by
  unfold statementIfDue
  rw [h]
  split
  · next hd => cases hd
  · rfl

/-- Where no cash-up is pending no statement follows. -/
theorem finishJob_unstated (hj : jobAt s i = some j) (hw : j.window = some w) (hc : s.closing[w] = some c)
    (hs : j.shift = c.shift) (hn : s.current[w].shift ≠ c.shift) (hd : s.cashUps[w] = none) (code : ResultCode)
    (reason : Nat) : ledger (finishJob i code reason s) = ledger { returnJob i j code reason s with
      closing := put s.closing w (some { c with openJobs := c.openJobs - 1 }) } := by
  rw [ledger_finishJob hj hw hc hs hn]
  exact congrArg ledger (statementIfDue_none hd)

/-- Jobs of a window's closed shift withdrawn one after another, where no cash-up is pending. -/
theorem withdrawn_unstated {l : List JobIx} (hl : l.Nodup)
    (jobs : ∀ k ∈ l, ∃ x, unaged s k = some x ∧ x.window = some w ∧ x.shift = c.shift) (hc : s.closing[w] = some c)
    (hn : s.current[w].shift ≠ c.shift) (hd : s.cashUps[w] = none) :
    ledger (finishJobs .withdrawn 0 l s) = { ledger s with
      returns := (finishJobs .withdrawn 0 l s).port.returns
      closing := put s.closing w (some { c with openJobs := c.openJobs - l.length }) } := by
  induction l generalizing s c with
  | nil =>
    have same : put s.closing w (some { c with openJobs := c.openJobs - 0 }) = s.closing :=
      (congrArg (put s.closing w) hc.symm).trans (put_self ..)
    exact congrArg (fun v => { ledger s with closing := v }) same.symm
  | cons i rest ih =>
    obtain ⟨hi, hr⟩ := List.nodup_cons.mp hl
    obtain ⟨x, hx, xw, xs⟩ := jobs i List.mem_cons_self
    obtain ⟨j, hj, rfl⟩ := Option.map_eq_some_iff.mp hx
    have one := finishJob_unstated hj xw hc xs hn hd .withdrawn 0
    have closing : (finishJob i .withdrawn 0 s).closing = put s.closing w (some { c with openJobs := c.openJobs - 1 }) :=
      congrArg Ledger.closing one
    have current : (finishJob i .withdrawn 0 s).current = s.current := congrArg Ledger.current one
    have cashUps : (finishJob i .withdrawn 0 s).cashUps = s.cashUps := congrArg Ledger.cashUps one
    have later := ih (s := finishJob i .withdrawn 0 s) (c := { c with openJobs := c.openJobs - 1 }) hr (fun k hk => by
      have other : k ∉ [i] := fun e => hi (List.mem_singleton.mp e ▸ hk)
      rw [(withdrawn_finishJob i s).jobs, if_neg other]
      exact jobs k (List.mem_cons_of_mem i hk)) (by rw [closing, put_get_self]) (by rw [current]; exact hn)
      (by rw [cashUps]; exact hd)
    have fewer : c.openJobs - 1 - rest.length = c.openJobs - (rest.length + 1) := by omega
    refine later.trans ?_
    rw [closing, put_put, List.length_cons]
    dsimp only
    rw [fewer, one]
    rfl

end

end Sys2Proof.Machine
end

section
/-! PROOF. CASH-UP (R156 to R158): a shift closed, stated or refused, and the statement that a job's end brings (R159). -/

namespace Sys2Proof.Machine

section
variable {s t : State} {n : SlipId} {tag : Word} {r : CashUpRequest} {w : WindowId} {c : Tally} {d : PendingCashUp}
  {withdraw : Bool}

/-! ### The slip -/

/-- The cash-up that a CASH-UP slip asks for (R155, R156). -/
def askedCashUp (n : SlipId) (tag : Word) (r : CashUpRequest) : PendingCashUp :=
  { slip := n, tag := tag, declaredCash := r.declaredCash.toNat, declaredWarrants := r.declaredWarrants.toNat }

theorem cashUpBad_none (hw : r.window.toNat = w.val) (hy : yesNo r.withdrawUnsent = some withdraw) :
    cashUpBad r = none := by
  simp [cashUpBad, firstBad, windowOf_eq hw, hy]

/-- No shift of the window is closed. -/
theorem cashUpWork_open (hw : r.window.toNat = w.val) (hy : yesNo r.withdrawUnsent = some withdraw)
    (hc : s.closing[w] = none) : cashUpWork tag r n s = closeShift w withdraw (askedCashUp n tag r) s := by
  unfold cashUpWork
  rw [cashUpBad_none hw hy, windowOf_eq hw, hy]
  dsimp only
  rw [hc]
  rfl

/-- A closed shift of the window awaits its statement (R157). -/
theorem cashUpWork_closed (hw : r.window.toNat = w.val) (hy : yesNo r.withdrawUnsent = some withdraw)
    (hc : s.closing[w] = some c) : cashUpWork tag r n s =
      if 0 < c.openJobs then addReturn n tag .busy (detailOf (c.shift + 65536 * c.openJobs)) [] s
      else produceStatement w (askedCashUp n tag r) s := by
  unfold cashUpWork
  rw [cashUpBad_none hw hy, windowOf_eq hw, hy]
  dsimp only
  rw [hc]
  rfl

/-! ### The close of a shift (R59, R158) -/

/-- No shift has the number of the one before it. -/
theorem nextShift_ne (shift : Nat) : nextShift shift ≠ shift := by
  unfold nextShift
  split <;> omega

/-- The tally of the shift that a CASH-UP closes, its open jobs counted anew (R158). -/
def closedTally (s : State) (w : WindowId) (count : Nat) : Tally := { s.current[w] with openJobs := count }

/-- The window's next shift (R59). -/
def openedTally (s : State) (w : WindowId) : Tally := .opened (nextShift s.current[w].shift) s.windows[w].float

/-- Steps 1 and 2 of R158. -/
def shiftClosed (w : WindowId) (s : State) : State :=
  { s with
    closing := put s.closing w (some (closedTally s w (jobCount s w)))
    current := put s.current w (openedTally s w) }

theorem countClosing_shiftOpen (w : WindowId) (s : State) : countClosing w (shiftOpen w s) = shiftClosed w s := by
  unfold countClosing shiftOpen
  dsimp only
  rw [upd_put]
  rfl

theorem closeShift_kept (w : WindowId) (d : PendingCashUp) (s : State) :
    closeShift w false d s = awaitStatement w d (shiftClosed w s) := by
  rw [← countClosing_shiftOpen]
  rfl

theorem closeShift_withdrawn (w : WindowId) (d : PendingCashUp) (s : State) : closeShift w true d s =
    awaitStatement w d (finishJobs .withdrawn 0 (unsentJobs s w fun j => j.shift == s.current[w].shift)
      (shiftClosed w s)) := by
  rw [← countClosing_shiftOpen]
  rfl

theorem awaitStatement_pending (hc : s.closing[w] = some c) (h : 0 < c.openJobs) (d : PendingCashUp) :
    awaitStatement w d s = { s with cashUps := put s.cashUps w (some d) } := by
  unfold awaitStatement
  rw [hc]
  exact if_pos h

theorem awaitStatement_due (hc : s.closing[w] = some c) (h : c.openJobs = 0) (d : PendingCashUp) :
    awaitStatement w d s = produceStatement w d s := by
  unfold awaitStatement
  rw [hc]
  exact if_neg (by omega)

/-! ### The jobs withdrawn -/

/-- The unsent jobs of a window's shift are of that window and shift, each listed once. -/
theorem unsentJobs_places (place : PlaceLaw s) (w : WindowId) (shift : Nat) :
    (unsentJobs s w (·.shift == shift)).Nodup ∧ ∀ i ∈ unsentJobs s w (·.shift == shift),
      ∃ x, unaged s i = some x ∧ x.window = some w ∧ x.shift = shift := by
  obtain ⟨-, queues, lists, table⟩ := place
  have picked : ∀ (i : JobIx) (j : Job) (test : Job → Bool), jobAt s i = some j → jobIs s i test = test j :=
    fun i j test hj => by
      unfold jobIs
      rw [hj]
      rfl
  have queued : ∀ i ∈ s.queues[w].filter fun i => jobIs s i (·.shift == shift), ∃ j, jobAt s i = some j ∧
      j.window = some w ∧ j.printer = none ∧ j.shift = shift := fun i hi => by
    obtain ⟨hq, ht⟩ := List.mem_filter.mp hi
    obtain ⟨j, hj, hw, hp⟩ := ((table i).1 w).mp hq
    rw [picked i j _ hj] at ht
    exact ⟨j, hj, hw, hp, by simpa using ht⟩
  have listed : ∀ (p : PrinterId), ∀ i ∈ s.printers[p].outstanding.filter fun i => isGranted s i &&
      jobIs s i fun j => j.window == some w && j.shift == shift, ∃ j, jobAt s i = some j ∧
      j.window = some w ∧ j.printer = some p ∧ j.shift = shift := fun p i hi => by
    obtain ⟨hl, ht⟩ := List.mem_filter.mp hi
    obtain ⟨j, hj, hp⟩ := ((table i).2.1 p).mp hl
    rw [picked i j _ hj, Bool.and_eq_true, Bool.and_eq_true] at ht
    exact ⟨j, hj, by simpa using ht.2.1, hp, by simpa using ht.2.2⟩
  unfold unsentJobs
  refine ⟨List.nodup_append.mpr ⟨(queues w).filter _, List.nodup_flatMap.mpr ⟨fun p _ => (lists p).filter _, ?_⟩, ?_⟩,
    fun i hi => ?_⟩
  · refine (List.nodup_finRange 16).imp fun {p q} other i hp hq => other ?_
    obtain ⟨j, hj, -, hjp, -⟩ := listed p i hp
    obtain ⟨j', hj', -, hjq, -⟩ := listed q i hq
    rw [hj] at hj'
    cases hj'
    exact Option.some.inj (hjp.symm.trans hjq)
  · intro i hi k hk e
    subst e
    obtain ⟨j, hj, -, hjp, -⟩ := queued i hi
    obtain ⟨p, -, hk⟩ := List.mem_flatMap.mp hk
    obtain ⟨j', hj', -, hjq, -⟩ := listed p i hk
    rw [hj] at hj'
    cases hj'
    rw [hjp] at hjq
    cases hjq
  · rcases List.mem_append.mp hi with hi | hi
    · obtain ⟨j, hj, hw, -, hs⟩ := queued i hi
      exact ⟨j.unaged, congrArg (Option.map Job.unaged) hj, hw, hs⟩
    · obtain ⟨p, -, hi⟩ := List.mem_flatMap.mp hi
      obtain ⟨j, hj, hw, -, hs⟩ := listed p i hi
      exact ⟨j.unaged, congrArg (Option.map Job.unaged) hj, hw, hs⟩

/-! ### CASH-UP's outcomes (R157, R158) -/

/-- The window has jobs: the closed shift waits for their ends. -/
theorem cashUpWork_waits (hw : r.window.toNat = w.val) (hy : yesNo r.withdrawUnsent = some false)
    (hc : s.closing[w] = none) (h : 0 < jobCount s w) : cashUpWork tag r n s =
      { shiftClosed w s with cashUps := put s.cashUps w (some (askedCashUp n tag r)) } := by
  rw [cashUpWork_open hw hy hc, closeShift_kept,
    awaitStatement_pending (c := closedTally s w (jobCount s w)) (put_get_self ..) h]
  rfl

/-- A statement leaves no CLOSING tally where none was before the shift closed. -/
theorem produceStatement_shiftClosed (hc : s.closing[w] = none) (v : State) (count : Nat)
    (closing : v.closing = put s.closing w (some (closedTally s w count)))
    (current : v.current = put s.current w (openedTally s w)) (d : PendingCashUp) : produceStatement w d v = { v with
      port := portWithReturn v.port (statementOf v w (closedTally s w count) (nextShift s.current[w].shift) d).1
      dayTotals := (statementOf v w (closedTally s w count) (nextShift s.current[w].shift) d).2
      closing := s.closing
      cashUps := put v.cashUps w none } := by
  have shift : v.current[w].shift = nextShift s.current[w].shift := by
    rw [current, put_get_self]
    rfl
  have gone : put v.closing w none = s.closing := by
    rw [closing, put_put, ← hc]
    exact put_self ..
  rw [produceStatement_eq (c := closedTally s w count) (by rw [closing, put_get_self]), shift, gone]

/-- The window has no job: the statement follows at once. -/
theorem cashUpWork_stated (hw : r.window.toNat = w.val) (hy : yesNo r.withdrawUnsent = some false)
    (hc : s.closing[w] = none) (h : jobCount s w = 0) : cashUpWork tag r n s =
      let stated := statementOf s w (closedTally s w 0) (nextShift s.current[w].shift) (askedCashUp n tag r)
      { s with
        port := portWithReturn s.port stated.1
        current := put s.current w (openedTally s w)
        cashUps := put s.cashUps w none
        dayTotals := stated.2 } := by
  rw [cashUpWork_open hw hy hc, closeShift_kept,
    awaitStatement_due (c := closedTally s w (jobCount s w)) (put_get_self ..) h,
    produceStatement_shiftClosed hc (shiftClosed w s) (jobCount s w) rfl rfl, h]
  rfl

/-- The wait for a statement changes no job, and adds to the Return Hold list at most. -/
theorem awaitStatement_frame (w : WindowId) (d : PendingCashUp) (s : State) :
    (awaitStatement w d s).jobs = s.jobs ∧ (awaitStatement w d s).current = s.current ∧
      s.port.returns <+: (awaitStatement w d s).port.returns := by
  unfold awaitStatement
  split
  · next c hc =>
    split
    · exact ⟨rfl, rfl, List.prefix_rfl⟩
    · rw [produceStatement_eq hc]
      exact ⟨rfl, rfl, List.prefix_append ..⟩
  · exact ⟨rfl, rfl, List.prefix_rfl⟩

/-- The state in which the shift is closed and its unsent jobs are withdrawn (R158, steps 1 to 3). -/
def unsentWithdrawn (w : WindowId) (s : State) : State :=
  finishJobs .withdrawn 0 (unsentJobs s w fun j => j.shift == s.current[w].shift) (shiftClosed w s)

theorem cashUpWork_withdraws (hw : r.window.toNat = w.val) (hy : yesNo r.withdrawUnsent = some true)
    (hc : s.closing[w] = none) : cashUpWork tag r n s =
      awaitStatement w (askedCashUp n tag r) (unsentWithdrawn w s) := by
  rw [cashUpWork_open hw hy hc, closeShift_withdrawn]
  rfl

theorem unsentWithdrawn_withdrawn (w : WindowId) (s : State) :
    Withdrawn (unsentJobs s w fun j => j.shift == s.current[w].shift) (shiftClosed w s) (unsentWithdrawn w s) :=
  withdrawn_finishJobs ..

/-- The closed shift counts the jobs that are left; no statement comes while they are withdrawn. -/
theorem unsentWithdrawn_ledger (place : PlaceLaw s) (hd : s.cashUps[w] = none) :
    ledger (unsentWithdrawn w s) = { ledger (shiftClosed w s) with
      returns := (unsentWithdrawn w s).port.returns
      closing := put s.closing w (some (closedTally s w
        (jobCount s w - (unsentJobs s w fun j => j.shift == s.current[w].shift).length))) } := by
  obtain ⟨nodup, jobs⟩ := unsentJobs_places place w s.current[w].shift
  have other : (shiftClosed w s).current[w].shift ≠ s.current[w].shift := by
    rw [show (shiftClosed w s).current[w] = openedTally s w from put_get_self ..]
    exact nextShift_ne _
  have done := withdrawn_unstated (s := shiftClosed w s) (c := closedTally s w (jobCount s w)) nodup jobs
    (put_get_self ..) other hd
  refine done.trans ?_
  unfold shiftClosed
  dsimp only
  rw [put_put]
  rfl

/-- With withdraw-unsent set: the shift's unsent jobs are withdrawn, and the statement waits or follows (R158). -/
theorem cashUpWork_unsent (hw : r.window.toNat = w.val) (hy : yesNo r.withdrawUnsent = some true)
    (hc : s.closing[w] = none) (place : PlaceLaw s) (hd : s.cashUps[w] = none) :
    let unsent := unsentJobs s w fun j => j.shift == s.current[w].shift
    let t := cashUpWork tag r n s
    let stated := statementOf s w (closedTally s w 0) (nextShift s.current[w].shift) (askedCashUp n tag r)
    (∀ i ∈ unsent, jobAt t i = none ∧ ∀ j : Job, jobAt s i = some j → withdrawnEntry s i j ∈ t.port.returns) ∧
      (∀ i, i ∉ unsent → unaged t i = unaged s i) ∧ t.current = put s.current w (openedTally s w) ∧
      (unsent.length < jobCount s w →
        t.closing = put s.closing w (some (closedTally s w (jobCount s w - unsent.length))) ∧
          t.cashUps = put s.cashUps w (some (askedCashUp n tag r)) ∧ t.dayTotals = s.dayTotals) ∧
      (unsent.length = jobCount s w → t.closing = s.closing ∧ t.cashUps = s.cashUps ∧
        t.port.returns.getLast? = some stated.1 ∧ t.dayTotals = stated.2) := by
  intro unsent t stated
  have withdraws : t = awaitStatement w (askedCashUp n tag r) (unsentWithdrawn w s) := cashUpWork_withdraws hw hy hc
  have done := unsentWithdrawn_withdrawn w s
  have books := unsentWithdrawn_ledger place hd
  generalize unsentWithdrawn w s = v at withdraws done books
  obtain ⟨jobs, current, returns⟩ := awaitStatement_frame w (askedCashUp n tag r) v
  rw [← withdraws] at jobs current returns
  have record : ∀ i, unaged t i = unaged v i := fun i =>
    congrArg (fun x : Vector JobRecord 64 => x[i].job.map Job.unaged) jobs
  have vclosing : v.closing = put s.closing w (some (closedTally s w (jobCount s w - unsent.length))) :=
    congrArg Ledger.closing books
  have vcurrent : v.current = put s.current w (openedTally s w) := congrArg Ledger.current books
  have vcashUps : v.cashUps = s.cashUps := congrArg Ledger.cashUps books
  have vtotals : v.dayTotals = s.dayTotals := congrArg Ledger.dayTotals books
  have here : v.closing[w] = some (closedTally s w (jobCount s w - unsent.length)) := by rw [vclosing, put_get_self]
  refine ⟨fun i hi => ⟨?_, fun j hj => ?_⟩, fun i hi => ?_, current.trans vcurrent, fun h => ?_, fun h => ?_⟩
  · have gone := (record i).trans (done.jobs i)
    rw [if_pos hi] at gone
    exact Option.map_eq_none_iff.mp gone
  · exact returns.subset (done.entries i hi j.unaged (congrArg (Option.map Job.unaged) hj))
  · have kept := (record i).trans (done.jobs i)
    rwa [if_neg hi] at kept
  · rw [withdraws, awaitStatement_pending here (Nat.sub_pos_of_lt h)]
    exact ⟨vclosing, congrArg (put · w _) vcashUps, vtotals⟩
  · have none : jobCount s w - unsent.length = 0 := by omega
    rw [none] at vclosing here
    rw [withdraws, awaitStatement_due here rfl, produceStatement_shiftClosed hc v 0 vclosing vcurrent,
      statementOf_congr (s := s) done.settings done.register vtotals]
    refine ⟨rfl, ?_, List.getLast?_concat, rfl⟩
    exact (congrArg (put · w Option.none) vcashUps).trans (hd ▸ put_self s.cashUps w)

theorem statementIfDue_due (hc : s.closing[w] = some c) (h : c.openJobs = 0) (hd : s.cashUps[w] = some d) :
    statementIfDue w s = produceStatement w d s := by
  unfold statementIfDue
  rw [hc, hd]
  exact if_pos h

/-- The withdrawal of a closed shift's last job brings the statement that a cash-up awaits (R159). -/
theorem finishJob_stated {i : JobIx} {j : Job} (hj : jobAt s i = some j) (hw : j.window = some w)
    (hc : s.closing[w] = some c) (hs : j.shift = c.shift) (hn : s.current[w].shift ≠ c.shift) (h : c.openJobs = 1)
    (hd : s.cashUps[w] = some d) :
    let stated := statementOf s w { c with openJobs := 0 } s.current[w].shift d
    ledger (finishJob i .withdrawn 0 s) = { ledger s with
      returns := s.port.returns ++ [withdrawnEntry s i j] ++ [stated.1]
      closing := put s.closing w none
      cashUps := put s.cashUps w none
      dayTotals := stated.2 } := by
  have entry : detailOf 0 ||| clampedBit j.clamped = clampedBit j.clamped := BitVec.zero_or
  let v : State := { returnJob i j .withdrawn 0 s with closing := put s.closing w (some { c with openJobs := 0 }) }
  have here : v.closing[w] = some { c with openJobs := 0 } := put_get_self ..
  have due : statementIfDue w v = produceStatement w d v := statementIfDue_due here rfl hd
  rw [ledger_finishJob hj hw hc hs hn, h, due, produceStatement_eq here]
  have cleared : put v.closing w none = put s.closing w none := put_put ..
  dsimp only
  rw [cleared]
  unfold v returnJob
  rw [entry]
  rfl

end

/-- Settles O45, each clause by what CASH-UP's work or VOID's comes to. -/
theorem cashUpClosesShift : Obligations.CashUpClosesShift := by
  refine ⟨fun s n tag r w hf hw hy => ?_, fun s n tag window sale w i j c d hf hw unsent hj hjw hjs hn hc h1 hd => ?_⟩
  · intro cashUp next stated
    let u : State := { s with port := portAfterTaking s.port }
    have taken : exec (.cashUp tag r) s = .next (rewriteChecks s (cashUpWork tag r n u)) := handOn_fetching _ s n hf
    have known : ∃ withdraw, yesNo r.withdrawUnsent = some withdraw := by
      rcases hy with e | e <;> rw [e] <;> exact ⟨_, rfl⟩
    refine ⟨fun hc h0 => ⟨fun h => ?_, fun h => ?_⟩, fun hc h1 place law => ?_, fun c hc h => ?_, fun c hc h => ?_⟩
    · rw [taken, cashUpWork_waits (s := u) hw (by rw [h0]; rfl) hc h]
      rfl
    · intro closed
      rw [taken, cashUpWork_stated (s := u) hw (by rw [h0]; rfl) hc h]
      rfl
    · have unpending : s.cashUps[w] = none := by
        by_contra pending
        exact (law w pending).2 hc
      exact ⟨_, taken, cashUpWork_still .., cashUpWork_unsent (s := u) hw (by rw [h1]; rfl) hc place unpending⟩
    · obtain ⟨withdraw, hy⟩ := known
      refine handOn_answers hf ?_
      rw [cashUpWork_closed (s := u) hw hy hc, if_pos h]
      rfl
    · obtain ⟨withdraw, hy⟩ := known
      rw [taken, cashUpWork_closed (s := u) hw hy hc, if_neg (by omega), produceStatement_eq (s := u) hc]
      rfl
  · intro stated printing
    let u : State := { s with port := portAfterTaking s.port }
    have taken : exec (.void tag window sale) s = .next (rewriteChecks s _) := handOn_fetching (voidWork tag window sale) s n hf
    have ended := finishJob_stated (s := u) hj hjw hc hjs hn h1 hd
    have gone := (finishJob_ends (s := u) hj .withdrawn 0).1
    have picked : unsentJobs u w (fun j => j.sale == sale) = [i] := unsent
    rw [voidWork_inRange (s := u) hw, picked] at taken
    have returns : (finishJob i .withdrawn 0 u).port.returns = _ := congrArg Ledger.returns ended
    have settings : (finishJob i .withdrawn 0 u).settings = s.settings := congrArg Ledger.settings ended
    refine ⟨_, taken, gone, congrArg Ledger.closing ended, congrArg Ledger.cashUps ended, congrArg Ledger.current ended,
      congrArg Ledger.dayTotals ended, ?_⟩
    have answer := congrArg₂ (fun (l : List ReturnEntry) (e : ReturnEntry) => l ++ [e]) returns
      (entryNow_congr settings n tag .done 0#32 [byte 1, byte printing.length])
    refine answer.trans ?_
    simp only [List.append_assoc]
    rfl

end Sys2Proof.Machine
end

section
/-! SUPPORT. What work on jobs, lists, stock and tallies leaves alone of printers, lines and their records, whatever the jobs' places
(`Steady`); and which jobs are in flight after it. -/

namespace Sys2Proof.Machine

/-- A printer without its outstanding list and its hold. -/
def Printer.standing (x : Printer) : Printer := { x with outstanding := [], hold := none }

/-- A printer's line record without its repeat job. -/
def LineRecord.standing (r : LineRecord) : LineRecord := { r with repeatJob := none }

/-- The lines, the printers but for their lists and holds, and the line records but for their repeat jobs are as they were; a
printer's mark with cause stays. -/
structure Steady (s t : State) : Prop where
  lines : t.lines = s.lines
  printers : ∀ q : PrinterId, t.printers[q].standing = s.printers[q].standing
  records : ∀ q : PrinterId, t.lineRecords[q].standing = s.lineRecords[q].standing
  marks : ∀ q : PrinterId, s.port.printerMarks[q] = .withCause → t.port.printerMarks[q] = .withCause

section
variable {s t u : State} {p : PrinterId} {i : JobIx} {w : WindowId} {j : Job} {order : List JobIx}

protected theorem Steady.refl (s : State) : Steady s s := ⟨rfl, fun _ => rfl, fun _ => rfl, fun _ => id⟩

protected theorem Steady.trans (h : Steady s t) (k : Steady t u) : Steady s u :=
  ⟨k.lines.trans h.lines, fun q => (k.printers q).trans (h.printers q), fun q => (k.records q).trans (h.records q),
    fun q => k.marks q ∘ h.marks q⟩

/-- A change of other parts of the state. -/
theorem Steady.elsewhere (h : Steady s t) (lines : u.lines = t.lines) (printers : u.printers = t.printers)
    (records : u.lineRecords = t.lineRecords) (marks : u.port.printerMarks = t.port.printerMarks) : Steady s u :=
  h.trans ⟨lines, fun _ => by rw [printers], fun _ => by rw [records], fun _ => by rw [marks]; exact id⟩

theorem Steady.state (h : Steady s t) (q : PrinterId) : t.printers[q].state = s.printers[q].state :=
  show t.printers[q].standing.state = s.printers[q].standing.state from congrArg _ (h.printers q)

theorem Steady.fault (h : Steady s t) (q : PrinterId) : t.printers[q].fault = s.printers[q].fault :=
  show t.printers[q].standing.fault = s.printers[q].standing.fault from congrArg _ (h.printers q)

theorem Steady.failures (h : Steady s t) (q : PrinterId) : t.lineRecords[q].failures = s.lineRecords[q].failures :=
  show t.lineRecords[q].standing.failures = s.lineRecords[q].standing.failures from congrArg _ (h.records q)

theorem Steady.clearRequest (h : Steady s t) (q : PrinterId) :
    t.lineRecords[q].clearRequest = s.lineRecords[q].clearRequest :=
  show t.lineRecords[q].standing.clearRequest = s.lineRecords[q].standing.clearRequest from congrArg _ (h.records q)

/-! ### Marks and records -/

protected theorem Steady.ite {c : Prop} [Decidable c] (h : Steady s t) (k : Steady s u) : Steady s (if c then t else u) := by
  split <;> assumption

protected theorem Steady.forEach {α : Type} {l : List α} {f : α → State → State} (h : Steady s t)
    (hf : ∀ a u, Steady s u → Steady s (f a u)) : Steady s (forEach l f t) := forEach_holds (Steady s) l f hf t h

protected theorem Steady.markPrinter {cause : Bool} (h : Steady s t) : Steady s (markPrinter p cause t) :=
  h.trans ⟨rfl, fun _ => rfl, fun _ => rfl, fun q hq => by
    rw [markPrinter_marks]
    split
    · exact (markSet_spec _ _).2.mpr (.inl hq)
    · exact hq⟩

protected theorem Steady.modPrinter {f : Printer → Printer} (hf : ∀ x, (f x).standing = x.standing) (h : Steady s t) :
    Steady s (modPrinter p f t) :=
  h.trans ⟨rfl, fun q => by
    rw [modPrinter_printers, upd_get]
    split
    · exact hf _
    · rfl, fun _ => rfl, fun _ => id⟩

protected theorem Steady.modLineRecord {f : LineRecord → LineRecord} (hf : ∀ r, (f r).standing = r.standing) (h : Steady s t) :
    Steady s (modLineRecord p f t) :=
  h.trans ⟨rfl, fun _ => rfl, fun q => by
    rw [modLineRecord_lineRecords, upd_get]
    split
    · exact hf _
    · rfl, fun _ => id⟩

/-! ### Lists and job records -/

protected theorem Steady.modJob {f : Job → Job} (h : Steady s t) : Steady s (modJob i f t) := h.elsewhere rfl rfl rfl rfl

protected theorem Steady.setQueue {l : List JobIx} (h : Steady s t) : Steady s (setQueue w l t) := by
  have put : Steady s { t with queues := put t.queues w l } := h.elsewhere rfl rfl rfl rfl
  unfold setQueue
  split
  · exact put.ite put.modJob
  · exact put

protected theorem Steady.leavePrinter (h : Steady s t) : Steady s (leavePrinter p i t) :=
  ((h.modPrinter (by exact fun _ => rfl)).modLineRecord (by intro r; split <;> rfl)).markPrinter

protected theorem Steady.releaseHold (h : Steady s t) : Steady s (releaseHold p t) :=
  ((h.modPrinter (by exact fun _ => rfl)).markPrinter).ite h

protected theorem Steady.requeue (h : Steady s t) : Steady s (requeue order p w i t) := h.leavePrinter.modJob.setQueue

protected theorem Steady.leaveLists (h : Steady s t) : Steady s (leaveLists i j t) := by
  unfold leaveLists
  split
  · exact h.leavePrinter
  · exact h.setQueue
  · exact h

protected theorem Steady.releaseSaleEnd (h : Steady s t) : Steady s (releaseSaleEnd j t) := by
  unfold releaseSaleEnd
  split
  · exact (h.forEach fun _ _ k => k.releaseHold).ite h
  · exact h

/-! ### Tallies and the end of a job -/

protected theorem Steady.modTally {shift : Nat} {f : Tally → Tally} (h : Steady s t) : Steady s (modTally w shift f t) := by
  obtain ⟨current, closing, e⟩ := modTally_eq w shift f t
  rw [e]
  exact h.elsewhere rfl rfl rfl rfl

protected theorem Steady.lowerOpenJobs (h : Steady s t) : Steady s (lowerOpenJobs j t) := by
  unfold lowerOpenJobs
  split
  · exact h.modTally
  · exact h

protected theorem Steady.statementAfter (h : Steady s t) : Steady s (statementAfter j t) := by
  have produced : ∀ w d, Steady s (produceStatement w d t) := fun w d => by
    unfold produceStatement
    split
    · exact h
    · exact h.elsewhere rfl rfl rfl rfl
  unfold statementAfter statementIfDue
  split
  · split
    · exact (produced ..).ite h
    · exact h
  · exact h

protected theorem Steady.finishJob {code : ResultCode} {reason : Nat} (h : Steady s t) :
    Steady s (finishJob i code reason t) := by
  unfold finishJob
  split
  · exact h
  · next j _ =>
    have returned : Steady s (returnJob i j code reason t) := h.elsewhere rfl rfl rfl rfl
    refine returned.leaveLists.releaseSaleEnd.lowerOpenJobs.statementAfter.elsewhere rfl rfl rfl ?_
    exact congrArg ExchangePort.printerMarks (modPort_port ..) |>.trans (apply_ite ..) |>.trans (ite_self _)

protected theorem Steady.sendBack {reason : Nat} (h : Steady s t) : Steady s (sendBack order p reason i t) := by
  unfold sendBack
  split
  · exact h
  · split
    · exact h.requeue
    · exact h.finishJob

protected theorem Steady.sendBackGranted (h : Steady s t) : Steady s (sendBackGranted order p t) :=
  h.forEach fun _ _ k => k.sendBack

/-! ### Stock -/

protected theorem Steady.recomputeOf (h : Steady s t) : Steady s (recomputeOf p t) := by
  obtain ⟨kinds, marks, e⟩ := recomputeOf_eq p t
  rw [e]
  exact h.elsewhere rfl rfl rfl rfl

protected theorem Steady.inDoubtBlank {n : Nat} {token : Byte} {window : Option WindowId} {shift : Nat} (h : Steady s t) :
    Steady s (inDoubtBlank p n token window shift t) := by
  have written : ∀ (m : Magazine) (v : State), Steady s v → Steady s (setMagazine p m v) := fun m v hv => by
    have put : Steady s { v with magazines := put v.magazines p m } := hv.elsewhere rfl rfl rfl rfl
    exact put.ite put.markPrinter
  exact written _ _ (h.elsewhere rfl rfl rfl rfl)

protected theorem Steady.inDoubtBooked (h : Steady s t) (ready : t.printers[p].state ≠ .ready) :
    Steady s (inDoubtBooked order p i j t) := by
  have blank : ∀ n, Steady s (magazineChanged order p (inDoubtBlank p n (tokenOf t i) j.window j.shift t)) := fun n => by
    have k : Steady t (inDoubtBlank p n (tokenOf t i) j.window j.shift t) := (Steady.refl t).inDoubtBlank
    rw [magazineChanged_not_ready (by rw [k.state]; exact ready)]
    exact (h.trans k).recomputeOf
  unfold inDoubtBooked
  dsimp only
  cases j.serial <;> dsimp only <;> split
  · exact h.modTally
  · exact h
  · exact (blank _).modTally
  · exact blank _

protected theorem Steady.endInDoubt (h : Steady s t) (ready : t.printers[p].state ≠ .ready) :
    Steady s (endInDoubt order p i t) := by
  cases hj : jobAt t i with
  | none =>
    unfold endInDoubt
    rw [hj]
    exact h
  | some j =>
    rw [endInDoubt_eq hj]
    exact (h.inDoubtBooked ready).finishJob

protected theorem Steady.forEach_endInDoubt {l : List JobIx} (h : Steady s t) (ready : t.printers[p].state ≠ .ready) :
    Steady s (forEach l (endInDoubt order p) t) :=
  h.trans (forEach_holds (Steady t) l _ (fun _ _ k => k.endInDoubt (by rw [k.state]; exact ready)) t (.refl t))

end

/-! ### Jobs in flight -/

namespace JobView

section
variable {v : JobView} {i k : JobIx} {p q : PrinterId} {w : WindowId} {order : List JobIx}

/-- A job is in flight: SENDING or SENT. -/
def flying (v : JobView) (i : JobIx) : Bool := (v.place i).any fun x => x.state == .sending || x.state == .sent

/-- The jobs in flight of a printer. -/
def flights (v : JobView) (p : PrinterId) : List JobIx := (v.lists p).filter v.flying

/-- A job not in flight leaves its printer's list. -/
theorem flights_leave (hk : v.flying k = false) (q : PrinterId) (l : List JobIx) (hl : v.lists q = l) :
    (l.filter (· != k)).filter v.flying = v.flights q := by
  subst hl
  rw [List.filter_filter]
  refine List.filter_congr fun i _ => ?_
  by_cases h : i = k
  · subst h
    simp [hk]
  · simp [h]

theorem flights_setList (hk : v.flying k = false) (p q : PrinterId) :
    ((v.setList p ((v.lists p).filter (· != k))).lists q).filter v.flying = v.flights q := by
  unfold setList
  dsimp only
  by_cases h : q = p
  · subst h
    rw [Function.update_self]
    exact flights_leave hk q _ rfl
  · rw [Function.update_of_ne h]
    rfl

theorem flying_setPlace {x : Option JobPlace} (hk : v.flying k = false)
    (hx : (x.any fun x => x.state == .sending || x.state == .sent) = false) : (v.setPlace k x).flying = v.flying := by
  funext i
  by_cases h : i = k
  · subst h
    rw [hk]
    simpa [flying, setPlace] using hx
  · simp [flying, setPlace, h]

/-- A job not in flight that leaves its printer unprinted leaves those in flight as they are. -/
theorem sendBack_flights (hk : v.flying k = false) :
    (v.sendBack order p k).flying = v.flying ∧ (v.sendBack order p k).flights = v.flights := by
  unfold sendBack
  cases hx : v.place k with
  | none => exact ⟨rfl, rfl⟩
  | some x =>
    dsimp only
    cases hw : x.window with
    | some w =>
      have flying : (v.comeBack order p w k).flying = v.flying :=
        flying_setPlace hk (by rw [hx]; rfl)
      refine ⟨flying, funext fun q => ?_⟩
      unfold flights
      rw [flying]
      exact flights_setList hk p q
    | none =>
      have flying : (v.finish k).flying = v.flying := by
        unfold finish
        rw [hx]
        refine Eq.trans (b := ((v.leave k x).setPlace k none).flying) rfl ?_
        unfold leave
        split <;> exact flying_setPlace hk rfl
      refine ⟨flying, funext fun q => ?_⟩
      unfold flights
      rw [flying]
      unfold finish leave
      rw [hx]
      dsimp only
      split
      · exact flights_setList hk _ q
      · rfl
      · rfl

/-- A job that ends is gone, and no job comes. -/
theorem finish_place (i k : JobIx) (v : JobView) : (v.finish i).place k = if k = i then none else v.place k := by
  unfold finish
  cases hi : v.place i with
  | none =>
    dsimp only
    split
    · next h => exact h ▸ hi
    · rfl
  | some x =>
    have left : (v.leave i x).place = v.place := by
      unfold leave
      split <;> rfl
    simp only [setPlace, left, Function.update_apply]

end

end JobView

section
variable {s t u : State} {p : PrinterId} {i k : JobIx} {order : List JobIx}

theorem flying_jobView (s : State) (i : JobIx) : (jobView s).flying i = inFlight s i := by
  rw [inFlight_eq]
  unfold JobView.flying jobView
  dsimp only
  cases jobAt s i <;> rfl

theorem flights_jobView (s : State) (p : PrinterId) : (jobView s).flights p = flightList s p :=
  List.filter_congr fun k _ => flying_jobView s k

/-- The jobs of a list, none in flight, leave their printer unprinted: those in flight stay. -/
theorem forEach_sendBack_flights {reason : Nat} {l : List JobIx} (hl : ∀ k ∈ l, inFlight s k = false) :
    (jobView (forEach l (sendBack order p reason) s)).flights = (jobView s).flights := by
  induction l generalizing s with
  | nil => rfl
  | cons k rest ih =>
    obtain ⟨flying, flights⟩ := JobView.sendBack_flights (order := order) (p := p)
      ((flying_jobView s k).trans (hl k List.mem_cons_self))
    rw [← jobView_sendBack order p reason] at flying flights
    refine (ih fun i hi => ?_).trans flights
    rw [← flying_jobView, flying, flying_jobView]
    exact hl i (List.mem_cons_of_mem _ hi)

theorem sendBackGranted_flights (order : List JobIx) (p : PrinterId) (s : State) :
    (jobView (sendBackGranted order p s)).flights = (jobView s).flights := by
  refine forEach_sendBack_flights fun k hk => ?_
  have granted := (List.mem_filter.mp hk).2
  unfold isGranted jobIs at granted
  rw [inFlight_eq]
  cases hj : jobAt s k with
  | none => rfl
  | some j =>
    rw [hj] at granted
    have state : j.state = .granted := by simpa using granted
    simp [Job.flying, state]

theorem jobView_inDoubtBooked {j : Job} (ready : s.printers[p].state ≠ .ready) :
    jobView (inDoubtBooked order p i j s) = jobView s := by
  have blank : ∀ n, jobView (magazineChanged order p (inDoubtBlank p n (tokenOf s i) j.window j.shift s)) = jobView s :=
    fun n => by
      have k : Steady s (inDoubtBlank p n (tokenOf s i) j.window j.shift s) := (Steady.refl s).inDoubtBlank
      rw [magazineChanged_not_ready (by rw [k.state]; exact ready), jobView_recomputeOf, jobView_inDoubtBlank]
  unfold inDoubtBooked
  dsimp only
  cases j.serial <;> dsimp only <;> split
  · exact jobView_modTally ..
  · rfl
  · exact (jobView_modTally ..).trans (blank _)
  · exact blank _

theorem jobView_endInDoubt (ready : s.printers[p].state ≠ .ready) :
    jobView (endInDoubt order p i s) = (jobView s).finish i := by
  cases hj : jobAt s i with
  | none =>
    have gone : (jobView s).place i = none := by simp [jobView, hj]
    unfold endInDoubt JobView.finish
    rw [hj, gone]
  | some j => rw [endInDoubt_eq hj, jobView_finishJob, jobView_inDoubtBooked ready]

/-- The jobs of a list returned IN_DOUBT are gone, and no job comes. -/
theorem forEach_endInDoubt_place {l : List JobIx} (ready : s.printers[p].state ≠ .ready) (k : JobIx) :
    (jobView (forEach l (endInDoubt order p) s)).place k = if k ∈ l then none else (jobView s).place k := by
  induction l generalizing s with
  | nil => rfl
  | cons i rest ih =>
    have one : Steady s (endInDoubt order p i s) := (Steady.refl s).endInDoubt ready
    refine (ih (s := endInDoubt order p i s) (by rw [one.state]; exact ready)).trans ?_
    rw [jobView_endInDoubt ready, JobView.finish_place]
    by_cases hk : k = i <;> simp [hk]

theorem jobAt_none_iff : jobAt s k = none ↔ (jobView s).place k = none := by simp [jobView]

end

end Sys2Proof.Machine
end

section
/-! PROOF. A failed exchange (R95, R97, R101): what it counts, the repeat job it keeps, and the fault LINE_SILENT at the retry limit,
which ends the printer's jobs in flight IN_DOUBT (R128). -/

namespace Sys2Proof.Machine

section
variable {s t u v : State} {p : PrinterId} {l : LineId} {x : Exchange} {i : JobIx} {j : Job} {token : Byte}
  {order : List JobIx} {f : FaultInfo}

/-! ### The count and the repeat job -/

/-- The repeat job after an exchange has failed: a PRINT's whose job is still SENDING (R101), else that of before. -/
def repeatAfter (s : State) (p : PrinterId) : CommandKind → Option Byte
  | .print token => if (sendingJob s p token).isSome then some token else s.lineRecords[p].repeatJob
  | .poll | .clear => s.lineRecords[p].repeatJob

/-- A state whose failure is counted below the limit of the printer's line. -/
def failureCounted (s : State) (p : PrinterId) (command : CommandKind) : State :=
  { s with lineRecords := put s.lineRecords p { s.lineRecords[p] with
      failures := if s.lineRecords[p].failures < s.lineConfigs[lineOfPrinter p].retryLimit
        then s.lineRecords[p].failures + 1 else s.lineRecords[p].failures
      repeatJob := repeatAfter s p command } }

/-- The fault of a silent line (R101). -/
def silentInfo (s : State) (p : PrinterId) : FaultInfo :=
  { cause := .lineSilent, flags := none, token := (silentInvolved s p).1, serial := (silentInvolved s p).2, own := false }

theorem keepForRepeat_counted (p : PrinterId) (command : CommandKind) (s : State) :
    keepForRepeat p command (modLineRecord p (fun r => { r with
      failures := if r.failures < s.lineConfigs[lineOfPrinter p].retryLimit then r.failures + 1 else r.failures }) s) =
      failureCounted s p command := by
  cases command with
  | poll => rfl
  | clear => rfl
  | print token =>
    unfold keepForRepeat failureCounted repeatAfter
    dsimp only
    rw [show ∀ f, sendingJob (modLineRecord p f s) p token = sendingJob s p token from fun _ => rfl]
    split
    · exact congrArg (fun v : Vector LineRecord 16 => { s with lineRecords := v }) (upd_put ..)
    · rfl

theorem exchangeFailed_eq (x : Exchange) (s : State) :
    let p := x.printer
    let t := failureCounted s p x.command
    exchangeFailed x s = if s.lineRecords[p].failures + 1 = s.lineConfigs[lineOfPrinter p].retryLimit
      then raiseFault s.printers[p].outstanding p (silentInfo t p) t else t := by
  have kept := keepForRepeat_counted x.printer x.command s
  unfold exchangeFailed
  dsimp only
  rw [kept]
  refine if_congr ?_ rfl rfl
  omega

theorem sendingJob_isSome (s : State) (p : PrinterId) (token : Byte) : (sendingJob s p token).isSome = true ↔
    ∃ i j, jobOfToken s token = some i ∧ i ∈ s.printers[p].outstanding ∧ jobAt s i = some j ∧ j.state = .sending := by
  unfold sendingJob jobIs
  cases jobOfToken s token with
  | none => simp
  | some i => cases hj : jobAt s i <;> simp [hj]

/-! ### The exchange ends -/

/-- A line not in a round is free when its exchange ends. -/
theorem freeLine_idle (h : s.lines[l].roll.phase ≠ .round) :
    freeLine l s = { s with lines := put s.lines l (lineFreed s.lines[l]) } := by
  unfold freeLine
  dsimp only
  rw [if_neg]
  · rfl
  · rw [modLine_lines, upd_get, if_pos rfl]
    exact h

theorem receiveNothing_awaiting (h : awaiting s l x) : receiveNothing l s = freeLine l (exchangeFailed x s) := by
  obtain ⟨-, activity, void, -⟩ := h
  unfold receiveNothing endExchange
  rw [activity]
  dsimp only
  rw [if_neg (by rw [void]; decide)]

/-- No reply, a gap and a bad frame end the exchange alike (R95, R97). -/
theorem exec_failed {bytes : List Byte} {c : Instr} (h : awaiting s l x) (discarded : receiveBytes bytes = .discarded)
    (hc : c ∈ [Instr.replyWindowExpiry l, .characterGapTimeout l, .badReply l bytes]) :
    exec c s = .next (rewriteChecks s (freeLine l (exchangeFailed x s))) := by
  have awaits : awaitsReply s l = true := by
    unfold awaitsReply
    rw [h.2.1]
  have raw : receiveRaw l bytes s = receiveNothing l s := by
    unfold receiveRaw
    rw [discarded]
  rw [← receiveNothing_awaiting h]
  simp only [List.mem_cons, List.not_mem_nil, or_false] at hc
  obtain rfl | rfl | rfl := hc
  · exact (whenLive_live _ _ h.1).trans (by rw [if_pos awaits])
  · exact whenLive_live _ _ h.1
  · exact (whenLive_live _ _ h.1).trans (by rw [if_pos awaits, raw])

/-- A failure that raises no fault: the count below the limit or past it, or the printer OFFLINE. -/
theorem exec_failed_unrecorded {bytes : List Byte} {c : Instr} (h : awaiting s l x)
    (discarded : receiveBytes bytes = .discarded)
    (hc : c ∈ [Instr.replyWindowExpiry l, .characterGapTimeout l, .badReply l bytes])
    (unrecorded : s.lineRecords[x.printer].failures + 1 ≠ s.lineConfigs[l].retryLimit ∨
      s.printers[x.printer].state = .offline) :
    exec c s = .next { failureCounted s x.printer x.command with lines := put s.lines l (lineFreed s.lines[l]) } := by
  have line := h.2.2.2.1
  subst line
  have counted : exchangeFailed x s = failureCounted s x.printer x.command := by
    rw [exchangeFailed_eq]
    split
    · next reached =>
      have offline := unrecorded.resolve_left (not_not_intro reached)
      have same : (failureCounted s x.printer x.command).printers[x.printer].state = .offline := offline
      unfold raiseFault
      rw [same]
    · rfl
  rw [exec_failed h discarded hc, counted, freeLine_idle (by exact h.2.2.2.2), rewriteChecks_same]
  · rfl
  · exact fun r => by cases r <;> rfl

/-! ### The fault of a silent line -/

theorem leaveSelection_eq (p : PrinterId) (s : State) : ∃ lines, leaveSelection p s = { s with lines := lines } := by
  unfold leaveSelection
  split
  · dsimp only
    split <;> exact ⟨_, rfl⟩
  · exact ⟨s.lines, rfl⟩

/-- What the lines exchange, and the phases of their roll calls, are as they were. -/
def Calm (s t : State) : Prop := ∀ l : LineId,
  t.lines[l].activity = s.lines[l].activity ∧ t.lines[l].roll.phase = s.lines[l].roll.phase

theorem Calm.modLine {k : LineId} {g : Line → Line} (h : Calm s t)
    (hg : ∀ y, (g y).activity = y.activity ∧ (g y).roll.phase = y.roll.phase) : Calm s (modLine k g t) := fun l => by
  rw [modLine_lines, upd_get]
  split
  · exact ⟨(hg _).1.trans (h l).1, (hg _).2.trans (h l).2⟩
  · exact h l

theorem Calm.leaveSelection (h : Calm s t) : Calm s (leaveSelection p t) := by
  unfold Machine.leaveSelection keepResult
  have left := h.modLine (k := lineOfPrinter p) (g := fun x => { x with roll := { x.roll with
    waitingSet := x.roll.waitingSet &&& ~~~addressBit (addressIx p)
    runningSet := x.roll.runningSet &&& ~~~addressBit (addressIx p)
    pendingSet := x.roll.pendingSet &&& ~~~addressBit (addressIx p)
    known := x.roll.known &&& ~~~addressBit (addressIx p) } }) fun _ => ⟨rfl, rfl⟩
  split
  · dsimp only
    split
    · exact left.modLine fun _ => ⟨rfl, rfl⟩
    · exact left
  · exact h

/-- A printer faulted for the first time, whatever its jobs' places. -/
structure FirstFaulted (p : PrinterId) (f : FaultInfo) (s t : State) : Prop where
  state : t.printers[p].state = .faulted
  fault : t.printers[p].fault = firstFault f s.printers[p] s.settings.clock
  mark : t.port.printerMarks[p] = .withCause
  records : t.lineRecords[p].standing = s.lineRecords[p].standing
  calm : Calm s t

theorem FirstFaulted.steady (h : FirstFaulted p f s t) (k : Steady t u) : FirstFaulted p f s u :=
  ⟨(k.state p).trans h.state, (k.fault p).trans h.fault, k.marks p h.mark, (k.records p).trans h.records,
    fun l => k.lines ▸ h.calm l⟩

/-- A printer faulted for the first time, its GRANTED jobs gone. -/
def faultSent (order : List JobIx) (p : PrinterId) (f : FaultInfo) (s : State) : State :=
  sendBackGranted order p (enterState order p .faulted (faultNoted p (fun x => firstFault f x s.settings.clock) s))

theorem faultStarted_eq (order : List JobIx) (p : PrinterId) (f : FaultInfo) (s : State) : faultStarted order p f s =
    if f.own then faultSent order p f s else leaveSelection p (faultSent order p f s) := rfl

/-- The printer as it is faulted, before its GRANTED jobs go. -/
def faultWritten (p : PrinterId) (f : FaultInfo) (s : State) : State :=
  faultEntered p (faultNoted p (fun x => firstFault f x s.settings.clock) s)

theorem faultWritten_printers (p q : PrinterId) (f : FaultInfo) (s : State) : (faultWritten p f s).printers[q] =
    if p = q then { s.printers[q] with
      fault := firstFault f s.printers[q] s.settings.clock, notReady := none, state := .faulted } else s.printers[q] := by
  unfold faultWritten
  rw [faultEntered_printers, faultNoted_printers]
  split <;> rfl

theorem faultSent_steady (order : List JobIx) (p : PrinterId) (f : FaultInfo) (s : State) :
    Steady (faultWritten p f s) (faultSent order p f s) :=
  ((Steady.refl (faultWritten p f s)).releaseHold.sendBackGranted.ite (Steady.refl _)).recomputeOf.sendBackGranted

theorem faultStarted_first (order : List JobIx) (p : PrinterId) (f : FaultInfo) (s : State) :
    FirstFaulted p f s (faultStarted order p f s) := by
  have written : FirstFaulted p f s (faultWritten p f s) :=
    ⟨by rw [faultWritten_printers, if_pos rfl], by rw [faultWritten_printers, if_pos rfl],
      faultEntered_mark (faultNoted_mark ..), rfl, fun _ => ⟨rfl, rfl⟩⟩
  have sent := written.steady (faultSent_steady order p f s)
  rw [faultStarted_eq]
  split
  · exact sent
  · have calm := sent.calm.leaveSelection (p := p)
    obtain ⟨lines, e⟩ := leaveSelection_eq p (faultSent order p f s)
    rw [e] at calm ⊢
    exact ⟨sent.state, sent.fault, sent.mark, sent.records, calm⟩

/-- The jobs in flight stay while their printer is faulted. -/
theorem faultStarted_flightList (order : List JobIx) (p : PrinterId) (f : FaultInfo) (s : State) :
    flightList (faultStarted order p f s) p = flightList s p := by
  let noted := faultNoted p (fun x => firstFault f x s.settings.clock) s
  have noted_same : jobView (modPrinter p (fun x => { x with
      fault := firstFault f x s.settings.clock, notReady := none }) s) = jobView s := jobView_modPrinter fun _ => rfl
  have entered_same : jobView (modPrinter p (fun x => { x with state := .faulted, spoilRun := x.spoilRun }) noted) =
      jobView noted := jobView_modPrinter fun _ => rfl
  have sent : (jobView (faultSent order p f s)).flights = (jobView s).flights := by
    unfold faultSent
    rw [sendBackGranted_flights, ← entered_same.trans noted_same]
    refine (congrArg JobView.flights (jobView_recomputeOf ..)).trans ?_
    split
    · rw [sendBackGranted_flights, jobView_releaseHold]
      rfl
    · rfl
  rw [← flights_jobView, ← flights_jobView, ← sent, faultStarted_eq]
  split
  · rfl
  · rw [jobView_leaveSelection]

/-- A printer in service (R117). -/
abbrev Printer.serving (x : Printer) : Prop := x.state = .ready ∨ x.state = .empty ∨ x.state = .recovering

theorem raiseFault_lineSilent (hs : s.printers[p].serving) (hf : f.cause = .lineSilent) :
    let v := faultStarted order p f s
    raiseFault order p f s = forEach (bySerial v (flightList v p)) (endInDoubt order p) v := by
  unfold raiseFault
  split
  case h_1 e | h_2 e | h_3 e => exact absurd hs (by rw [Printer.serving, e]; decide)
  all_goals
    rw [hf]
    rfl

/-- The fault of a silent line stands in the printer's record, and its jobs in flight are gone. -/
theorem raiseFault_first (hs : s.printers[p].serving) (hf : f.cause = .lineSilent) :
    FirstFaulted p f s (raiseFault order p f s) ∧
      ∀ i ∈ s.printers[p].outstanding, inFlight s i = true → jobAt (raiseFault order p f s) i = none := by
  have first := faultStarted_first order p f s
  have ready : (faultStarted order p f s).printers[p].state ≠ .ready := by
    rw [first.state]
    decide
  rw [raiseFault_lineSilent hs hf]
  refine ⟨first.steady ((Steady.refl _).forEach_endInDoubt ready), fun i hi flying => ?_⟩
  rw [jobAt_none_iff, forEach_endInDoubt_place ready, if_pos]
  rw [mem_bySerial, faultStarted_flightList]
  exact mem_flightList.mpr ⟨hi, flying⟩

/-! ### What its IN_DOUBT returns write (R128, R142) -/

/-- The jobs of a list returned IN_DOUBT in its order, on a printer that is not READY. -/
theorem inDoubtEffects_of_jobs {l : List (JobIx × Job)} (hl : (l.map (·.1)).Nodup) (ready : s.printers[p].state ≠ .ready)
    (apart : Apart (fun k => decide (k ∈ l.map (·.1))) p [] s)
    (jobs : ∀ x ∈ l, jobAt s x.1 = some x.2 ∧ x.2.serial ≠ none) :
    InDoubtEffects s (forEach (l.map (·.1)) (endInDoubt order p) s) p l := by
  induction l generalizing s with
  | nil => exact inDoubtEffects_nil p s
  | cons x rest ih =>
    obtain ⟨i, j⟩ := x
    obtain ⟨hi, hr⟩ := List.nodup_cons.mp hl
    obtain ⟨hj, hn⟩ := jobs (i, j) List.mem_cons_self
    obtain ⟨n, hn⟩ := Option.ne_none_iff_exists'.mp hn
    have less : Apart (fun k => decide (k ∈ rest.map (·.1))) p [] s :=
      apart.mono (fun k hk => by simp_all) fun _ hw => hw
    have step : Spares (fun k => decide (k ∈ rest.map (·.1))) p [] s (endInDoubt order p i s) :=
      (Spares.refl less).endInDoubt (decide_eq_false hi) (.inr ready)
    have ready' : (endInDoubt order p i s).printers[p].state ≠ .ready := step.state ▸ ready
    obtain ⟨spares, -⟩ := forEach_endInDoubt (order := order) hr ready' step.apart
    have one := endInDoubt_one ready hj hn step.tokens
    refine inDoubtEffects_cons one hn (ih hr ready' step.apart fun x hx => ?_) (spares.freed i one.freed)
    obtain ⟨hx', hn'⟩ := jobs x (List.mem_cons_of_mem _ hx)
    exact ⟨(step.jobs x.1 (decide_eq_true (List.mem_map_of_mem hx))).trans hx', hn'⟩

/-- From a state in which the ends of a fault's jobs in flight begin. -/
theorem Faulting.effects {record : FaultRecord} {l : List (JobIx × Job)} (h : Faulting p [] record s v) (place : PlaceLaw s)
    (hl : InFlightInOrder s p l) :
    InDoubtEffects s (forEach (bySerial v (flightList v p)) (endInDoubt order p) v) p l := by
  obtain ⟨perm, jobs, sorted⟩ := hl
  have there : ∀ x ∈ l, jobAt v x.1 = some x.2 ∧ x.2.serial ≠ none := fun x hx => by
    obtain ⟨hj, hn⟩ := jobs x hx
    exact ⟨(h.jobs x.1 (perm.mem_iff.mp (List.mem_map_of_mem hx))).trans hj, hn⟩
  have key : ∀ x ∈ l, serialKey v x.1 = x.2.serial.getD 0 := fun x hx => by
    unfold serialKey serialOf
    rw [(there x hx).1]
    rfl
  have inOrder : bySerial v (flightList v p) = l.map (·.1) := by
    refine bySerial_eq (h.flights ▸ perm) (List.pairwise_map.mpr (sorted.imp_of_mem fun ha hb hab => ?_))
    rwa [key _ ha, key _ hb]
  have ready : v.printers[p].state ≠ .ready := by
    rw [h.state]
    decide
  have apart : Apart (fun k => decide (k ∈ l.map (·.1))) p [] v :=
    h.apart.mono (fun k hk => by simpa only [perm.mem_iff] using hk) fun _ hw => hw
  rw [inOrder]
  exact (inDoubtEffects_of_jobs (perm.nodup_iff.mpr ((place.2.2.1 p).filter _)) ready apart there).earlier h.books
    (congrArg Still.settings h.still) h.tokens h.work.port

theorem raiseFault_effects {l : List (JobIx × Job)} (hs : s.printers[p].serving) (hf : f.cause = .lineSilent) (place : PlaceLaw s)
    (hl : InFlightInOrder s p l) : InDoubtEffects s (raiseFault order p f s) p l := by
  have unfaulted : s.printers[p].state ≠ .faulted := by
    rcases hs with e | e | e <;> rw [e] <;> decide
  have apart : Apart (fun k => decide (k ∈ flightList s p)) p [] s :=
    (place.apart (W := []) (fun _ hw => absurd hw List.not_mem_nil) p).mono (fun k hk => decide_eq_false fun hm =>
      absurd (mem_flightList.mp hm).1 (of_decide_eq_false hk)) fun _ hw => hw
  rw [raiseFault_lineSilent hs hf]
  exact (faultStarted_faulting (order := order) (f := f) unfaulted apart).effects place hl

/-! ### The job a silent line involves -/

theorem silentInvolved_oldest (h : s.lineRecords[p].repeatJob = none) : silentInvolved s p = oldestInFlight s p := by
  unfold silentInvolved repeatJobOf
  rw [h]

theorem tokenOf_injective {k : JobIx} (h : tokenOf s k = tokenOf s i) : k = i := by
  have hk := s.jobs[k].generation.isLt
  have hi := s.jobs[i].generation.isLt
  have values := congrArg BitVec.toNat h
  unfold tokenOf at values
  rw [BitVec.toNat_ofNat, BitVec.toNat_ofNat] at values
  exact Fin.ext (by omega)

theorem silentInvolved_repeat (h : s.lineRecords[p].repeatJob = some token) (hi : tokenOf s i = token)
    (listed : i ∈ s.printers[p].outstanding) : silentInvolved s p = (some token, serialOf s i) := by
  subst hi
  have found : repeatJobOf s p = some i := by
    unfold repeatJobOf firstWhere
    rw [h]
    dsimp only
    cases hf : s.printers[p].outstanding.find? fun k => tokenOf s k == tokenOf s i with
    | none => exact absurd (List.find?_eq_none.mp hf i listed) (by simp)
    | some k => exact congrArg some (tokenOf_injective (by simpa using List.find?_some hf))
  unfold silentInvolved
  rw [found]

/-! ### The retry limit (R101) -/

/-- After the failure that reaches the retry limit: the line is free, the printer faulted LINE_SILENT, its jobs in flight ended. -/
structure Silenced (p : PrinterId) (l : LineId) (token : Option Byte) (serial : Option Nat) (s t : State) : Prop where
  activity : t.lines[l].activity = .free
  failures : t.lineRecords[p].failures = s.lineConfigs[l].retryLimit
  clearRequest : t.lineRecords[p].clearRequest = s.lineRecords[p].clearRequest
  state : t.printers[p].state = .faulted
  fault : t.printers[p].fault = firstFault { cause := .lineSilent, flags := none, token, serial, own := false }
    s.printers[p] s.settings.clock
  mark : t.port.printerMarks[p] = .withCause
  gone : ∀ i ∈ s.printers[p].outstanding, inFlight s i = true → jobAt t i = none
  effects : PlaceLaw s → ∀ l : List (JobIx × Job), InFlightInOrder s p l → InDoubtEffects s t p l

theorem exec_failed_silent {bytes : List Byte} {c : Instr} {serial : Option Nat} {token : Option Byte} (h : awaiting s l x)
    (discarded : receiveBytes bytes = .discarded)
    (hc : c ∈ [Instr.replyWindowExpiry l, .characterGapTimeout l, .badReply l bytes])
    (reached : s.lineRecords[x.printer].failures + 1 = s.lineConfigs[l].retryLimit) (hs : s.printers[x.printer].serving)
    (who : silentInvolved (failureCounted s x.printer x.command) x.printer = (token, serial)) :
    ∃ t, exec c s = .next t ∧ Silenced x.printer l token serial s t := by
  have line := h.2.2.2.1
  have idle := h.2.2.2.2
  subst line
  let p := x.printer
  let counted := failureCounted s p x.command
  let f := silentInfo counted p
  let u := raiseFault s.printers[p].outstanding p f counted
  have failed : exchangeFailed x s = u := by
    rw [exchangeFailed_eq, if_pos reached]
  have service : counted.printers[p].serving := hs
  obtain ⟨first, gone⟩ := raiseFault_first (order := s.printers[p].outstanding) (f := f) service rfl
  have counts : counted.lineRecords[p].failures = s.lineConfigs[lineOfPrinter p].retryLimit ∧
      counted.lineRecords[p].clearRequest = s.lineRecords[p].clearRequest := by
    unfold counted failureCounted
    rw [put_get_self]
    exact ⟨(if_pos (Nat.lt_of_succ_le reached.le)).trans reached, rfl⟩
  have info : f = { cause := .lineSilent, flags := none, token, serial, own := false } := by
    unfold f silentInfo
    rw [who]
  refine ⟨_, exec_failed h discarded hc, ?_⟩
  rw [failed, freeLine_idle (by rw [(first.calm _).2]; exact idle)]
  refine ⟨?_, ?_, ?_, first.state, info ▸ first.fault, first.mark, gone, fun place l hl => ?_⟩
  · exact congrArg Line.activity (put_get_self ..)
  · exact (show u.lineRecords[p].standing.failures = counted.lineRecords[p].standing.failures
      from congrArg _ first.records).trans counts.1
  · exact (show u.lineRecords[p].standing.clearRequest = counted.lineRecords[p].standing.clearRequest
      from congrArg _ first.records).trans counts.2
  · have effects : InDoubtEffects s u p l := raiseFault_effects (s := counted) service rfl place hl
    exact effects.later rfl (fun _ => id) ((Work.refl u).same rfl rfl rfl)

theorem repeatAfter_poll_clear {command : CommandKind} (h : command = .poll ∨ command = .clear) (s : State) (p : PrinterId) :
    repeatAfter s p command = s.lineRecords[p].repeatJob := by
  rcases h with rfl | rfl <;> rfl

end

/-- Settles O57: a failure is counted, or it reaches the limit and faults the printer, by the job the fault involves. -/
theorem failedExchangeCounts : Obligations.FailedExchangeCounts := by
  refine ⟨fun s l bytes => rfl, fun s l x bytes c h discarded hc => ?_⟩
  intro p record limit failed unrecorded silent inService
  have counts : ∀ keeps, repeatAfter s p x.command = keeps → unrecorded → exec c s = .next (failed keeps) := by
    rintro keeps rfl quiet
    have line := h.2.2.2.1
    subst line
    exact exec_failed_unrecorded h discarded hc quiet
  have faults : ∀ token serial, record.failures + 1 = limit → inService →
      silentInvolved (failureCounted s p x.command) p = (token, serial) →
      ∃ t, exec c s = .next t ∧ silent t token serial := by
    intro token serial reached service who
    obtain ⟨t, next, silenced⟩ := exec_failed_silent h discarded hc reached service who
    refine ⟨t, next, silenced.activity, silenced.failures, silenced.clearRequest, silenced.state, ?_, ?_, ?_, ?_, ?_,
      silenced.mark, silenced.gone, silenced.effects⟩
    all_goals
      rw [silenced.fault]
      rfl
  refine ⟨fun command => ⟨counts _ (repeatAfter_poll_clear command s p), fun reached service none => ?_⟩,
    fun token command => ⟨fun i j hi listed hj sending => ?_, fun others => counts _ ?_⟩⟩
  · have kept : (failureCounted s p x.command).lineRecords[p].repeatJob = .none := by
      unfold failureCounted
      rw [put_get_self]
      exact (repeatAfter_poll_clear command s p).trans none
    have oldest : silentInvolved (failureCounted s p x.command) p = oldestInFlight s p := silentInvolved_oldest kept
    refine ⟨fun i rest flights => faults _ _ reached service (oldest.trans ?_),
      fun flights => faults _ _ reached service (oldest.trans ?_)⟩
    all_goals
      unfold oldestInFlight
      rw [flights]
  · have kept : repeatAfter s p x.command = some token := by
      unfold repeatAfter
      rw [command]
      exact if_pos ((sendingJob_isSome s p token).mpr ⟨i, j, hi, listed, hj, sending⟩)
    refine ⟨counts _ kept, fun reached service => faults _ _ reached service ?_⟩
    have repeats : (failureCounted s p x.command).lineRecords[p].repeatJob = some token := by
      unfold failureCounted
      rw [put_get_self]
      exact kept
    have serial : serialOf s i = j.serial := by
      unfold serialOf
      rw [hj]
      rfl
    have hi' : tokenOf (failureCounted s p x.command) i = token := ((jobOfToken_eq_some s token i).mp hi).2
    exact (silentInvolved_repeat repeats hi' listed).trans (congrArg (some token, ·) serial)
  · unfold repeatAfter
    rw [command]
    refine if_neg fun some => ?_
    obtain ⟨i, j, hi, listed, hj, sending⟩ := (sendingJob_isSome s p token).mp some
    exact others i j hi listed hj sending

end Sys2Proof.Machine
end

section
/-! PROOF. The completion of a warm start (R173 to R175): what the notes turned in doubt write in magazines, register, Day Totals and
tallies (R142, R152, R165, R64). -/

namespace Sys2Proof.Machine

/-! ### Amounts in doubt -/

/-- The first of a tender's amounts in doubt, then the rest. -/
theorem inDoubtTally_first (x : Tender) (amount : Nat) (rest : Tender → List Nat) (c : Tally) :
    inDoubtTally c (fun y => if y = x then amount :: rest y else rest y) = inDoubtTally (addInDoubt x amount c) rest := by
  cases x <;>
    simp [inDoubtTally, columnsOf, withColumns, addInDoubt, noteSaturation, inDoubtColumns_cons, inDoubtOverflows_cons,
      columnsAfter] <;>
    ac_rfl

/-- A tally after a note's amount is noted (R64); a test print's note has none. -/
def noteTally (n : Note) (c : Tally) : Tally :=
  match n.tender with
  | some x => addInDoubt x n.amount c
  | none => c

theorem noteTally_shift (n : Note) (c : Tally) : (noteTally n c).shift = c.shift := by
  unfold noteTally
  split
  · next x _ => cases x <;> rfl
  · rfl

/-- The amounts of a shift's notes, by tender. -/
def shiftAmounts (l : List (PrinterId × Note)) (w : WindowId) (shift : Nat) (x : Tender) : List Nat :=
  (l.filter fun y => decide (y.2.window = some w ∧ y.2.shift = shift ∧ y.2.tender = some x)).map (·.2.amount)

theorem inDoubtTally_nil_amounts (w : WindowId) (shift : Nat) (c : Tally) : inDoubtTally c (shiftAmounts [] w shift) = c := by
  simp [inDoubtTally, inDoubtColumns, inDoubtOverflows, shiftAmounts]

/-- A tally after the notes of its shift, the first of them apart. -/
theorem inDoubtTally_notes (y : PrinterId × Note) (l : List (PrinterId × Note)) (w : WindowId) (c : Tally) :
    inDoubtTally c (shiftAmounts (y :: l) w c.shift) =
      inDoubtTally (if y.2.window = some w ∧ y.2.shift = c.shift then noteTally y.2 c else c) (shiftAmounts l w c.shift) := by
  by_cases own : y.2.window = some w ∧ y.2.shift = c.shift
  · rw [if_pos own]
    unfold noteTally
    cases ht : y.2.tender with
    | none =>
      have same : shiftAmounts (y :: l) w c.shift = shiftAmounts l w c.shift := by
        funext x
        simp [shiftAmounts, ht]
      rw [same]
    | some x =>
      dsimp only
      rw [← inDoubtTally_first]
      congr 1
      funext z
      by_cases hz : z = x
      · subst hz
        simp [shiftAmounts, own, ht]
      · have : ¬x = z := fun e => hz e.symm
        simp [shiftAmounts, ht, hz, this]
  · have same : shiftAmounts (y :: l) w c.shift = shiftAmounts l w c.shift := by
      funext x
      unfold shiftAmounts
      rw [List.filter_cons_of_neg]
      exact fun h => own ⟨(of_decide_eq_true h).1, (of_decide_eq_true h).2.1⟩
    rw [if_neg own, same]

/-! ### One note -/

/-- The tally of a note's shift after its amount is noted. -/
def noteTallied (n : Note) (s : State) : State :=
  match n.window with
  | some w => modTally w n.shift (noteTally n) s
  | none => s

section
variable {s t u : State} {p : PrinterId} {n : Note} {w : WindowId} {c : Tally}

theorem noteTallied_eq (n : Note) (s : State) :
    ∃ current closing, noteTallied n s = { s with current := current, closing := closing } := by
  unfold noteTallied
  split
  · exact modTally_eq ..
  · exact ⟨s.current, s.closing, rfl⟩

theorem noteTallied_current (n : Note) (s : State) (w : WindowId) : (noteTallied n s).current[w] =
    if n.window = some w ∧ n.shift = s.current[w].shift then noteTally n s.current[w] else s.current[w] := by
  unfold noteTallied
  cases n.window with
  | none => simp
  | some v =>
    dsimp only
    rw [modTally_current]
    refine if_congr ?_ rfl rfl
    constructor
    · rintro ⟨rfl, e⟩
      exact ⟨rfl, e.symm⟩
    · rintro ⟨e, hs⟩
      cases e
      exact ⟨rfl, hs.symm⟩

theorem modTally_closing_none {v : WindowId} {shift : Nat} {f : Tally → Tally} (h : s.closing[w] = none) :
    (modTally v shift f s).closing[w] = none := by
  unfold modTally
  split
  · exact h
  · cases ht : s.closing[v] with
    | none => exact h
    | some t =>
      have other : v ≠ w := fun e => by
        rw [e, h] at ht
        cases ht
      dsimp only
      split
      · exact (put_get_other _ _ _ _ other).trans h
      · exact h

theorem noteTallied_closing_none (h : s.closing[w] = none) : (noteTallied n s).closing[w] = none := by
  unfold noteTallied
  split
  · exact modTally_closing_none h
  · exact h

theorem noteTallied_closing (h : s.closing[w] = some c) (hc : c.shift ≠ s.current[w].shift) :
    (noteTallied n s).closing[w] = some (if n.window = some w ∧ n.shift = c.shift then noteTally n c else c) := by
  unfold noteTallied
  cases n.window with
  | none => simpa using h
  | some v =>
    dsimp only
    rw [modTally_closing h hc]
    refine congrArg some (if_congr ?_ rfl rfl)
    constructor
    · rintro ⟨rfl, e⟩
      exact ⟨rfl, e.symm⟩
    · rintro ⟨e, hs⟩
      cases e
      exact ⟨rfl, hs.symm⟩

/-- A blank turned in doubt, as one next state but for a mark (R142, R152, R165). -/
theorem inDoubtBlank_eq (p : PrinterId) (serial : Nat) (token : Byte) (window : Option WindowId) (shift : Nat) (s : State) :
    ∃ marks, inDoubtBlank p serial token window shift s = { s with
      magazines := put s.magazines p (magazineAfter token serial s.magazines[p])
      register := addEntry (inDoubtEntry s p serial window shift) s.register
      dayTotals := countSpoils .inDoubt 1 s.dayTotals
      port := { s.port with printerMarks := marks } } :=
  setMagazine_eq p (magazineAfter token serial s.magazines[p]) (disposeBlank p serial window shift .inDoubt .inDoubt s)

theorem settleNote_eq (p : PrinterId) (n : Note) (s : State) :
    settleNote p n s = noteTallied n (inDoubtBlank p n.serial n.token n.window n.shift s) := by
  unfold settleNote noteTallied noteTally
  cases n.window with
  | none => rfl
  | some w =>
    cases n.tender with
    | some x => rfl
    | none => exact (modTally_id w n.shift _).symm

/-- What one note turned in doubt writes. -/
structure NoteSettled (p : PrinterId) (n : Note) (s t : State) : Prop where
  magazines : t.magazines = put s.magazines p (magazineAfter n.token n.serial s.magazines[p])
  register : t.register = addEntry (inDoubtEntry s p n.serial n.window n.shift) s.register
  dayTotals : t.dayTotals = countSpoils .inDoubt 1 s.dayTotals
  current : ∀ w : WindowId, t.current[w] =
    if n.window = some w ∧ n.shift = s.current[w].shift then noteTally n s.current[w] else s.current[w]
  unclosed : ∀ w : WindowId, s.closing[w] = none → t.closing[w] = none
  closing : ∀ (w : WindowId) (c : Tally), s.closing[w] = some c → c.shift ≠ s.current[w].shift →
    t.closing[w] = some (if n.window = some w ∧ n.shift = c.shift then noteTally n c else c)
  printers : t.printers = s.printers
  lines : t.lines = s.lines
  settings : t.settings = s.settings

theorem noteSettled (p : PrinterId) (n : Note) (s : State) : NoteSettled p n s (settleNote p n s) := by
  obtain ⟨marks, e⟩ := inDoubtBlank_eq p n.serial n.token n.window n.shift s
  obtain ⟨current, closing, e'⟩ := noteTallied_eq n (inDoubtBlank p n.serial n.token n.window n.shift s)
  rw [settleNote_eq]
  refine ⟨?_, ?_, ?_, fun w => ?_, fun w hw => ?_, fun w c hw hc => ?_, ?_, ?_, ?_⟩
  · rw [e', e]
  · rw [e', e]
  · rw [e', e]
  · rw [noteTallied_current, e]
  · exact noteTallied_closing_none (by rw [e]; exact hw)
  · exact noteTallied_closing (by rw [e]; exact hw) (by rw [e]; exact hc)
  all_goals rw [e', e]

/-! ### Notes one after another -/

/-- The Day Totals after some blanks are turned in doubt (R165). -/
def inDoubtCounted (count : Nat) (d : DayTotals) : DayTotals :=
  if count = 0 then d else { d with
    inDoubtSpoils := min 65535 (d.inDoubtSpoils + count)
    saturated := d.saturated || decide (65535 < d.inDoubtSpoils + count) }

theorem inDoubtCounted_succ (count : Nat) (d : DayTotals) :
    inDoubtCounted (count + 1) d = inDoubtCounted count (countSpoils .inDoubt 1 d) := by
  unfold inDoubtCounted countSpoils bump satAdd saturates
  rw [if_neg (Nat.succ_ne_zero _)]
  split
  · next zero =>
    subst zero
    rfl
  · have value : min 65535 (d.inDoubtSpoils + (count + 1)) = min 65535 (min Config.max16 (d.inDoubtSpoils + 1) + count) := by
      simp only [Config.max16]
      omega
    have flag : (d.saturated || decide (65535 < d.inDoubtSpoils + (count + 1))) =
        ((d.saturated || decide (Config.max16 < d.inDoubtSpoils + 1)) ||
          decide (65535 < min Config.max16 (d.inDoubtSpoils + 1) + count)) := by
      rw [Bool.or_assoc, ← Bool.decide_or]
      refine congrArg (d.saturated || ·) (decide_eq_decide.mpr ?_)
      simp only [Config.max16]
      omega
    rw [value, flag]

/-- What notes turned in doubt one after another write beside the magazines. -/
structure NotesSettled (l : List (PrinterId × Note)) (s t : State) : Prop where
  kinds : ∀ p : PrinterId, t.magazines[p].kind = s.magazines[p].kind
  register : t.register = l.foldl (fun r x => addEntry (inDoubtEntry s x.1 x.2.serial x.2.window x.2.shift) r) s.register
  dayTotals : t.dayTotals = inDoubtCounted l.length s.dayTotals
  current : ∀ w : WindowId, t.current[w] = inDoubtTally s.current[w] (shiftAmounts l w s.current[w].shift)
  unclosed : ∀ w : WindowId, s.closing[w] = none → t.closing[w] = none
  closing : ∀ (w : WindowId) (c : Tally), s.closing[w] = some c → c.shift ≠ s.current[w].shift →
    t.closing[w] = some (inDoubtTally c (shiftAmounts l w c.shift))
  printers : t.printers = s.printers
  lines : t.lines = s.lines
  settings : t.settings = s.settings

theorem NotesSettled.nil (s : State) : NotesSettled [] s s :=
  ⟨fun _ => rfl, rfl, rfl, fun _ => (inDoubtTally_nil_amounts ..).symm, fun _ => id,
    fun _ _ hc _ => hc.trans (congrArg some (inDoubtTally_nil_amounts ..).symm), rfl, rfl, rfl⟩

theorem NotesSettled.cons {l : List (PrinterId × Note)} (one : NoteSettled p n s t) (rest : NotesSettled l t u) :
    NotesSettled ((p, n) :: l) s u := by
  have kind : ∀ q : PrinterId, t.magazines[q].kind = s.magazines[q].kind := fun q => by
    rw [one.magazines, put_get]
    split
    · next e =>
      subst e
      rfl
    · rfl
  have shift : ∀ w : WindowId, t.current[w].shift = s.current[w].shift := fun w => by
    rw [one.current]
    split
    · exact noteTally_shift ..
    · rfl
  have entry : ∀ q a b c, inDoubtEntry t q a b c = inDoubtEntry s q a b c := fun _ _ _ _ => by
    unfold inDoubtEntry
    rw [kind, one.settings]
  have merged : ∀ (w : WindowId) (c : Tally),
      let first := if n.window = some w ∧ n.shift = c.shift then noteTally n c else c
      inDoubtTally first (shiftAmounts l w first.shift) = inDoubtTally c (shiftAmounts ((p, n) :: l) w c.shift) := by
    intro w c
    have same : (if n.window = some w ∧ n.shift = c.shift then noteTally n c else c).shift = c.shift := by
      split
      · exact noteTally_shift ..
      · rfl
    dsimp only
    rw [inDoubtTally_notes, same]
  refine ⟨fun q => (rest.kinds q).trans (kind q), ?_, ?_, fun w => ?_, fun w hw => rest.unclosed w (one.unclosed w hw),
    fun w c hw hc => ?_, rest.printers.trans one.printers, rest.lines.trans one.lines, rest.settings.trans one.settings⟩
  · rw [rest.register, one.register, List.foldl_cons]
    simp only [entry]
  · rw [rest.dayTotals, one.dayTotals, List.length_cons, inDoubtCounted_succ]
  · rw [rest.current, one.current]
    exact merged w s.current[w]
  · refine (rest.closing w _ (one.closing w c hw hc) ?_).trans (congrArg some (merged w c))
    rw [shift]
    split
    · rw [noteTally_shift]
      exact hc
    · exact hc

theorem notesSettled (l : List (PrinterId × Note)) (s : State) :
    NotesSettled l s (forEach l (fun x => settleNote x.1 x.2) s) := by
  induction l generalizing s with
  | nil => exact .nil s
  | cons x rest ih => exact .cons (noteSettled x.1 x.2 s) (ih _)

/-! ### Magazine by magazine -/

/-- A magazine after its notes are turned in doubt (R173). -/
def magazineSettled (m : Magazine) : Magazine :=
  { magazineAfterAll (m.notes.map Note.token) m.notes.length (m.notes.head?.map Note.serial) m with notes := [] }

theorem magazineAfterAll_notes (m : Magazine) :
    magazineAfterAll (m.notes.map Note.token) m.notes.length (m.notes.head?.map Note.serial) m = magazineSettled m := by
  have none : m.notes.filter (fun n => !(m.notes.map Note.token).contains n.token) = [] := by
    refine List.filter_eq_nil_iff.mpr fun n hn => ?_
    simpa using ⟨n, hn, rfl⟩
  exact congrArg (fun l => { magazineAfterAll (m.notes.map Note.token) m.notes.length (m.notes.head?.map Note.serial) m with
    notes := l }) none

theorem forEach_settleNote_magazines (p : PrinterId) (l : List Note) (s : State) :
    (forEach l (settleNote p) s).magazines =
      put s.magazines p (magazineAfterAll (l.map Note.token) l.length (l.head?.map Note.serial) s.magazines[p]) := by
  induction l generalizing s with
  | nil =>
    refine (put_self s.magazines p).symm.trans (congrArg (put s.magazines p) ?_)
    exact (magazineAfterAll_nil _).symm
  | cons n rest ih =>
    refine (ih (settleNote p n s)).trans ?_
    rw [(noteSettled p n s).magazines, put_put, put_get_self, ← magazineAfterAll_cons]
    rfl

theorem settleMagazine_magazines (p : PrinterId) (s : State) :
    (settleMagazine p s).magazines = upd s.magazines p magazineSettled :=
  (forEach_settleNote_magazines p _ s).trans (congrArg (put s.magazines p) (magazineAfterAll_notes _))

theorem forEach_settleMagazine_magazines (l : List PrinterId) (s : State) :
    (forEach l settleMagazine s).magazines = l.foldl (fun v p => upd v p magazineSettled) s.magazines := by
  induction l generalizing s with
  | nil => rfl
  | cons p rest ih => exact (ih (settleMagazine p s)).trans (by rw [settleMagazine_magazines]; rfl)

/-- The notes of the printers' magazines, one after another. -/
theorem forEach_settleMagazine {l : List PrinterId} (hl : l.Nodup) {notes : PrinterId → List Note}
    (h : ∀ p ∈ l, s.magazines[p].notes = notes p) : forEach l settleMagazine s =
      forEach (l.flatMap fun p => (notes p).map fun n => (p, n)) (fun x => settleNote x.1 x.2) s := by
  induction l generalizing s with
  | nil => rfl
  | cons p rest ih =>
    obtain ⟨hp, hr⟩ := List.nodup_cons.mp hl
    have first : settleMagazine p s = forEach ((notes p).map fun n => (p, n)) (fun x => settleNote x.1 x.2) s := by
      unfold settleMagazine forEach
      rw [h p List.mem_cons_self, List.foldl_map]
    refine (ih hr (s := settleMagazine p s) fun q hq => ?_).trans ?_
    · have other : p ≠ q := fun e => hp (e ▸ hq)
      rw [settleMagazine_magazines, upd_get, if_neg other]
      exact h q (List.mem_cons_of_mem _ hq)
    · rw [first]
      unfold forEach
      rw [List.flatMap_cons, List.foldl_append]

theorem settleMagazines_notes (s : State) : forEach (every 16) settleMagazine s =
    forEach (allNotes s) (fun x => settleNote x.1 x.2) s :=
  forEach_settleMagazine (List.nodup_finRange 16) fun _ _ => rfl

theorem settleMagazines_magazines (s : State) (p : PrinterId) :
    (forEach (every 16) settleMagazine s).magazines[p] = magazineSettled s.magazines[p] := by
  rw [forEach_settleMagazine_magazines]
  exact (upd_forEach_get _ _ (List.nodup_finRange 16) _ p).trans (if_pos (List.mem_finRange p))

end

end Sys2Proof.Machine
end

section
/-! PROOF. The completion of a warm start (R173 to R175): the faults of printers that held notes (R126, R135), the printers that recover
and the roll calls they wait for, the stock totals, and all that the start's completion leaves. -/

namespace Sys2Proof.Machine

/-! ### One step for each number -/

/-- Steps that each replace one entry of a table, one for each number of a list. -/
theorem forEach_view {α : Type} {n : Nat} {view : State → Fin n → α} {g : Fin n → α → α} {f : Fin n → State → State}
    {P : State → Prop} (h : ∀ k s, P s → P (f k s) ∧ ∀ q, view (f k s) q = if k = q then g q (view s q) else view s q)
    {l : List (Fin n)} (hl : l.Nodup) {s : State} (hs : P s) (q : Fin n) :
    view (forEach l f s) q = if q ∈ l then g q (view s q) else view s q := by
  induction l generalizing s with
  | nil => rfl
  | cons k rest ih =>
    obtain ⟨hk, hr⟩ := List.nodup_cons.mp hl
    obtain ⟨holds, one⟩ := h k s hs
    refine (ih hr holds).trans ?_
    rw [one q]
    by_cases e : k = q
    · subst e
      simp [hk]
    · have hm : q ∈ k :: rest ↔ q ∈ rest := by simp [Ne.symm e]
      simp only [e, if_false, hm]

theorem forEach_every_view {α : Type} {n : Nat} {view : State → Fin n → α} {g : Fin n → α → α} {f : Fin n → State → State}
    {P : State → Prop} (h : ∀ k s, P s → P (f k s) ∧ ∀ q, view (f k s) q = if k = q then g q (view s q) else view s q)
    {s : State} (hs : P s) (q : Fin n) : view (forEach (every n) f s) q = g q (view s q) :=
  (forEach_view h (List.nodup_finRange n) hs q).trans (if_pos (List.mem_finRange q))

section
variable {s t u : State} {p q : PrinterId} {l : LineId} {order : List JobIx} {f : FaultInfo} {clock : Word}

/-! ### The printers that held notes (R135, R174) -/

/-- The fault of a printer that held notes, with the serial of the first. -/
def restartInfo (serial : Nat) : FaultInfo :=
  { cause := .restartInDoubt, flags := none, token := none, serial := some serial, own := false }

/-- A printer after the fault for the notes it held, if it held any. -/
def holderFault (held : Option Nat) (clock : Word) (x : Printer) : Printer :=
  match held with
  | none => x
  | some serial =>
    if x.serving then { x with fault := firstFault (restartInfo serial) x clock, notReady := none, state := .faulted }
    else if x.state = .faulted then { x with fault := furtherFault (restartInfo serial) x.fault, notReady := none }
    else x

theorem holderFault_none (clock : Word) (x : Printer) : holderFault none clock x = x := rfl

theorem holderFault_serving {x : Printer} (h : x.serving) (serial : Nat) : holderFault (some serial) clock x =
    { x with fault := firstFault (restartInfo serial) x clock, notReady := none, state := .faulted } := if_pos h

theorem holderFault_faulted {x : Printer} (h : x.state = .faulted) (serial : Nat) : holderFault (some serial) clock x =
    { x with fault := furtherFault (restartInfo serial) x.fault, notReady := none } :=
  (if_neg (by rw [Printer.serving, h]; decide)).trans (if_pos h)

theorem holderFault_away {x : Printer} (h : x.state = .offline ∨ x.state = .unconfigured) (held : Option Nat) :
    holderFault held clock x = x := by
  cases held with
  | none => rfl
  | some serial =>
    refine (if_neg ?_).trans (if_neg ?_)
    all_goals rcases h with e | e <;> simp [Printer.serving, e]

theorem holderFault_frame (held : Option Nat) (clock : Word) (x : Printer) :
    (holderFault held clock x).configured = x.configured ∧ (holderFault held clock x).group = x.group := by
  unfold holderFault
  (repeat' split) <;> exact ⟨rfl, rfl⟩

/-- The fault RESTART_IN_DOUBT has no effects of its own beyond its printer's state and record. -/
theorem raiseFault_restart (hf : f.cause = .restartInDoubt) (own : f.own = false) :
    (s.printers[p].serving ∧ raiseFault order p f s = leaveSelection p (faultSent order p f s)) ∨
    (s.printers[p].state = .faulted ∧ raiseFault order p f s = faultNoted p (furtherFault f ·.fault) s) ∨
    ((s.printers[p].state = .offline ∨ s.printers[p].state = .unconfigured) ∧ raiseFault order p f s = s) := by
  have first : (if f.own then faultSent order p f s else leaveSelection p (faultSent order p f s)) =
      leaveSelection p (faultSent order p f s) := if_neg (by rw [own]; decide)
  unfold raiseFault Printer.serving
  rw [hf]
  split
  case h_1 e => exact .inr (.inr ⟨.inr e, rfl⟩)
  case h_2 e => exact .inr (.inr ⟨.inl e, rfl⟩)
  case h_3 e => exact .inr (.inl ⟨e, rfl⟩)
  case h_4 e => exact .inl ⟨.inr (.inr e), first⟩
  case h_5 e => exact .inl ⟨.inl e, first⟩
  case h_6 e => exact .inl ⟨.inr (.inl e), first⟩

theorem faultHolder_some {held : PrinterId → Option Nat} {serial : Nat} (h : held p = some serial) (s : State) :
    faultHolder held p s = raiseFault [] p (restartInfo serial) s := by
  unfold faultHolder
  rw [h]
  rfl

theorem faultHolder_none {held : PrinterId → Option Nat} (h : held p = none) (s : State) : faultHolder held p s = s := by
  unfold faultHolder
  rw [h]

theorem leaveSelection_printers (p : PrinterId) (s : State) : (leaveSelection p s).printers = s.printers := by
  obtain ⟨lines, e⟩ := leaveSelection_eq p s
  rw [e]

theorem faultHolder_printers (held : PrinterId → Option Nat) (p q : PrinterId) (s : State) :
    (faultHolder held p s).printers[q].standing =
      if p = q then holderFault (held q) s.settings.clock s.printers[q].standing else s.printers[q].standing := by
  by_cases e : p = q
  · subst e
    rw [if_pos rfl]
    cases h : held p with
    | none => rw [faultHolder_none h, holderFault_none]
    | some serial =>
      rw [faultHolder_some h]
      obtain ⟨hs, e⟩ | ⟨hs, e⟩ | ⟨hs, e⟩ := raiseFault_restart (s := s) (p := p) (order := []) (f := restartInfo serial) rfl rfl
      · rw [e, leaveSelection_printers, (faultSent_steady ..).printers, faultWritten_printers, if_pos rfl,
          holderFault_serving (by exact hs)]
        rfl
      · rw [e, faultNoted_printers, if_pos rfl, holderFault_faulted (by exact hs)]
        rfl
      · rw [e, holderFault_away (by exact hs)]
  · rw [if_neg e]
    cases h : held p with
    | none => rw [faultHolder_none h]
    | some serial =>
      rw [faultHolder_some h]
      obtain ⟨-, e'⟩ | ⟨-, e'⟩ | ⟨-, e'⟩ := raiseFault_restart (s := s) (p := p) (order := []) (f := restartInfo serial) rfl rfl
      · rw [e', leaveSelection_printers, (faultSent_steady ..).printers, faultWritten_printers, if_neg e]
      · rw [e', faultNoted_printers, if_neg e]
      · rw [e']

/-! ### Work of a fault that has no effects of its own -/

theorem books_enterState (order : List JobIx) (p : PrinterId) (new : PrinterState) (s : State) :
    books (enterState order p new s) = books s := by
  unfold enterState
  dsimp only
  rw [books_recomputeOf, books_ite, books_sendBackGranted, books_releaseHold, ite_self]
  rfl

theorem books_faultSent (order : List JobIx) (p : PrinterId) (f : FaultInfo) (s : State) :
    books (faultSent order p f s) = books s := by
  unfold faultSent
  rw [books_sendBackGranted, books_enterState]
  rfl

theorem books_faultHolder (held : PrinterId → Option Nat) (p : PrinterId) (s : State) :
    books (faultHolder held p s) = books s := by
  cases h : held p with
  | none => rw [faultHolder_none h]
  | some serial =>
    rw [faultHolder_some h]
    obtain ⟨-, e⟩ | ⟨-, e⟩ | ⟨-, e⟩ := raiseFault_restart (s := s) (p := p) (order := []) (f := restartInfo serial) rfl rfl
    · rw [e, books_leaveSelection, books_faultSent]
    · rw [e]
      rfl
    · rw [e]

theorem leaveSelection_rolls (h : s.lines[l].roll = .none) : (leaveSelection p s).lines[l].roll = .none := by
  by_cases e : lineOfPrinter p = l
  · have unselected : isSelected s p = false := by
      unfold isSelected
      subst e
      rw [h]
      simp [inMask, unresolved, RollCall.none]
    unfold leaveSelection
    rw [if_neg (by rw [unselected]; decide)]
    exact h
  · have same : ∀ (g : Line → Line) (v : State), (modLine (lineOfPrinter p) g v).lines[l] = v.lines[l] := fun g v =>
      upd_get_other _ _ _ _ e
    unfold leaveSelection keepResult
    split
    · dsimp only
      split
      · rw [same, same]
        exact h
      · rw [same]
        exact h
    · exact h

theorem faultHolder_rolls (held : PrinterId → Option Nat) (p : PrinterId) (h : s.lines[l].roll = .none) :
    (faultHolder held p s).lines[l].roll = .none := by
  cases hp : held p with
  | none => rwa [faultHolder_none hp]
  | some serial =>
    rw [faultHolder_some hp]
    obtain ⟨-, e⟩ | ⟨-, e⟩ | ⟨-, e⟩ := raiseFault_restart (s := s) (p := p) (order := []) (f := restartInfo serial) rfl rfl
    · rw [e]
      refine leaveSelection_rolls ?_
      rw [(faultSent_steady ..).lines]
      exact h
    · rw [e]
      exact h
    · rwa [e]

/-! ### The printers that recover (R174) -/

/-- A printer after the recovery of those in service begins. -/
def recovered (x : Printer) : Printer := if x.serving then { x with state := .recovering } else x

theorem recovered_serving {x : Printer} (h : x.serving) : recovered x = { x with state := .recovering } := if_pos h

theorem recovered_away {x : Printer} (h : ¬x.serving) : recovered x = x := if_neg h

theorem recovered_frame (x : Printer) : (recovered x).configured = x.configured ∧ (recovered x).group = x.group ∧
    (recovered x).fault = x.fault := by
  unfold recovered
  split <;> exact ⟨rfl, rfl, rfl⟩

theorem recovered_state (x : Printer) : (recovered x).state = .recovering ↔ x.serving := by
  unfold recovered
  split
  · next h => exact ⟨fun _ => h, fun _ => rfl⟩
  · next h => exact ⟨fun e => .inr (.inr e), fun k => absurd k h⟩

theorem serving_recovered (x : Printer) : (recovered x).serving ↔ x.serving := by
  unfold recovered
  split
  · next h => exact ⟨fun _ => h, fun _ => .inr (.inr rfl)⟩
  · exact Iff.rfl

/-- A printer with its state written, before what follows from that. -/
def stateWritten (p : PrinterId) (new : PrinterState) (s : State) : State :=
  markPrinter p false (modPrinter p (fun x => { x with
    state := new, spoilRun := if new = .ready then 0 else x.spoilRun }) s)

theorem enterState_steady (order : List JobIx) (p : PrinterId) (new : PrinterState) (s : State) :
    Steady (stateWritten p new s) (enterState order p new s) :=
  ((Steady.refl (stateWritten p new s)).releaseHold.sendBackGranted.ite (Steady.refl _)).recomputeOf

theorem recoverPrinter_cases (p : PrinterId) (s : State) :
    (s.printers[p].serving ∧
      recoverPrinter p s = rollRequest (lineOfPrinter p) (addressBit (addressIx p)) (enterState [] p .recovering s)) ∨
    (¬s.printers[p].serving ∧ recoverPrinter p s = s) := by
  unfold recoverPrinter Printer.serving
  split
  case h_1 e | h_2 e | h_3 e => exact .inl ⟨by rw [e]; decide, rfl⟩
  case h_4 e | h_5 e | h_6 e => exact .inr ⟨by rw [e]; decide, rfl⟩

theorem recoverPrinter_printers (p q : PrinterId) (s : State) : (recoverPrinter p s).printers[q].standing =
    if p = q then recovered s.printers[q].standing else s.printers[q].standing := by
  obtain ⟨serving, e⟩ | ⟨away, e⟩ := recoverPrinter_cases p s
  · have written : (recoverPrinter p s).printers[q].standing = (stateWritten p .recovering s).printers[q].standing := by
      rw [e]
      exact (enterState_steady [] p .recovering s).printers q
    rw [written]
    refine (congrArg Printer.standing (upd_get ..)).trans ?_
    split
    · next same =>
      subst same
      rw [recovered_serving (by exact serving)]
      rfl
    · rfl
  · rw [e]
    split
    · next same =>
      subst same
      rw [recovered_away (by exact away)]
    · rfl

theorem recoverPrinter_serving (p q : PrinterId) (s : State) :
    (recoverPrinter p s).printers[q].serving ↔ s.printers[q].serving := by
  have same := recoverPrinter_printers p q s
  refine (show (recoverPrinter p s).printers[q].standing.serving ↔ s.printers[q].standing.serving from ?_)
  rw [same]
  split
  · exact serving_recovered _
  · exact Iff.rfl

theorem books_recoverPrinter (p : PrinterId) (s : State) : books (recoverPrinter p s) = books s := by
  obtain ⟨-, e⟩ | ⟨-, e⟩ := recoverPrinter_cases p s
  · rw [e]
    exact books_enterState ..
  · rw [e]

/-! ### The roll calls they wait for (R111, R174) -/

/-- A roll call that waits for exactly the addresses of a set, if for any. -/
structure WaitsFor (members : AddressIx → Prop) (r : RollCall) : Prop where
  rest : r = { RollCall.none with phase := r.phase, waitingSet := r.waitingSet }
  bits : ∀ a : AddressIx, r.waitingSet.getLsbD a.val = true ↔ members a
  phase : r.phase = if r.waitingSet = 0#8 then .none else .waiting

theorem WaitsFor.none : WaitsFor (fun _ => False) .none := ⟨rfl, fun a => by simp [RollCall.none], rfl⟩

theorem WaitsFor.congr {m m' : AddressIx → Prop} {r : RollCall} (h : WaitsFor m r) (same : ∀ a, m a ↔ m' a) : WaitsFor m' r :=
  ⟨h.rest, fun a => (h.bits a).trans (same a), h.phase⟩

theorem addressBit_getLsbD : ∀ a b : AddressIx, (addressBit a).getLsbD b.val = decide (b = a) := by decide

theorem printerAt_eq : ∀ (l : LineId) (a : AddressIx) (p : PrinterId),
    printerAt l a = p ↔ lineOfPrinter p = l ∧ a = addressIx p := by decide

/-- A request adds its address. -/
theorem WaitsFor.request {m : AddressIx → Prop} {a : AddressIx} (h : WaitsFor m s.lines[l].roll) :
    WaitsFor (fun b => m b ∨ b = a) (rollRequest l (addressBit a) s).lines[l].roll := by
  have one : (addressBit a).getLsbD a.val = true := by simp [addressBit_getLsbD]
  have nonzero : ∀ m : BitVec 8, m.getLsbD a.val = true → m ≠ 0#8 := fun m hm e => by
    rw [e] at hm
    simp at hm
  unfold rollRequest
  rw [modLine_lines, upd_get_self]
  generalize s.lines[l] = x at h
  obtain ⟨rest, bits, phase⟩ := h
  split
  · next e =>
    have zero : x.roll.waitingSet = 0#8 := by
      by_contra other
      rw [if_neg other, e] at phase
      cases phase
    refine ⟨?_, fun b => ?_, (if_neg (nonzero _ one)).symm⟩
    · rw [rest]
    · have none := bits b
      rw [zero] at none
      simp only [BitVec.getLsbD_zero, Bool.false_eq_true, false_iff] at none
      rw [addressBit_getLsbD, decide_eq_true_iff]
      exact ⟨.inr, fun other => other.resolve_left none⟩
  · refine ⟨?_, fun b => ?_, ?_⟩
    · rw [rest]
    · rw [BitVec.getLsbD_or, Bool.or_eq_true, bits, addressBit_getLsbD, decide_eq_true_iff]
    · next e =>
      have set : (x.roll.waitingSet ||| addressBit a).getLsbD a.val = true := by
        rw [BitVec.getLsbD_or, one, Bool.or_true]
      exact e.trans (if_neg (nonzero _ set)).symm
  all_goals
    next e =>
    rw [e] at phase
    split at phase <;> cases phase

/-- After the printers of a list: the lines wait for those of them in service. -/
theorem forEach_recoverPrinter_waits (ps : List PrinterId) (h : s.lines[l].roll = .none) :
    (∀ q : PrinterId, (forEach ps recoverPrinter s).printers[q].serving ↔ s.printers[q].serving) ∧
      WaitsFor (fun a => printerAt l a ∈ ps ∧ s.printers[printerAt l a].serving) (forEach ps recoverPrinter s).lines[l].roll := by
  induction ps using List.reverseRecOn with
  | nil =>
    refine ⟨fun _ => Iff.rfl, WaitsFor.congr (m := fun _ => False) ?_ fun a => by simp⟩
    rw [show forEach [] recoverPrinter s = s from rfl, h]
    exact .none
  | append_singleton ps p ih =>
    obtain ⟨serving, waits⟩ := ih
    have last : forEach (ps ++ [p]) recoverPrinter s = recoverPrinter p (forEach ps recoverPrinter s) := by
      unfold forEach
      rw [List.foldl_append]
      rfl
    rw [last]
    refine ⟨fun q => (recoverPrinter_serving p q _).trans (serving q), ?_⟩
    generalize forEach ps recoverPrinter s = u at serving waits ⊢
    obtain ⟨here, e⟩ | ⟨away, e⟩ := recoverPrinter_cases p u
    · have lines : (enterState [] p .recovering u).lines = u.lines := (enterState_steady [] p .recovering u).lines
      rw [e]
      have served : ∀ q, q = p → s.printers[q].serving := by
        rintro q rfl
        exact (serving q).mp here
      by_cases own : lineOfPrinter p = l
      · have same : ∀ a, a = addressIx p ↔ printerAt l a = p := fun a => by rw [printerAt_eq, and_iff_right own]
        rw [own]
        refine (WaitsFor.request (a := addressIx p) (by rw [lines]; exact waits)).congr fun a => ?_
        have now := served (printerAt l a)
        rw [same, List.mem_append, List.mem_singleton]
        tauto
      · have untouched : (rollRequest (lineOfPrinter p) (addressBit (addressIx p)) (enterState [] p .recovering u)).lines[l] =
            u.lines[l] := (upd_get_other _ _ _ _ own).trans (by rw [lines])
        rw [untouched]
        refine waits.congr fun a => ?_
        have other : printerAt l a ≠ p := fun same => own ((printerAt_eq l a p).mp same).1
        rw [List.mem_append, List.mem_singleton, or_iff_left other]
    · have unserved : ∀ q, q = p → ¬s.printers[q].serving := by
        rintro q rfl
        exact mt (serving q).mpr away
      rw [e]
      refine waits.congr fun a => ?_
      have now := unserved (printerAt l a)
      rw [List.mem_append, List.mem_singleton]
      tauto

/-! ### The stock totals (R149, R150) -/

theorem recomputeKind_eq (k : KindId) (s : State) :
    ∃ kinds marks, recomputeKind k s = { s with kinds := kinds, port := { s.port with stockMarks := marks } } := by
  unfold recomputeKind judgeFlags
  dsimp only
  (repeat' split) <;> exact ⟨_, _, rfl⟩

/-- No printer is READY. -/
def NoneReady (s : State) : Prop := ∀ p : PrinterId, s.printers[p].state ≠ .ready

theorem availableTotal_zero (h : NoneReady s) (k : KindId) : availableTotal s k = 0 := by
  have none : ((every 16).filter fun p =>
      s.magazines[p].loaded && s.magazines[p].kind == k && s.printers[p].state == .ready) = [] := by
    refine List.filter_eq_nil_iff.mpr fun p _ => ?_
    rw [beq_eq_false_iff_ne.mpr (h p), Bool.and_false]
    decide
  unfold availableTotal
  rw [none]
  rfl

/-- A kind with nothing available (R150). -/
def StockKind.bare (x : StockKind) : Prop := x.total = 0 ∧ x.low = true ∧ x.exhausted = true

theorem judgeLow_zero {x : StockKind} (h : x.total = 0) : judgeLow x = true := by
  unfold judgeLow
  rw [h]
  exact if_pos (Nat.zero_le _)

theorem recomputeKind_bare (h : NoneReady s) (k q : KindId) :
    (recomputeKind k s).kinds[q].bare = if k = q then True else s.kinds[q].bare := by
  rw [recomputeKind_kinds, put_get]
  split
  · refine eq_true ?_
    rw [availableTotal_zero h]
    exact ⟨rfl, judgeLow_zero (x := { s.kinds[k] with total := 0, loaded := loadedCount s k }) rfl, rfl⟩
  · rfl

theorem forEach_recomputeKind_bare (h : NoneReady s) (k : KindId) : (forEach (every 16) recomputeKind s).kinds[k].bare := by
  refine of_eq_true (forEach_every_view (view := fun u q => u.kinds[q].bare) (g := fun _ _ => True) (P := NoneReady)
    (fun k u hu => ⟨?_, recomputeKind_bare hu k⟩) h k)
  obtain ⟨kinds, marks, e⟩ := recomputeKind_eq k u
  rw [e]
  exact hu

theorem forEach_recomputeKind_frame (l : List KindId) (s : State) : (forEach l recomputeKind s).printers = s.printers ∧
    (forEach l recomputeKind s).lines = s.lines ∧ books (forEach l recomputeKind s) = books s := by
  have one : ∀ k u, (recomputeKind k u).printers = u.printers ∧ (recomputeKind k u).lines = u.lines ∧
      books (recomputeKind k u) = books u := fun k u => by
    obtain ⟨kinds, marks, e⟩ := recomputeKind_eq k u
    rw [e]
    exact ⟨rfl, rfl, rfl⟩
  exact ⟨forEach_keeps State.printers _ _ (fun k u => (one k u).1) s, forEach_keeps State.lines _ _ (fun k u => (one k u).2.1) s,
    forEach_keeps books _ _ (fun k u => (one k u).2.2) s⟩

/-! ### All of them -/

/-- What a warm start's completion leaves before the open-job counts are cleared (R173, R174). -/
structure Settled (s t : State) : Prop where
  notes : books t = books (forEach (every 16) settleMagazine s)
  printers : ∀ p : PrinterId, t.printers[p].standing =
    recovered (holderFault (lowestNote s.magazines[p]) s.settings.clock s.printers[p].standing)
  rolls : ∀ l : LineId, s.lines[l].roll = .none →
    WaitsFor (fun a => t.printers[printerAt l a].state = .recovering) t.lines[l].roll
  kinds : ∀ k : KindId, t.kinds[k].bare

theorem forEach_faultHolder_printers (held : PrinterId → Option Nat) (s : State) (q : PrinterId) :
    (forEach (every 16) (faultHolder held) s).printers[q].standing =
      holderFault (held q) s.settings.clock s.printers[q].standing :=
  forEach_every_view (view := fun u q => u.printers[q].standing) (g := fun q => holderFault (held q) s.settings.clock)
    (P := fun u => u.settings = s.settings)
    (fun k u hu => ⟨(congrArg Still.settings (faultHolder_still held k u)).trans hu, fun q => by
      rw [faultHolder_printers, hu]⟩) rfl q

theorem forEach_recoverPrinter_printers (s : State) (q : PrinterId) :
    (forEach (every 16) recoverPrinter s).printers[q].standing = recovered s.printers[q].standing :=
  forEach_every_view (view := fun u q => u.printers[q].standing) (g := fun _ => recovered) (P := fun _ => True)
    (fun k u _ => ⟨trivial, fun q => recoverPrinter_printers k q u⟩) trivial q

theorem forEach_recoverPrinter_state (s : State) (q : PrinterId) :
    (forEach (every 16) recoverPrinter s).printers[q].state = .recovering ↔ s.printers[q].serving := by
  have state := congrArg Printer.state (forEach_recoverPrinter_printers s q)
  generalize forEach (every 16) recoverPrinter s = u at state ⊢
  exact (Eq.congr_left state).trans (recovered_state s.printers[q].standing)

theorem forEach_recoverPrinter_noneReady (s : State) : NoneReady (forEach (every 16) recoverPrinter s) := by
  intro q
  have state := congrArg Printer.state (forEach_recoverPrinter_printers s q)
  generalize forEach (every 16) recoverPrinter s = u at state ⊢
  intro ready
  have now : (recovered s.printers[q].standing).state = .ready := state.symm.trans ready
  have serving := (serving_recovered _).mp (.inl now)
  rw [recovered_serving serving] at now
  cases now

theorem settled_settleBlanks (s : State) : Settled s (settleBlanks s) := by
  have settledNotes := notesSettled (allNotes s) s
  rw [← settleMagazines_notes] at settledNotes
  unfold settleBlanks
  dsimp only
  generalize e : forEach (every 16) settleMagazine s = noted at settledNotes
  have faultedPrinter := forEach_faultHolder_printers (fun p => lowestNote s.magazines[p]) noted
  have faultedBooks := forEach_keeps books (every 16) _ (books_faultHolder fun p => lowestNote s.magazines[p]) noted
  have faultedRolls : ∀ l : LineId, s.lines[l].roll = .none →
      (forEach (every 16) (faultHolder fun p => lowestNote s.magazines[p]) noted).lines[l].roll = .none := fun l h =>
    forEach_holds (fun u => u.lines[l].roll = .none) _ _ (fun p _ => faultHolder_rolls _ p) noted
      (by rw [settledNotes.lines]; exact h)
  generalize forEach (every 16) (faultHolder fun p => lowestNote s.magazines[p]) noted = faulted at *
  have recoveredBooks := forEach_keeps books (every 16) _ books_recoverPrinter faulted
  have recoveredPrinter := forEach_recoverPrinter_printers faulted
  have recoveredRolls := fun l h => (forEach_recoverPrinter_waits (every 16) (faultedRolls l h)).2.congr
    (m' := fun a => (forEach (every 16) recoverPrinter faulted).printers[printerAt l a].state = .recovering) fun a =>
      (and_iff_right (List.mem_finRange _)).trans (forEach_recoverPrinter_state ..).symm
  have noneReady := forEach_recoverPrinter_noneReady faulted
  generalize forEach (every 16) recoverPrinter faulted = recovering at *
  have bare := forEach_recomputeKind_bare noneReady
  obtain ⟨printers, lines, recomputedBooks⟩ := forEach_recomputeKind_frame (every 16) recovering
  generalize forEach (every 16) recomputeKind recovering = recomputed at *
  refine ⟨e ▸ recomputedBooks.trans (recoveredBooks.trans faultedBooks), fun p => ?_, fun l h => ?_, bare⟩
  · rw [printers, recoveredPrinter, faultedPrinter, settledNotes.settings, settledNotes.printers]
  · rw [printers, lines]
    exact recoveredRolls l h

/-- The printer that a warm start leaves, from its state and its magazine before (R135, R174). -/
theorem recovered_holderFault {x y : Printer} {m : Magazine}
    (h : y.standing = recovered (holderFault (lowestNote m) clock x.standing)) :
    (y.configured = x.configured ∧ y.group = x.group) ∧
    (x.serving → (m.notes = [] → y.state = .recovering ∧ y.fault = x.fault) ∧
      (m.notes ≠ [] → y.state = .faulted ∧ y.fault =
        { state := .opened, first := some .restartInDoubt, latest := some .restartInDoubt, flags := y.fault.flags,
          clock := clock, further := 0, token := none, serial := m.notes.head?.map Note.serial })) ∧
    (x.state = .faulted → y.state = .faulted ∧ (m.notes = [] → y.fault = x.fault) ∧
      (m.notes ≠ [] → y.fault = { x.fault with
        state := .opened, latest := some .restartInDoubt, further := min 255 (x.fault.further + 1) })) ∧
    ((x.state = .offline ∨ x.state = .unconfigured) → y.state = x.state ∧ y.fault = x.fault) := by
  have unheld : m.notes = [] → lowestNote m = none := fun e => by
    unfold lowestNote
    rw [e]
    rfl
  have held : m.notes ≠ [] → ∃ serial, lowestNote m = some serial := fun e => by
    obtain ⟨n, rest, e⟩ := List.exists_cons_of_ne_nil e
    unfold lowestNote
    exact ⟨n.serial, by rw [e]; rfl⟩
  have faultedStays : ∀ z : Printer, z.state = .faulted → recovered z = z := fun z hz =>
    recovered_away (by rw [Printer.serving, hz]; decide)
  obtain ⟨configured, group, -⟩ := recovered_frame (holderFault (lowestNote m) clock x.standing)
  obtain ⟨configured', group'⟩ := holderFault_frame (lowestNote m) clock x.standing
  have state := congrArg Printer.state h
  have fault := congrArg Printer.fault h
  refine ⟨⟨?_, ?_⟩, fun hx => ⟨fun hm => ?_, fun hm => ?_⟩, fun hx => ?_, fun hx => ?_⟩
  · exact (congrArg Printer.configured h).trans (configured.trans configured')
  · exact (congrArg Printer.group h).trans (group.trans group')
  · rw [unheld hm, holderFault_none, recovered_serving (by exact hx)] at state fault
    exact ⟨state, fault⟩
  · obtain ⟨serial, hs⟩ := held hm
    rw [hs, holderFault_serving (by exact hx), faultedStays _ rfl] at state fault
    have written : y.fault = firstFault (restartInfo serial) x.standing clock := fault
    refine ⟨state, ?_⟩
    rw [show m.notes.head?.map Note.serial = some serial from hs, written]
    rfl
  · cases hs : lowestNote m with
    | none =>
      rw [hs, holderFault_none, faultedStays _ (by exact hx)] at state fault
      refine ⟨state.trans hx, fun _ => fault, fun hm => ?_⟩
      obtain ⟨serial, hs'⟩ := held hm
      cases hs.symm.trans hs'
    | some serial =>
      rw [hs, holderFault_faulted (by exact hx), faultedStays _ (by exact hx)] at state fault
      exact ⟨state.trans hx, fun hm => (nomatch (unheld hm).symm.trans hs), fun _ => fault⟩
  · have away : ¬x.standing.serving := by
      rcases hx with e | e <;> simp [Printer.serving, Printer.standing, e]
    rw [holderFault_away (by exact hx), recovered_away away] at state fault
    exact ⟨state, fault⟩

theorem exec_startComplete_warm {st : StartInProgress} (ht : ticking s = true) (hs : s.start = some st) (hc : st.cold = false) :
    exec .startComplete s = .next (rewriteChecks s (finishStart st.lost (clearOpenJobs (settleBlanks s)))) := by
  have complete : exec .startComplete s = .next (completeStart st s) := by
    refine congrArg Host.Outcome.next ?_
    rw [if_pos ht, hs]
  rw [complete]
  exact congrArg Host.Outcome.next (if_neg (by rw [hc]; decide))

end

/-- Settles O24, by what the notes write and what the faults and recoveries after them leave. -/
theorem warmStartSettlesNotes : Obligations.WarmStartSettlesNotes := by
  intro s st ht hs hc notes
  have settled := settled_settleBlanks s
  have written := notesSettled (allNotes s) s
  rw [← settleMagazines_notes] at written
  have still_u := settleBlanks_still s
  have words := (worked_settleBlanks s).checkWords
  have run := exec_startComplete_warm ht hs hc
  have emptied := settleMagazines_magazines s
  obtain ⟨same, printers, rolls, kinds⟩ := settled
  generalize settleBlanks s = u at same printers rolls kinds still_u words run
  generalize forEach (every 16) settleMagazine s = noted at same written emptied
  have settings : u.settings = s.settings := congrArg Still.settings still_u
  have windows : u.windows = s.windows := congrArg Still.windows still_u
  have magazines : u.magazines = noted.magazines := congrArg Books.magazines same
  have totals : u.dayTotals = inDoubtCounted notes.length s.dayTotals :=
    (congrArg Books.dayTotals same).trans written.dayTotals
  have currents : u.current = noted.current := congrArg Books.current same
  have closings : u.closing = noted.closing := congrArg Books.closing same
  have current : ∀ w : WindowId, u.current[w] = inDoubtTally s.current[w] (shiftAmounts notes w s.current[w].shift) :=
    fun w => currents ▸ written.current w
  have closing : ∀ w : WindowId, u.closing[w] = noted.closing[w] := fun w => by rw [closings]
  refine ⟨_, run, rfl, rfl, ?_, windows, congrArg Still.routes still_u,
    congrArg Still.lineConfigs still_u, fun valid => ?_, ?_, ?_, fun none => ?_, fun some => ?_, fun p => ?_,
    fun l hl => ?_, kinds, fun w => ⟨?_, fun hw => ?_, fun c hw hcs => ?_⟩⟩
  · exact congrArg (fun x : OfficeSettings => { x with startCount := x.startCount + 1#32 }) settings
  · exact storeValid_rewriteChecks _ _ valid words
  · exact congrArg (·.map WindowRecord.allowance) windows
  · exact (congrArg Books.register same).trans written.register
  · refine totals.trans ?_
    rw [none]
    rfl
  · exact totals.trans (if_neg fun e => some (List.length_eq_zero_iff.mp e))
  · obtain ⟨frame, serving, faulted, away⟩ := recovered_holderFault (printers p)
    exact ⟨magazines ▸ emptied p, frame.1, frame.2,
      serving, faulted, away⟩
  · obtain ⟨rest, bits, phase⟩ := rolls l hl
    exact ⟨rest, bits, phase⟩
  · refine (Vector.getElem_map ..).trans ?_
    exact congrArg (fun c : Tally => { c with openJobs := 0 }) (current w)
  · refine (Vector.getElem_map ..).trans ?_
    exact congrArg (Option.map _) ((closing w).trans (written.unclosed w hw))
  · refine (Vector.getElem_map ..).trans ?_
    exact congrArg (Option.map _) ((closing w).trans (written.closing w c hw hcs))

end Sys2Proof.Machine
end

section
/-! PROOF. R70 and R71: SET ROUTE. -/

namespace Sys2Proof.Machine

section
variable {r : RouteRequest} {c : ClassId} {k : KindId} {f : Forcing}

theorem yesNo_of_le_one {b : Byte} (h : b.toNat ≤ 1) : yesNo b = some (b == 1#8) := by
  revert b
  decide

theorem routeArea_of_class (s : State) {b : Byte} (h : b.toNat = c.val) : routeArea s b = routeEntryBytes c s.routes[c] := by
  have known : classOf b = some c := below_eq_some h
  unfold routeArea
  rw [known]

/-- The request's fields in range (Table 11-8), it passes the tests and spells one entry. -/
theorem routeEntryOf_inRange (class_ : r.ticketClass.toNat = c.val) (valid : r.valid.toNat ≤ 1) (kind : r.kind.toNat = k.val)
    (fallback : r.fallback.toNat ≤ 1) (mask : r.windowMask.toNat < 16777216) (forcing : forcingOf r.forcing = some f) :
    routeBad r = none ∧ routeEntryOf r = some
      { valid := r.valid == 1#8, kind := k, fallback := r.fallback == 1#8, mask := r.windowMask.setWidth 24, forcing := f } := by
  have known : classOf r.ticketClass = some c := below_eq_some class_
  have stock : kindOf r.kind = some k := below_eq_some kind
  have yes := yesNo_of_le_one valid
  have falls := yesNo_of_le_one fallback
  refine ⟨firstBad_eq_none.mpr ?_, ?_⟩
  · simp [known, yes, stock, falls, mask, forcing]
  · unfold routeEntryOf
    rw [yes, stock, falls, forcing]

/-- An entry in range is written, and nothing else changes but the answer (R70, R71). -/
theorem setRouteWork_inRange {x : RouteEntry} (class_ : r.ticketClass.toNat = c.val) (good : routeBad r = none)
    (entry : routeEntryOf r = some x) (tag : Word) (n : SlipId) (s : State) :
    setRouteWork tag r n { s with port := portAfterTaking s.port } =
      { answered s (entryNow s n tag .done 0#32 (routeEntryBytes c x)) with routes := put s.routes c x } := by
  have known : classOf r.ticketClass = some c := below_eq_some class_
  have written : (modRoute c (fun _ => x) s).routes[c] = x := put_get_self s.routes c x
  unfold setRouteWork
  rw [good, known, entry]
  exact congrArg (fun y => addReturn n tag .done 0#32 (routeEntryBytes c y)
    (modRoute c (fun _ => x) { s with port := portAfterTaking s.port })) written

end

/-- Settles O49. -/
theorem setRouteWritesEntry : Obligations.SetRouteWritesEntry := by
  intro s n tag r c hf class_
  refine ⟨fun offset bad => handOn_answers hf ?_, fun k f valid kind fallback mask forcing => ?_⟩
  · unfold setRouteWork
    rw [bad, routeArea_of_class _ class_]
    rfl
  · obtain ⟨good, entry⟩ := routeEntryOf_inRange class_ valid kind fallback mask forcing
    exact (handOn_fetching (setRouteWork tag r) s n hf).trans (by rw [setRouteWork_inRange class_ good entry])

end Sys2Proof.Machine
end

section
/-! SUPPORT. What the part's work keeps of the laws of holds (R83) and of roll-call sets (R109): a hold of a window comes
only from a grant (R84), every other work leaving a printer's holder as it is or releasing it, and a set that a line's state
has no use for stays empty. -/

namespace Sys2Proof.Machine

/-- R109 of one roll call: the sets its phase has no use for are empty. -/
def RollCall.Lawful (r : RollCall) : Prop :=
  match r.phase with
  | .none => r.waitingSet = 0#8 ∧ r.runningSet = 0#8 ∧ r.pendingSet = 0#8
  | .waiting => r.runningSet = 0#8 ∧ r.pendingSet = 0#8
  | .round | .between => r.waitingSet = 0#8

/-- What work keeps of the two laws, each by itself. -/
def HoldKeeps (s t : State) : Prop := (HoldLaw s → HoldLaw t) ∧ (RollLaw s → RollLaw t)

section
variable {s t u : State} {i : JobIx} {j : Job} {p : PrinterId} {w : WindowId} {l : LineId} {order : List JobIx}

theorem rollLaw_iff : RollLaw s ↔ ∀ l : LineId, s.lines[l].roll.Lawful := Iff.rfl

theorem holds_iff : holds s w p = true ↔ ∃ x, s.printers[p].hold = some x ∧ x.window = w := by
  unfold holds
  cases s.printers[p].hold <;> simp

theorem HoldKeeps.refl (s : State) : HoldKeeps s s := ⟨id, id⟩

theorem HoldKeeps.trans (h : HoldKeeps s t) (k : HoldKeeps t u) : HoldKeeps s u := ⟨k.1 ∘ h.1, k.2 ∘ h.2⟩

/-- Work that gives no printer to a window and leaves the lines alone. -/
theorem HoldKeeps.narrower (h : HoldKeeps s t) (holder : ∀ w q, holds u w q = true → holds t w q = true)
    (lines : u.lines = t.lines) : HoldKeeps s u :=
  h.trans ⟨fun law w p q hp hq => law w p q (holder w p hp) (holder w q hq), fun law l => by rw [lines]; exact law l⟩

/-- Work that leaves printers and lines alone. -/
theorem HoldKeeps.same (h : HoldKeeps s t) (printers : u.printers = t.printers) (lines : u.lines = t.lines) : HoldKeeps s u :=
  h.narrower (fun w q hq => by unfold holds at *; rwa [← printers]) lines

protected theorem HoldKeeps.forEach {α : Type} {l : List α} {f : α → State → State} (h : HoldKeeps s t)
    (hf : ∀ a u, HoldKeeps s u → HoldKeeps s (f a u)) : HoldKeeps s (forEach l f t) := forEach_holds (HoldKeeps s) l f hf t h

protected theorem HoldKeeps.ite {c : Prop} [Decidable c] (h : HoldKeeps s t) (k : HoldKeeps s u) :
    HoldKeeps s (if c then t else u) := by split <;> assumption

/-! ### Printers and lines -/

/-- A change of a printer that leaves its holder, or releases it. -/
protected theorem HoldKeeps.modPrinter {f : Printer → Printer} (h : HoldKeeps s t)
    (hf : (f t.printers[p]).hold.map Hold.window = t.printers[p].hold.map Hold.window ∨ (f t.printers[p]).hold = none) :
    HoldKeeps s (modPrinter p f t) := by
  refine h.narrower (fun w q hq => ?_) rfl
  rw [holds_iff] at *
  rw [modPrinter_printers, upd_get] at hq
  split at hq
  · next e =>
    subst e
    obtain ⟨x, hx, window⟩ := hq
    rcases hf with kept | released
    · rw [hx] at kept
      obtain ⟨y, hy, same⟩ := Option.map_eq_some_iff.mp kept.symm
      exact ⟨y, hy, same.trans window⟩
    · exact absurd (hx.symm.trans released) (Option.some_ne_none x)
  · exact hq

/-- A change of a line that keeps R109 of its roll call. -/
protected theorem HoldKeeps.modLine {f : Line → Line} (h : HoldKeeps s t)
    (hf : t.lines[l].roll.Lawful → (f t.lines[l]).roll.Lawful) : HoldKeeps s (modLine l f t) := by
  refine h.trans ⟨id, fun law k => ?_⟩
  show ((modLine l f t).lines[k]).roll.Lawful
  rw [modLine_lines, upd_get]
  split
  · next e =>
    subst e
    exact hf (law l)
  · exact law k

protected theorem HoldKeeps.markPrinter {cause : Bool} (h : HoldKeeps s t) : HoldKeeps s (markPrinter p cause t) := h.same rfl rfl
protected theorem HoldKeeps.modJob {f : Job → Job} (h : HoldKeeps s t) : HoldKeeps s (modJob i f t) := h.same rfl rfl
protected theorem HoldKeeps.modLineRecord {f : LineRecord → LineRecord} (h : HoldKeeps s t) :
    HoldKeeps s (modLineRecord p f t) := h.same rfl rfl
protected theorem HoldKeeps.addReturn {n : SlipId} {tag : Word} {code : ResultCode} {detail : Word} {area : List Byte}
    (h : HoldKeeps s t) : HoldKeeps s (addReturn n tag code detail area t) := h.same rfl rfl

protected theorem HoldKeeps.releaseHold (h : HoldKeeps s t) : HoldKeeps s (releaseHold p t) :=
  (h.modPrinter (.inr rfl)).markPrinter.ite h

/-! ### Queues, lists and the ends of jobs -/

protected theorem HoldKeeps.setQueue {q : List JobIx} (h : HoldKeeps s t) : HoldKeeps s (setQueue w q t) := by
  unfold setQueue
  dsimp only
  split
  · exact HoldKeeps.ite (h.same rfl rfl) (h.same rfl rfl)
  · exact h.same rfl rfl

protected theorem HoldKeeps.leavePrinter (h : HoldKeeps s t) : HoldKeeps s (leavePrinter p i t) :=
  (h.modPrinter (.inl rfl)).modLineRecord.markPrinter

protected theorem HoldKeeps.joinPrinter (h : HoldKeeps s t) : HoldKeeps s (joinPrinter p i t) :=
  (h.modPrinter (.inl rfl)).modJob.markPrinter

protected theorem HoldKeeps.leaveLists (h : HoldKeeps s t) : HoldKeeps s (leaveLists i j t) := by
  unfold leaveLists
  split
  · exact h.leavePrinter
  · exact h.setQueue
  · exact h

protected theorem HoldKeeps.releaseSaleEnd (h : HoldKeeps s t) : HoldKeeps s (releaseSaleEnd j t) := by
  unfold releaseSaleEnd
  split
  · exact (h.forEach fun _ _ k => k.releaseHold).ite h
  · exact h

protected theorem HoldKeeps.modTally {shift : Nat} {f : Tally → Tally} (h : HoldKeeps s t) :
    HoldKeeps s (modTally w shift f t) := by
  obtain ⟨current, closing, e⟩ := modTally_eq w shift f t
  rw [e]
  exact h.same rfl rfl

protected theorem HoldKeeps.lowerOpenJobs (h : HoldKeeps s t) : HoldKeeps s (lowerOpenJobs j t) := by
  obtain ⟨places, printers⟩ := lowerOpenJobs_places j t
  exact h.same printers (congrArg Places.lines places)

protected theorem HoldKeeps.statementAfter (h : HoldKeeps s t) : HoldKeeps s (statementAfter j t) := by
  obtain ⟨places, printers⟩ := statementAfter_places j t
  exact h.same printers (congrArg Places.lines places)

protected theorem HoldKeeps.finishJob {code : ResultCode} {reason : Nat} (h : HoldKeeps s t) :
    HoldKeeps s (finishJob i code reason t) := by
  unfold finishJob
  split
  · exact h
  · next j _ =>
    have returned : HoldKeeps s (returnJob i j code reason t) := h.same rfl rfl
    exact returned.leaveLists.releaseSaleEnd.lowerOpenJobs.statementAfter.same rfl rfl

protected theorem HoldKeeps.finishJobs {code : ResultCode} {reason : Nat} {l : List JobIx} (h : HoldKeeps s t) :
    HoldKeeps s (finishJobs code reason l t) := h.forEach fun _ _ k => k.finishJob

protected theorem HoldKeeps.requeue (h : HoldKeeps s t) : HoldKeeps s (requeue order p w i t) :=
  h.leavePrinter.modJob.setQueue

protected theorem HoldKeeps.sendBack {reason : Nat} (h : HoldKeeps s t) : HoldKeeps s (sendBack order p reason i t) := by
  unfold sendBack
  split
  · exact h
  · split
    · exact h.requeue
    · exact h.finishJob

protected theorem HoldKeeps.sendBackGranted (h : HoldKeeps s t) : HoldKeeps s (sendBackGranted order p t) :=
  h.forEach fun _ _ k => k.sendBack

/-! ### Stock -/

protected theorem HoldKeeps.setMagazine {m : Magazine} (h : HoldKeeps s t) : HoldKeeps s (setMagazine p m t) := by
  obtain ⟨marks, e⟩ := setMagazine_eq p m t
  rw [e]
  exact h.same rfl rfl

protected theorem HoldKeeps.moveNote {serial : Nat} (h : HoldKeeps s t) : HoldKeeps s (moveNote p serial t) := by
  unfold moveNote
  dsimp only
  split
  · exact h
  · split
    · exact h.setMagazine.modJob
    · exact h.setMagazine

protected theorem HoldKeeps.recomputeKind {k : KindId} (h : HoldKeeps s t) : HoldKeeps s (recomputeKind k t) := by
  have judged : ∀ {u : State}, HoldKeeps s u → HoldKeeps s (judgeFlags k u) := fun x =>
    HoldKeeps.ite (x.same rfl rfl) (x.same rfl rfl)
  exact judged (HoldKeeps.ite (h.same rfl rfl) (h.same rfl rfl))

protected theorem HoldKeeps.recomputeOf (h : HoldKeeps s t) : HoldKeeps s (recomputeOf p t) := h.recomputeKind.ite h

protected theorem HoldKeeps.disposeBlank {n shift : Nat} {window : Option WindowId} {cause : SpoilCause}
    {disposition : Disposition} (h : HoldKeeps s t) : HoldKeeps s (disposeBlank p n window shift cause disposition t) :=
  h.same rfl rfl

protected theorem HoldKeeps.inDoubtBlank {n : Nat} {token : Byte} {window : Option WindowId} {shift : Nat} (h : HoldKeeps s t) :
    HoldKeeps s (inDoubtBlank p n token window shift t) := h.disposeBlank.setMagazine

/-! ### Roll-call selection, changes of state and faults -/

/-- A roll-call request names printers in the set that the line's phase has a use for (R109). -/
protected theorem HoldKeeps.rollRequest {mask : BitVec 8} (h : HoldKeeps s t) : HoldKeeps s (rollRequest l mask t) := by
  refine h.modLine ?_
  generalize t.lines[l] = x
  obtain ⟨_, _, _, _, ⟨phase, _, _, _, _, _⟩, _⟩ := x
  intro law
  cases phase with
  | none => exact law.2
  | waiting | round | between => exact law

/-- Printers taken out of every set leave an empty set empty. -/
theorem RollCall.Lawful.masked {r : RollCall} (law : r.Lawful) (m known : BitVec 8) : RollCall.Lawful { r with
    waitingSet := r.waitingSet &&& m, runningSet := r.runningSet &&& m, pendingSet := r.pendingSet &&& m, known := known } := by
  obtain ⟨phase, _, _, _, _, _⟩ := r
  cases phase with
  | none =>
    obtain ⟨rfl, rfl, rfl⟩ := law
    exact ⟨BitVec.zero_and, BitVec.zero_and, BitVec.zero_and⟩
  | waiting =>
    obtain ⟨rfl, rfl⟩ := law
    exact ⟨BitVec.zero_and, BitVec.zero_and⟩
  | round | between =>
    obtain rfl := law
    exact BitVec.zero_and

protected theorem HoldKeeps.keepResult {a : AddressIx} {r : RollResult} (h : HoldKeeps s t) :
    HoldKeeps s (keepResult l a r t) := h.modLine id

/-- A printer that leaves every set empties none that was to stay (R113). -/
protected theorem HoldKeeps.leaveSelection (h : HoldKeeps s t) : HoldKeeps s (leaveSelection p t) := by
  unfold leaveSelection
  split
  · refine HoldKeeps.ite (HoldKeeps.keepResult (h.modLine ?_)) (h.modLine ?_)
    iterate 2 exact fun law => law.masked _ _
  · exact h

protected theorem HoldKeeps.enterState {new : PrinterState} (h : HoldKeeps s t) : HoldKeeps s (enterState order p new t) := by
  have entered : HoldKeeps s (markPrinter p false (modPrinter p (fun x => { x with
    state := new, spoilRun := if new = .ready then 0 else x.spoilRun }) t)) := (h.modPrinter (.inl rfl)).markPrinter
  exact (entered.releaseHold.sendBackGranted.ite entered).recomputeOf

protected theorem HoldKeeps.magazineChanged (h : HoldKeeps s t) : HoldKeeps s (magazineChanged order p t) := by
  refine HoldKeeps.ite (h.recomputeOf.enterState.ite ?_) h.recomputeOf
  obtain ⟨sent, -, e⟩ := breakReservation_eq order p
    ((recomputeOf p t).printers[p].outstanding.filter (isGranted (recomputeOf p t))).reverse (recomputeOf p t)
  rw [e]
  exact h.recomputeOf.forEach fun _ _ k => k.sendBack

protected theorem HoldKeeps.endInDoubt (h : HoldKeeps s t) : HoldKeeps s (endInDoubt order p i t) := by
  unfold endInDoubt
  split
  · exact h
  · refine HoldKeeps.finishJob ?_
    split
    · refine HoldKeeps.modTally ?_
      split
      · exact h.inDoubtBlank.magazineChanged
      · exact h
    · split
      · exact h.inDoubtBlank.magazineChanged
      · exact h

protected theorem HoldKeeps.causeEffects {cause : FaultCause} (h : HoldKeeps s t) :
    HoldKeeps s (causeEffects order p cause t) := by
  unfold causeEffects
  split
  iterate 5 exact h.same rfl rfl
  iterate 2 exact h.forEach fun _ _ k => k.endInDoubt
  exact h

protected theorem HoldKeeps.raiseFault {f : FaultInfo} (h : HoldKeeps s t) : HoldKeeps s (raiseFault order p f t) := by
  have faulted : ∀ {u : State}, HoldKeeps s u →
      HoldKeeps s (sendBackGranted order p (enterState order p .faulted (markPrinter p true u))) :=
    fun k => k.markPrinter.enterState.sendBackGranted
  unfold raiseFault
  split
  iterate 2 exact h
  · exact (h.modPrinter (.inl rfl)).markPrinter.causeEffects
  iterate 3 exact ((faulted (h.modPrinter (.inl rfl))).ite (faulted (h.modPrinter (.inl rfl))).leaveSelection).causeEffects

/-! ### Outcomes and flags -/

protected theorem HoldKeeps.takeCancelled (h : HoldKeeps s t) : HoldKeeps s (takeCancelled order p i t) := by
  unfold takeCancelled
  refine HoldKeeps.sendBack (HoldKeeps.recomputeOf ?_)
  split
  · exact h.setMagazine.moveNote
  · exact h.setMagazine

protected theorem HoldKeeps.takePrinted (h : HoldKeeps s t) : HoldKeeps s (takePrinted order p i j t) := by
  unfold takePrinted
  extract_lets m base used blank stock tally
  have hb : HoldKeeps s blank := by
    unfold blank
    split
    · exact h.setMagazine
    · exact h.disposeBlank.setMagazine
  have ht : HoldKeeps s tally := by
    unfold tally
    split
    · exact hb.magazineChanged.modTally
    · exact hb.magazineChanged
  exact ht.finishJob.modPrinter (.inl rfl)

protected theorem HoldKeeps.spoilBlanks {k : Nat} {cause : SpoilCause} (h : HoldKeeps s t) :
    HoldKeeps s (spoilBlanks order p i j k cause t) :=
  (HoldKeeps.setMagazine (h.forEach fun _ _ k => k.disposeBlank)).moveNote.magazineChanged

protected theorem HoldKeeps.takeSpoiled {flags : BitVec 5} {asked : Nat} {cause : SpoilCause} (h : HoldKeeps s t) :
    HoldKeeps s (takeSpoiled order p i j flags asked cause t) := by
  unfold takeSpoiled
  extract_lets k token ended blanks job run
  have hj : HoldKeeps s job := by
    unfold job
    split
    · exact h.spoilBlanks.modTally.modJob.requeue.ite h.spoilBlanks.modTally.finishJob
    · exact h.spoilBlanks.finishJob
  have hr : HoldKeeps s run := hj.modPrinter (.inl rfl)
  exact (hr.raiseFault.modPrinter (.inl rfl)).ite hr

protected theorem HoldKeeps.takeOutcome {flags : BitVec 5} {e : OutcomeEntry} (h : HoldKeeps s t) :
    HoldKeeps s (takeOutcome order p flags e i j t) :=
  h.takeCancelled.ite ((h.takePrinted.ite h.takeSpoiled).ite h.raiseFault)

protected theorem HoldKeeps.handleEntry {flags : BitVec 5} {reported : List Byte} {e : OutcomeEntry} (h : HoldKeeps s t) :
    HoldKeeps s (handleEntry order p flags reported e t) := by
  unfold handleEntry
  refine h.ite (HoldKeeps.modLineRecord ?_)
  split
  · split
    · exact h.takeOutcome
    · exact h
  · exact h.modLineRecord.ite h.modLineRecord.markPrinter

protected theorem HoldKeeps.judgeConditionFlags {flags : BitVec 5} (h : HoldKeeps s t) :
    HoldKeeps s (judgeConditionFlags order p flags t) := (h.forEach fun _ _ k => k.raiseFault).modPrinter (.inl rfl)

protected theorem HoldKeeps.judgeNotReady {flags : BitVec 5} (h : HoldKeeps s t) :
    HoldKeeps s (judgeNotReady order p flags t) := by
  unfold judgeNotReady
  split
  · exact h
  · exact h.raiseFault.modPrinter (.inl rfl)

protected theorem HoldKeeps.judgeRecovery {flags : BitVec 5} (h : HoldKeeps s t) :
    HoldKeeps s (judgeRecovery order p flags t) := h.enterState.rollRequest.ite h

protected theorem HoldKeeps.impliedCancel {waiting : Nat} (h : HoldKeeps s t) : HoldKeeps s (impliedCancel order p waiting t) :=
  (h.forEach fun _ _ k => k.takeCancelled).ite h

end

end Sys2Proof.Machine
end

section
/-! SUPPORT. What the lines, the slips, the sweep and the grants keep of the laws of holds (R83) and of roll-call sets (R109). -/

namespace Sys2Proof.Machine

section
variable {s t u : State} {i : JobIx} {j : Job} {p : PrinterId} {w : WindowId} {l : LineId} {order : List JobIx}

/-! ### Roll calls -/

protected theorem HoldKeeps.modRoll {f : RollCall → RollCall} (h : HoldKeeps s t)
    (hf : t.lines[l].roll.Lawful → (f t.lines[l].roll).Lawful) : HoldKeeps s (modRoll l f t) := h.modLine hf

protected theorem HoldKeeps.freeLine (h : HoldKeeps s t) : HoldKeeps s (freeLine l t) :=
  ((h.modLine id).modLine id).ite (h.modLine id)

/-- A round takes the waiting set as its running set, and leaves it empty (R110). -/
theorem RollCall.Lawful.nextRound {r : RollCall} (law : r.Lawful) : (nextRound r).Lawful := by
  obtain ⟨phase, _, _, _, _, _⟩ := r
  cases phase with
  | waiting => exact rfl
  | none | round | between => exact law

protected theorem HoldKeeps.startRound (h : HoldKeeps s t) : HoldKeeps s (startRound l t) := by
  have started : HoldKeeps s (recallIfFree l (modRoll l nextRound t)) :=
    ((h.modRoll .nextRound).modLine id).ite (h.modRoll .nextRound)
  unfold startRound
  split
  iterate 2 exact started
  iterate 2 exact h

protected theorem HoldKeeps.settleResult {r : RollResult} (h : HoldKeeps s t) : HoldKeeps s (settleResult p r t) :=
  ((h.modRoll id).modLine id).ite (h.modRoll id)

protected theorem HoldKeeps.handOver {r : RollResult} (h : HoldKeeps s t) : HoldKeeps s (handOver p r t) := by
  have returned : HoldKeeps s (returnToService t.printers[p].outstanding p t) :=
    (h.enterState.modPrinter (.inl rfl)).ite (h.enterState.modPrinter (.inl rfl)).markPrinter
  unfold handOver
  dsimp only
  split
  iterate 2 exact returned
  iterate 4 exact h.raiseFault
  exact h

protected theorem HoldKeeps.applyJudgement {r : RollResult} (h : HoldKeeps s t) : HoldKeeps s (applyJudgement p r t) := by
  unfold applyJudgement
  dsimp only
  refine HoldKeeps.ite (HoldKeeps.recomputeOf (HoldKeeps.setMagazine ?_)) h
  split
  · exact h.same rfl rfl
  · exact h

protected theorem HoldKeeps.takeSerial {serial kind : Nat} (h : HoldKeeps s t) : HoldKeeps s (takeSerial p serial kind t) :=
  h.applyJudgement.settleResult.handOver.ite h

/-- At the end of a roll call the running set is empty, and what was pending waits (R113). -/
theorem RollCall.lawful_ended (r : RollCall) : RollCall.Lawful
    (if r.pendingSet = 0#8 then .none else { RollCall.none with phase := .waiting, waitingSet := r.pendingSet }) := by
  split
  · exact ⟨rfl, rfl, rfl⟩
  · exact ⟨rfl, rfl⟩

protected theorem HoldKeeps.endRollCall (h : HoldKeeps s t) : HoldKeeps s (endRollCall l t) := by
  have answered := h.forEach (l := unresolvedPrinters t l) (f := giveUnanswered) fun _ _ k => k.settleResult.handOver
  have returned : HoldKeeps s (returnRollSlip l (forEach (unresolvedPrinters t l) giveUnanswered t)) := by
    unfold returnRollSlip
    split
    · exact answered
    · exact (answered.modLine id).addReturn
  exact returned.modRoll fun _ => RollCall.lawful_ended _

/-- A line that goes on to another round has a running set, and so no waiting set (R109, R113). -/
theorem RollCall.Lawful.between {r : RollCall} (law : r.Lawful) (h : unresolved r ≠ 0#8) :
    RollCall.Lawful { r with phase := .between } := by
  obtain ⟨phase, _, _, running, _, _⟩ := r
  have running_ne : running ≠ 0#8 := fun e => h (by subst e; exact BitVec.zero_and)
  cases phase with
  | none => exact absurd law.2.1 running_ne
  | waiting => exact absurd law.1 running_ne
  | round | between => exact law

protected theorem HoldKeeps.endRound (h : HoldKeeps s t) : HoldKeeps s (endRound l t) := by
  unfold endRound
  refine HoldKeeps.freeLine ?_
  split
  · exact h.endRollCall
  · next more => exact h.modRoll fun law => law.between fun e => more (.inl e)

protected theorem HoldKeeps.nextSlot {slots : BitVec 8} (h : HoldKeeps s t) : HoldKeeps s (nextSlot l slots t) := by
  unfold nextSlot
  split
  · exact h.modLine id
  · exact h.endRound

protected theorem HoldKeeps.endSlot (h : HoldKeeps s t) : HoldKeeps s (endSlot l t) := by
  unfold endSlot
  split
  · exact h.nextSlot
  · exact h

protected theorem HoldKeeps.takeAnswer {a : AddressIx} {address : Byte} {reply : Reply} (h : HoldKeeps s t) :
    HoldKeeps s (takeAnswer l a address reply t) := by
  unfold takeAnswer
  refine HoldKeeps.endSlot ?_
  split
  · exact h.takeSerial
  · exact h

/-! ### Turns and exchanges -/

protected theorem HoldKeeps.sendPrint (h : HoldKeeps s t) : HoldKeeps s (sendPrint l p i t) := by
  unfold sendPrint
  split
  · exact h.modLine id
  · exact h

protected theorem HoldKeeps.transmitFirst (h : HoldKeeps s t) : HoldKeeps s (transmitFirst l p i t) := by
  have claimed : HoldKeeps s (claimBlank p i t) := by
    unfold claimBlank
    split
    · exact h
    · exact h.setMagazine.modJob
  exact claimed.modJob.sendPrint.modLineRecord

protected theorem HoldKeeps.takeTurn (h : HoldKeeps s t) : HoldKeeps s (takeTurn l p t) := by
  unfold takeTurn
  dsimp only
  split
  · exact h.modLine id
  · exact h.sendPrint
  · exact h.transmitFirst
  · exact h.modLine id

protected theorem HoldKeeps.lineTurn (h : HoldKeeps s t) : HoldKeeps s (lineTurn l t) := by
  unfold lineTurn
  refine HoldKeeps.ite ?_ h
  split
  · exact (h.modLine id).takeTurn
  · exact h

protected theorem HoldKeeps.exchangeFailed {x : Exchange} (h : HoldKeeps s t) : HoldKeeps s (exchangeFailed x t) := by
  have kept : ∀ {u : State}, HoldKeeps s u → HoldKeeps s (keepForRepeat x.printer x.command u) := fun k => by
    unfold keepForRepeat
    split
    · exact k.modLineRecord.ite k
    iterate 2 exact k
  exact (kept h.modLineRecord).raiseFault.ite (kept h.modLineRecord)

protected theorem HoldKeeps.takeAccept {token : Byte} (h : HoldKeeps s t) : HoldKeeps s (takeAccept p token t) := by
  unfold takeAccept
  split
  · exact h.modJob.modLineRecord
  · exact h

protected theorem HoldKeeps.takeRefuse {token reason : Byte} (h : HoldKeeps s t) : HoldKeeps s (takeRefuse p token reason t) := by
  unfold takeRefuse
  split
  · exact h
  · exact h.modLineRecord.ite ((h.modLineRecord.modPrinter (.inl rfl)).ite h.modLineRecord.raiseFault)

protected theorem HoldKeeps.takeStatus {command : CommandKind} {flags : Byte} {waiting : Nat} {entries : List OutcomeEntry}
    (h : HoldKeeps s t) : HoldKeeps s (takeStatus p command flags waiting entries t) := by
  have noted : ∀ {u : State}, HoldKeeps s u → HoldKeeps s (noteReported p entries u) := fun k => k.ite k.modLineRecord
  have answered : ∀ {u : State}, HoldKeeps s u → HoldKeeps s (answerClear p command u) := fun k => k.modLineRecord.ite k
  exact (answered (noted (h.forEach fun _ _ k => k.handleEntry)).judgeConditionFlags.judgeNotReady.impliedCancel).judgeRecovery

protected theorem HoldKeeps.takeGoodReply {x : Exchange} {reply : Reply} (h : HoldKeeps s t) :
    HoldKeeps s (takeGoodReply x reply t) := by
  unfold takeGoodReply
  dsimp only
  split
  · exact h.modLineRecord.takeStatus
  · exact h.modLineRecord.takeAccept
  · exact h.modLineRecord.takeRefuse
  iterate 2 exact h.modLineRecord

protected theorem HoldKeeps.receiveReply {address : Byte} {reply : Reply} (h : HoldKeeps s t) :
    HoldKeeps s (receiveReply l address reply t) := by
  unfold receiveReply
  split
  · unfold endExchange
    refine HoldKeeps.freeLine (h.ite ?_)
    split
    · exact h.takeGoodReply
    · exact h.exchangeFailed
  · exact h.takeAnswer
  iterate 3 exact h

protected theorem HoldKeeps.receiveNothing (h : HoldKeeps s t) : HoldKeeps s (receiveNothing l t) := by
  unfold receiveNothing
  split
  · exact (h.ite h.exchangeFailed).freeLine
  · exact h.endSlot
  iterate 3 exact h

protected theorem HoldKeeps.receiveRaw {bytes : List Byte} (h : HoldKeeps s t) : HoldKeeps s (receiveRaw l bytes t) := by
  unfold receiveRaw
  split
  · exact h
  · exact h.receiveNothing
  · split
    · exact h.receiveReply
    · exact h.receiveNothing

protected theorem HoldKeeps.commandFrameEnd (h : HoldKeeps s t) : HoldKeeps s (commandFrameEnd l t) := by
  unfold commandFrameEnd
  split
  · exact h.modLine id
  · exact h.nextSlot
  iterate 3 exact h

/-! ### Slips -/

protected theorem HoldKeeps.issueWork {tag : Word} {r : IssueRequest} {n : SlipId} (h : HoldKeeps s t) :
    HoldKeeps s (issueWork tag r n t) := by
  have accepted : ∀ {w j}, HoldKeeps s (acceptJob w j t) := by
    intro w j
    unfold acceptJob
    split
    · next i rest _ =>
      have taken : HoldKeeps s (modCurrent w (fun t => { t with openJobs := t.openJobs + 1 }) (takeRecord i rest j t)) :=
        h.same rfl rfl
      exact taken.setQueue
    · exact h
  unfold issueWork
  split
  · exact h.addReturn
  · split
    · split
      · exact h.addReturn
      · exact accepted
    · exact h

protected theorem HoldKeeps.testPrintWork {tag : Word} {r : TestPrintRequest} {n : SlipId} (h : HoldKeeps s t) :
    HoldKeeps s (testPrintWork tag r n t) := by
  have accepted : ∀ {p j}, HoldKeeps s (acceptTest p j t) := by
    intro p j
    unfold acceptTest
    split
    · next i rest _ =>
      have taken : HoldKeeps s (takeRecord i rest j t) := h.same rfl rfl
      exact taken.joinPrinter
    · exact h
  unfold testPrintWork
  split
  · exact h.addReturn
  · exact h
  · exact h.addReturn.ite (h.addReturn.ite accepted)

protected theorem HoldKeeps.voidWork {tag : Word} {window : Byte} {sale : BitVec 16} {n : SlipId} (h : HoldKeeps s t) :
    HoldKeeps s (voidWork tag window sale n t) := by
  unfold voidWork
  split
  · exact h.addReturn
  · exact h.finishJobs.addReturn

protected theorem HoldKeeps.cashUpWork {tag : Word} {r : CashUpRequest} {n : SlipId} (h : HoldKeeps s t) :
    HoldKeeps s (cashUpWork tag r n t) := by
  have produced : ∀ {u : State} {w c}, HoldKeeps s u → HoldKeeps s (produceStatement w c u) := fun k => by
    unfold produceStatement
    split
    · exact k
    · exact k.same rfl rfl
  have closed : ∀ {w withdraw c}, HoldKeeps s (closeShift w withdraw c t) := by
    intro w withdraw c
    have counted : HoldKeeps s (countClosing w (shiftOpen w t)) := h.same rfl rfl
    have left := HoldKeeps.ite (c := withdraw = true) (counted.finishJobs (code := .withdrawn) (reason := 0)
      (l := unsentJobs (countClosing w (shiftOpen w t)) w fun j => j.shift == t.current[w].shift)) counted
    show HoldKeeps s (awaitStatement w c _)
    unfold awaitStatement
    split
    · exact HoldKeeps.ite (left.same rfl rfl) (produced left)
    · exact left
  unfold cashUpWork
  split
  · exact h.addReturn
  · dsimp only
    split
    · exact h.addReturn.ite (produced h)
    · exact closed
  · exact h

protected theorem HoldKeeps.endOfDayWork {tag : Word} {n : SlipId} (h : HoldKeeps s t) : HoldKeeps s (endOfDayWork tag n t) := by
  unfold endOfDayWork
  split
  · exact h.addReturn
  · unfold closeDay
    exact h.same rfl rfl

protected theorem HoldKeeps.replaceMagazine {m : Magazine} (h : HoldKeeps s t) : HoldKeeps s (replaceMagazine p m t) :=
  (h.setMagazine.recomputeKind.ite h.setMagazine).recomputeKind.ite (h.setMagazine.recomputeKind.ite h.setMagazine)

protected theorem HoldKeeps.loadStockWork {tag : Word} {r : LoadStockRequest} {n : SlipId} (h : HoldKeeps s t) :
    HoldKeeps s (loadStockWork tag r n t) := by
  unfold loadStockWork
  split
  · exact h.addReturn
  · exact h.addReturn.ite (h.addReturn.ite
      (h.replaceMagazine.enterState.rollRequest.ite h.replaceMagazine).addReturn)
  · exact h

protected theorem HoldKeeps.unloadStockWork {tag : Word} {printer : Byte} {n : SlipId} (h : HoldKeeps s t) :
    HoldKeeps s (unloadStockWork tag printer n t) := by
  unfold unloadStockWork
  split
  · exact h.addReturn
  · exact h.addReturn.ite (h.addReturn.ite h.replaceMagazine.addReturn)

protected theorem HoldKeeps.setStockKindWork {tag : Word} {kind : Byte} {lowMark band : BitVec 16} {n : SlipId}
    (h : HoldKeeps s t) : HoldKeeps s (setStockKindWork tag kind lowMark band n t) := by
  have written : ∀ {k lowMark band}, HoldKeeps s (writeStockKind k lowMark band t) :=
    HoldKeeps.ite (h.same rfl rfl) (h.same rfl rfl)
  unfold setStockKindWork
  split
  · exact h.addReturn
  · exact written.addReturn
  · exact h

protected theorem HoldKeeps.rollCallWork {tag : Word} {line mask : Byte} {n : SlipId} (h : HoldKeeps s t) :
    HoldKeeps s (rollCallWork tag line mask n t) := by
  unfold rollCallWork
  split
  · exact h.addReturn
  · exact h.addReturn.ite (h.addReturn.ite (h.modLine id).rollRequest)
  · exact h

protected theorem HoldKeeps.serviceAction {action : Byte} (h : HoldKeeps s t) : HoldKeeps s (serviceAction p action t).2 := by
  have left : HoldKeeps s (leaveService p t) :=
    have away := (h.enterState.leaveSelection.modPrinter (.inl rfl)).modLineRecord
    (away.modPrinter (.inl rfl)).markPrinter.ite away
  unfold serviceAction
  dsimp only
  split
  · split
    · exact h.enterState.rollRequest
    · exact h
  · split
    · split
      iterate 3
        · split
          · exact left
          · exact h
      iterate 3 exact h
    · split
      · exact (h.modPrinter (.inl rfl)).markPrinter.ite h
      · exact h

protected theorem HoldKeeps.printerServiceWork {tag : Word} {printer action : Byte} {n : SlipId} (h : HoldKeeps s t) :
    HoldKeeps s (printerServiceWork tag printer action n t) := by
  unfold printerServiceWork
  split
  · exact h.addReturn
  · exact h.serviceAction.addReturn.ite h.addReturn

protected theorem HoldKeeps.setWindowWork {tag : Word} {r : WindowRequest} {n : SlipId} (h : HoldKeeps s t) :
    HoldKeeps s (setWindowWork tag r n t) := by
  have written : ∀ {w x}, HoldKeeps s (modWindow w (fun _ => x) t) := h.same rfl rfl
  unfold setWindowWork
  split
  · exact h.addReturn
  · exact (written.ite (written.forEach fun _ _ k => k.releaseHold)).addReturn
  · exact h

protected theorem HoldKeeps.writePrinter {configured : Bool} {group : GroupId} (h : HoldKeeps s t) :
    HoldKeeps s (writePrinter p configured group t) := by
  unfold writePrinter
  dsimp only
  split
  · exact (h.modPrinter (.inl rfl)).enterState.modLineRecord
  · exact (h.modPrinter (.inl rfl)).enterState.modLineRecord.leaveSelection.modLine id
  · exact h.modPrinter (.inl rfl)

protected theorem HoldKeeps.setPrinterWork {tag : Word} {printer configured group : Byte} {n : SlipId} (h : HoldKeeps s t) :
    HoldKeeps s (setPrinterWork tag printer configured group n t) := by
  unfold setPrinterWork
  split
  · exact h.addReturn
  · exact h.writePrinter.addReturn.ite h.addReturn
  · exact h

protected theorem HoldKeeps.setLineWork {tag : Word} {line rate window limit : Byte} {n : SlipId} (h : HoldKeeps s t) :
    HoldKeeps s (setLineWork tag line rate window limit n t) := by
  have configured : ∀ {l c}, HoldKeeps s (modLineConfig l (fun _ => c) t) := h.same rfl rfl
  unfold setLineWork
  split
  · exact h.addReturn
  · exact (configured.forEach fun _ _ k => k.modLineRecord).addReturn.ite h.addReturn
  · exact h

/-! ### Sweeps and ticks -/

protected theorem HoldKeeps.ageWindow (h : HoldKeeps s t) : HoldKeeps s (ageWindow w t) := by
  unfold ageWindow
  split
  · exact h
  · split
    · exact h
    · exact h.modJob.ite ((h.modJob.ite h.finishJob).ite h.modJob)

/-- The watch on a hold leaves it its window's, or releases it (R88). -/
protected theorem HoldKeeps.watchHold (h : HoldKeeps s t) : HoldKeeps s (watchHold p t) := by
  unfold watchHold
  split
  · exact h
  · next x hx =>
    have judged : ∀ idle : Bool, HoldKeeps s (modPrinter p (fun y => { y with hold := some { x with idle := idle } }) t) :=
      fun idle => h.modPrinter (.inl (by rw [hx]; rfl))
    exact (h.releaseHold.ite (judged true)).ite (judged false)

protected theorem HoldKeeps.watchPrinter (h : HoldKeeps s t) : HoldKeeps s (watchPrinter p t) := by
  have waits : HoldKeeps s (forEach (flightList t p) (fun i => modJob i fun j => { j with outcomeWait := true }) t) :=
    h.forEach fun _ _ k => k.modJob
  unfold watchPrinter watchOutcomes
  dsimp only
  refine HoldKeeps.watchHold ?_
  split
  · exact waits
  · exact waits.raiseFault

protected theorem HoldKeeps.blockWork {windows : List WindowId} {printers : List PrinterId} {block : Fin 4}
    (h : HoldKeeps s t) : HoldKeeps s (blockWork windows printers block t) := by
  unfold blockWork
  split
  · exact h.forEach fun _ _ k => k.ageWindow
  · exact h.forEach fun _ _ k => k.watchPrinter
  · exact h.forEach fun _ _ k => k.startRound
  · exact h.same rfl rfl

protected theorem HoldKeeps.modTime {f : TimeBase → TimeBase} (h : HoldKeeps s t) : HoldKeeps s (modTime f t) := h.same rfl rfl

protected theorem HoldKeeps.allowanceReload (h : HoldKeeps s t) : HoldKeeps s (allowanceReload t) :=
  HoldKeeps.ite (h.same rfl rfl) h

protected theorem HoldKeeps.sweepEvent {blocks windows printers : List Nat} (h : HoldKeeps s t) :
    HoldKeeps s (sweepEvent blocks windows printers t) :=
  h.modTime.allowanceReload.modTime.forEach fun _ _ k => k.blockWork

protected theorem HoldKeeps.clockAdvance (h : HoldKeeps s t) : HoldKeeps s (clockAdvance t) := by
  rw [clockAdvance_eq]
  exact h.same rfl rfl

theorem holdKeeps_tickWork (s : State) : HoldKeeps s (tickWork s) :=
  have clock : ∀ {u : State}, HoldKeeps s u → HoldKeeps s (tickClock u) := fun k => k.clockAdvance.ite k.modTime
  have sweep : ∀ {u : State}, HoldKeeps s u → HoldKeeps s (tickSweep u) := fun k =>
    (k.sweepEvent.allowanceReload.ite k.modTime).ite k
  have reloaded := (HoldKeeps.refl s).allowanceReload
  tickWork_cases (HoldKeeps s) (sweep (clock reloaded)) (clock (sweep reloaded))

/-! ### Grants (R74, R83, R84) -/

/-- What R74 has of the holds where a printer is chosen for a job: no other window holds the printer, and where the job's
window holds a printer, it is this one. -/
theorem holds_of_chosenPrinter (law : HoldLaw s) (h : chosenPrinter s j = some p) (hw : j.window = some w) :
    (∀ x, s.printers[p].hold = some x → x.window = w) ∧ ∀ q, holds s w q = true → q = p := by
  have chosen := (List.mem_filter.mp (fewestJobs_mem h)).2
  simp only [eligible, suits, Bool.and_eq_true] at chosen
  obtain ⟨⟨-, own⟩, free⟩ := chosen
  refine ⟨fun x hx => ?_, fun q hq => ?_⟩
  · rw [heldByOther, hx, hw] at free
    simpa using free
  · unfold ownHoldAllows heldPrinter at own
    rw [hw] at own
    cases hf : (every 16).find? (holds s w) with
    | none => exact absurd hq (List.find?_eq_none.mp hf q (List.mem_finRange q))
    | some k =>
      obtain rfl : k = p := by simpa [hf] using own
      exact law w q k hq (List.find?_some hf)

/-- The hold of R84 is the granted window's, or the one that stood. -/
theorem holdAfterGrant_window {r : WindowRecord} {sale : BitVec 16} {old : Option Hold} {x : Hold}
    (stood : ∀ y, old = some y → y.window = w) (h : holdAfterGrant r w sale old = some x) : x.window = w := by
  unfold holdAfterGrant at h
  split at h
  · cases h
    rfl
  · cases h
    rfl
  · obtain ⟨y, hy, rfl⟩ := Option.map_eq_some_iff.mp h
    exact stood y hy

/-- A grant keeps the law of holds: its window holds no other printer, by condition 8 of R74. -/
theorem holdKeeps_setHold (chosen : chosenPrinter s j = some p)
    (holders : ∀ q : PrinterId, t.printers[q].hold = s.printers[q].hold)
    (h : HoldKeeps s t) : HoldKeeps s (setHold j p t) := by
  unfold setHold
  split
  · next w hw =>
    refine ⟨fun law => ?_, h.2⟩
    obtain ⟨stood, only⟩ := holds_of_chosenPrinter law chosen hw
    have granted : ∀ v q,
        holds (modPrinter p (fun x => { x with hold := holdAfterGrant t.windows[w] w j.sale x.hold }) t) v q = true →
          (q = p ∧ v = w) ∨ holds s v q = true := fun v q hq => by
      rw [holds_iff] at *
      rw [modPrinter_printers, upd_get] at hq
      split at hq
      · next e =>
        subst e
        obtain ⟨x, hx, rfl⟩ := hq
        exact .inl ⟨rfl, holdAfterGrant_window (by rw [holders]; exact stood) hx⟩
      · rw [← holders]
        exact .inr hq
    intro v a b ha hb
    rcases granted v a ha with ⟨rfl, rfl⟩ | ha'
    · rcases granted v b hb with ⟨rfl, -⟩ | hb'
      · rfl
      · exact (only b hb').symm
    · rcases granted v b hb with ⟨rfl, rfl⟩ | hb'
      · exact only a ha'
      · exact law v a b ha' hb'
  · exact h

theorem joined_hold (p q : PrinterId) (i : JobIx) (w : WindowId) (s : State) :
    (joinPrinter p i (leaveQueue w i s)).printers[q].hold = s.printers[q].hold := by
  obtain ⟨-, printers, -⟩ := setQueue_frame w (s.queues[w].filter (· != i)) s
  simp only [joinPrinter, leaveQueue, markPrinter, modPort, modJob, modPrinter, printers, upd_get]
  split <;> rfl

theorem holdKeeps_grantTo {ring : State → State} (hr : ∀ u, (ring u).printers = u.printers ∧ (ring u).lines = u.lines) :
    HoldKeeps s (grantTo w ring s) := by
  have own := HoldKeeps.refl s
  unfold grantTo
  split
  · exact own
  · next i _ =>
    split
    · exact own
    · next j _ =>
      split
      · exact own
      · next p chosen =>
        have moved := holdKeeps_setHold chosen (fun q => joined_hold p q i w s) own.setQueue.joinPrinter
        obtain ⟨printers, lines⟩ := hr (moveToPrinter w i j p s)
        exact moved.same printers lines

theorem afterStandard_frame (g : GroupId) (w : WindowId) (s : State) :
    (afterStandard g w s).printers = s.printers ∧ (afterStandard g w s).lines = s.lines := by
  unfold afterStandard
  dsimp only
  split <;> exact ⟨rfl, rfl⟩

protected theorem HoldKeeps.grantOnce {g : GroupId} (h : HoldKeeps s t) : HoldKeeps s (grantOnce g t) := by
  unfold grantOnce
  split
  · exact h.trans (holdKeeps_grantTo fun _ => ⟨rfl, rfl⟩)
  · split
    · exact h.trans (holdKeeps_grantTo (afterStandard_frame g _))
    · exact h

protected theorem HoldKeeps.actRepeatedly {g : GroupId} (fuel : Nat) (h : HoldKeeps s t) :
    HoldKeeps s (actRepeatedly g fuel t) := by
  induction fuel generalizing t with
  | zero => exact h
  | succ fuel ih => exact (ih (h.forEach fun _ _ k => k.releaseHold).grantOnce).ite h

end

end Sys2Proof.Machine
end

section
/-! PROOF. R83 and R109: what every step keeps of the holds and of the roll-call sets. -/

namespace Sys2Proof.Machine

section
variable {s t u : State}

/-! ### Power and starts -/

theorem holdLaw_of_free (free : ∀ p : PrinterId, s.printers[p].hold = none) : HoldLaw s := fun w p q hp => by
  obtain ⟨x, hx, -⟩ := holds_iff.mp hp
  exact absurd (hx.symm.trans (free p)) (Option.some_ne_none x)

/-- After a start no printer is held (R171) and the lines are at their start values (R98). -/
theorem holdKeeps_clearVolatile (attn : BitVec 7) (v : State) : HoldKeeps s (clearVolatile attn v) := by
  refine ⟨fun _ => holdLaw_of_free fun p => ?_, fun _ => rollLaw_iff.mpr fun l => ?_⟩
  · simp [clearVolatile, printerAfterStart]
  · have start : (clearVolatile attn v).lines[l] = .start := by simp [clearVolatile]
    rw [start]
    exact ⟨rfl, rfl, rfl⟩

theorem holdKeeps_checkedStart (strap : Bool) (v : State) : HoldKeeps s (checkedStart strap v) :=
  (holdKeeps_clearVolatile 0#7 v).same rfl rfl

/-- A cold start leaves every printer record at its default, held by no window (R172). -/
theorem holdKeeps_coldRecords (clock : Word) (s : State) : HoldKeeps s (coldRecords clock s) := by
  refine ⟨fun _ => holdLaw_of_free fun p => ?_, id⟩
  simp [coldRecords, Printer.default]

protected theorem HoldKeeps.settleNote {p : PrinterId} {n : Note} (h : HoldKeeps s t) : HoldKeeps s (settleNote p n t) := by
  unfold settleNote
  dsimp only
  split
  · exact h.inDoubtBlank.modTally
  · exact h.inDoubtBlank

protected theorem HoldKeeps.faultHolder {held : PrinterId → Option Nat} {p : PrinterId} (h : HoldKeeps s t) :
    HoldKeeps s (faultHolder held p t) := by
  unfold faultHolder
  split
  · exact h.raiseFault
  · exact h

protected theorem HoldKeeps.recoverPrinter {p : PrinterId} (h : HoldKeeps s t) : HoldKeeps s (recoverPrinter p t) := by
  unfold recoverPrinter
  split
  iterate 3 exact h.enterState.rollRequest
  iterate 3 exact h

protected theorem HoldKeeps.clearOpenJobs (h : HoldKeeps s t) : HoldKeeps s (clearOpenJobs t) := h.same rfl rfl

protected theorem HoldKeeps.finishStart {lost : Bool} (h : HoldKeeps s t) : HoldKeeps s (finishStart lost t) := h.same rfl rfl

protected theorem HoldKeeps.sealStore (h : HoldKeeps s t) : HoldKeeps s (sealStore t) := h.same rfl rfl

protected theorem HoldKeeps.rewriteChecks (h : HoldKeeps s t) : HoldKeeps s (rewriteChecks u t) := h.same rfl rfl

theorem holdKeeps_settleWarm (s : State) : HoldKeeps s (settleWarm s) := by
  have settled : HoldKeeps s (settleBlanks s) :=
    ((((HoldKeeps.refl s).forEach fun _ _ k => k.forEach fun _ _ k => k.settleNote).forEach fun _ _ k =>
      k.faultHolder).forEach fun _ _ k => k.recoverPrinter).forEach fun _ _ k => k.recomputeKind
  exact settled.clearOpenJobs

theorem holdKeeps_completeStart (st : StartInProgress) (s : State) : HoldKeeps s (completeStart st s) :=
  HoldKeeps.ite (holdKeeps_coldRecords st.seconds s).finishStart.sealStore (holdKeeps_settleWarm s).finishStart.rewriteChecks

/-- PCI reset leaves every roll call as it stands. -/
theorem holdKeeps_execPciReset (h : execPciReset s = .next t) : HoldKeeps s t := by
  cases h
  refine HoldKeeps.ite ⟨id, fun law l => ?_⟩ (.refl s)
  simpa using law l

/-! ### What a whole command keeps -/

/-- Work that is done while the part is live. -/
theorem holdKeeps_whenLive {f : State → State} (h : whenLive s f = .next t) (hf : HoldKeeps s (f s)) : HoldKeeps s t := by
  rw [whenLive_eq_next] at h
  subst h
  exact HoldKeeps.ite (hf.same rfl rfl) (.refl s)

theorem holdKeeps_takeSlip (s : State) : HoldKeeps s (takeSlip s) := (HoldKeeps.refl s).same rfl rfl

/-- A slip handed on for its work. -/
theorem holdKeeps_handOn {work : SlipId → State → State} (h : handOn work s = .next t)
    (hw : ∀ {n : SlipId} {u : State}, HoldKeeps u u → HoldKeeps u (work n u)) : HoldKeeps s t := by
  refine holdKeeps_whenLive h ?_
  split
  · exact (holdKeeps_takeSlip s).trans (hw (.refl _))
  · exact .refl s

theorem holdKeeps_handOnForRecord {work : SlipId → State → State} (h : handOnForRecord work s = .next t)
    (hw : ∀ {n : SlipId} {u : State}, HoldKeeps u u → HoldKeeps u (work n u)) : HoldKeeps s t := by
  refine holdKeeps_whenLive h ?_
  split
  · exact HoldKeeps.ite ((HoldKeeps.refl s).same rfl rfl) ((holdKeeps_takeSlip s).trans (hw (.refl _)))
  · exact .refl s

/-- A write to the register window, whichever command it spells (R1, R3, R20). -/
theorem holdKeeps_writeEffect (write : Instr) (s : State) : HoldKeeps s (writeEffect write s) := by
  have own := HoldKeeps.refl s
  cases write with
  | xbaseWrite value => exact HoldKeeps.ite (own.same rfl rfl) own
  | post value =>
    show HoldKeeps s (writePost value s)
    unfold writePost
    split
    · exact HoldKeeps.ite (own.same rfl rfl) (HoldKeeps.ite (own.same rfl rfl) (own.same rfl rfl))
    · exact own.same rfl rfl
  | run =>
    show HoldKeeps s (runCommand s)
    unfold runCommand
    split
    · exact own.ite (own.same rfl rfl)
    · exact own
    iterate 2 exact own.same rfl rfl
  | hold => exact HoldKeeps.ite (own.allowanceReload.same rfl rfl) own
  | restart | cold => exact (holdKeeps_clearVolatile 0#7 s).same rfl rfl
  | _ => exact own.same rfl rfl

/-- The exchange engine's work leaves printers and lines alone. -/
def EngineOnly (s t : State) : Prop := t.printers = s.printers ∧ t.lines = s.lines

theorem EngineOnly.holdKeeps (h : EngineOnly s t) : HoldKeeps s t := (HoldKeeps.refl s).same h.1 h.2

theorem engineOnly_startRetry (f : FailedAccess) (s : State) : EngineOnly s (startRetry f s) := by
  cases f with
  | returning =>
    unfold startRetry startReturn
    dsimp only
    split <;> exact ⟨rfl, rfl⟩
  | _ => exact ⟨rfl, rfl⟩

theorem engineOnly_startFirstWaiting (s : State) : EngineOnly s (startFirstWaiting s) := by
  unfold startFirstWaiting
  split
  · exact engineOnly_startRetry ..
  · split
    · exact engineOnly_startRetry .returning s
    · split
      · next u hu =>
        unfold startTableWrite at hu
        split at hu <;> cases hu <;> exact ⟨rfl, rfl⟩
      · split
        · exact ⟨rfl, rfl⟩
        · unfold startFetch
          split <;> exact ⟨rfl, rfl⟩

protected theorem HoldKeeps.refundWork {tag : Word} {r : RefundRequest} {n : SlipId} (h : HoldKeeps s t) :
    HoldKeeps s (refundWork tag r n t) := by
  unfold refundWork
  split
  iterate 3 exact h.same rfl rfl

protected theorem HoldKeeps.readTallyWork {tag : Word} {window : Byte} {n : SlipId} (h : HoldKeeps s t) :
    HoldKeeps s (readTallyWork tag window n t) := by
  unfold readTallyWork
  split
  iterate 2 exact h.addReturn

protected theorem HoldKeeps.readSpoilsWork {tag : Word} {index : BitVec 16} {n : SlipId} (h : HoldKeeps s t) :
    HoldKeeps s (readSpoilsWork tag index n t) := h.addReturn.ite h.addReturn

protected theorem HoldKeeps.setOfficeWork {tag : Word} {r : OfficeRequest} {n : SlipId} (h : HoldKeeps s t) :
    HoldKeeps s (setOfficeWork tag r n t) := by
  unfold setOfficeWork
  split
  iterate 2 exact h.same rfl rfl

protected theorem HoldKeeps.setRouteWork {tag : Word} {r : RouteRequest} {n : SlipId} (h : HoldKeeps s t) :
    HoldKeeps s (setRouteWork tag r n t) := by
  unfold setRouteWork
  split
  iterate 3 exact h.same rfl rfl

/-- What every command keeps. -/
theorem holdKeeps_exec {c : Instr} (h : exec c s = .next t) : HoldKeeps s t := by
  have own : HoldKeeps s s := .refl s
  have engine : ∀ {f : State → State}, whenLive s f = .next t → EngineOnly s (f s) → HoldKeeps s t := fun hf only =>
    holdKeeps_whenLive hf only.holdKeeps
  cases c with
  | xbaseWrite value => exact holdKeeps_whenLive h (holdKeeps_writeEffect (.xbaseWrite value) s)
  | post value => exact holdKeeps_whenLive h (holdKeeps_writeEffect (.post value) s)
  | attnWrite value => exact holdKeeps_whenLive h (holdKeeps_writeEffect (.attnWrite value) s)
  | attnEnWrite value => exact holdKeeps_whenLive h (holdKeeps_writeEffect (.attnEnWrite value) s)
  | run => exact holdKeeps_whenLive h (holdKeeps_writeEffect .run s)
  | hold => exact holdKeeps_whenLive h (holdKeeps_writeEffect .hold s)
  | restart => exact holdKeeps_whenLive h (holdKeeps_writeEffect .restart s)
  | cold => exact holdKeeps_whenLive h (holdKeeps_writeEffect .cold s)
  | registerWriteIgnored offset enables value => exact holdKeeps_whenLive h (holdKeeps_writeEffect _ s)
  | powerUp strap =>
    cases h
    exact own.ite (holdKeeps_checkedStart _ _)
  | pciReset => exact holdKeeps_execPciReset h
  | pciResetRelease =>
    cases h
    exact (holdKeeps_checkedStart _ _).ite own
  | mainPowerLoss =>
    cases h
    exact HoldKeeps.ite ((holdKeeps_clearVolatile 0#7 s).same rfl rfl) own
  | vbkLoss =>
    cases h
    exact own.ite (own.same rfl rfl)
  | startComplete =>
    cases h
    refine HoldKeeps.ite ?_ own
    split
    · exact holdKeeps_completeStart ..
    · exact own
  | officeClockAdvance =>
    cases h
    exact HoldKeeps.ite (own.clockAdvance.same rfl rfl) own
  | sweep blocks windows printers => exact holdKeeps_whenLive h (own.sweepEvent.ite own)
  | allowanceReload => exact holdKeeps_whenLive h own.allowanceReload
  | fetchRequest =>
    change execFetchRequest s = .next t at h
    refine engine h ?_
    split <;> exact ⟨rfl, rfl⟩
  | engineAccessStart =>
    change execEngineAccessStart s = .next t at h
    refine engine h ?_
    split
    · exact engineOnly_startFirstWaiting s
    · exact ⟨rfl, rfl⟩
  | returnResultWritten =>
    change execReturnResultWritten s = .next t at h
    refine engine h ?_
    split <;> exact ⟨rfl, rfl⟩
  | returnComplete =>
    change execReturnComplete s = .next t at h
    refine engine h ?_
    split <;> exact ⟨rfl, rfl⟩
  | headerWriteComplete =>
    change execHeaderWriteComplete s = .next t at h
    refine engine h ?_
    split <;> exact ⟨rfl, rfl⟩
  | tableWriteComplete =>
    change execTableWriteComplete s = .next t at h
    refine engine h ?_
    split
    iterate 2 split <;> exact ⟨rfl, rfl⟩
    exact ⟨rfl, rfl⟩
  | accessFail =>
    change execAccessFail s = .next t at h
    refine engine h ?_
    split
    · rw [exchangeFault_eq]
      exact ⟨rfl, rfl⟩
    · exact ⟨rfl, rfl⟩
  | issue tag r => exact holdKeeps_handOnForRecord h fun k => k.issueWork
  | void tag window sale => exact holdKeeps_handOn h fun k => k.voidWork
  | refund tag r => exact holdKeeps_handOn h fun k => k.refundWork
  | readTally tag window => exact holdKeeps_handOn h fun k => k.readTallyWork
  | loadStock tag r => exact holdKeeps_handOn h fun k => k.loadStockWork
  | unloadStock tag printer => exact holdKeeps_handOn h fun k => k.unloadStockWork
  | readSpoils tag index => exact holdKeeps_handOn h fun k => k.readSpoilsWork
  | rollCall tag line mask => exact holdKeeps_handOn h fun k => k.rollCallWork
  | testPrint tag r => exact holdKeeps_handOnForRecord h fun k => k.testPrintWork
  | printerServiceEnter tag printer | printerServiceLeave tag printer =>
    exact holdKeeps_handOn h fun k => k.printerServiceWork
  | printerServiceAcknowledge tag printer action => exact holdKeeps_handOn h fun k => k.printerServiceWork
  | cashUp tag r => exact holdKeeps_handOn h fun k => k.cashUpWork
  | endOfDay tag => exact holdKeeps_handOn h fun k => k.endOfDayWork
  | setOffice tag r => exact holdKeeps_handOn h fun k => k.setOfficeWork
  | setWindow tag r => exact holdKeeps_handOn h fun k => k.setWindowWork
  | setRoute tag r => exact holdKeeps_handOn h fun k => k.setRouteWork
  | setPrinter tag printer configured group => exact holdKeeps_handOn h fun k => k.setPrinterWork
  | setLine tag line rate window limit => exact holdKeeps_handOn h fun k => k.setLineWork
  | setStockKind tag kind lowMark band => exact holdKeeps_handOn h fun k => k.setStockKindWork
  | badKind tag kind =>
    change execBadKind tag kind s = .next t at h
    unfold execBadKind at h
    split at h
    · cases h
      exact own
    · exact holdKeeps_handOn h fun k => k.addReturn
  | arbiterAction g => exact holdKeeps_whenLive h ((own.actRepeatedly 64).ite own)
  | lineTurn l => exact holdKeeps_whenLive h own.lineTurn
  | replyWindowExpiry l => exact holdKeeps_whenLive h (own.receiveNothing.ite own)
  | characterGapTimeout l => exact holdKeeps_whenLive h own.receiveNothing
  | badReply l bytes => exact holdKeeps_whenLive h (own.receiveRaw.ite own)
  | frameDiscarded l bytes =>
    cases h
    exact own
  | status l address flags waiting entries => exact holdKeeps_whenLive h own.receiveReply
  | accept l address token => exact holdKeeps_whenLive h own.receiveReply
  | refuse l address token reason => exact holdKeeps_whenLive h own.receiveReply
  | serial l address serial kind => exact holdKeeps_whenLive h own.receiveReply
  | retry l address => exact holdKeeps_whenLive h own.receiveReply
  | slotExpiry l => exact holdKeeps_whenLive h (own.endSlot.ite own)
  | badAnswer l bytes => exact holdKeeps_whenLive h (own.receiveRaw.ite own)
  | commandFrameEnd l => exact holdKeeps_whenLive h own.commandFrameEnd

/-- What every step keeps. -/
theorem holdKeeps_step (h : step s = .next t) : HoldKeeps s t := by
  unfold step at h
  split at h
  · next c rest _ => exact HoldKeeps.trans (t := s.withPending rest) ((HoldKeeps.refl s).same rfl rfl) (holdKeeps_exec h)
  · cases h
    exact HoldKeeps.ite ((holdKeeps_tickWork s).same rfl rfl) (.refl s)

end

/-- Settles O8, each law by itself. -/
theorem holdLawKept : Obligations.HoldLawKept :=
  ⟨fun _ _ law h => (holdKeeps_step h).1 law, fun _ _ law h => (holdKeeps_step h).2 law⟩

end Sys2Proof.Machine
end

section
/-! SUPPORT. The Group Arbiters: the cyclic order of the windows, what a grant changes, and that a requester is granted. -/

namespace Sys2Proof.Machine

section
variable {s t u : State} {g : GroupId} {a v w : WindowId} {i : JobIx} {j : Job} {p : PrinterId}

/-! ### The cyclic order of the windows (R78, R79) -/

/-- In a list sorted by a measure, the first element a test admits is the admitted one of least measure. -/
theorem firstWhere_eq_some_iff_least {α : Type} {l : List α} {measure : α → Nat} {test : α → Bool} {x : α}
    (sorted : l.Pairwise (measure · < measure ·)) :
    firstWhere l test = some x ↔ x ∈ l ∧ test x = true ∧ ∀ y ∈ l, test y = true → measure x ≤ measure y := by
  induction l with
  | nil => simp [firstWhere]
  | cons b rest ih =>
    obtain ⟨least, sorted⟩ := List.pairwise_cons.mp sorted
    cases hb : test b with
    | true =>
      have first : firstWhere (b :: rest) test = some b := List.find?_cons_of_pos hb
      rw [first, Option.some_inj]
      constructor
      · rintro rfl
        refine ⟨List.mem_cons_self, hb, fun y hy _ => ?_⟩
        rcases List.mem_cons.mp hy with rfl | hy
        · exact Nat.le_refl _
        · exact Nat.le_of_lt (least y hy)
      · rintro ⟨hx, -, below⟩
        rcases List.mem_cons.mp hx with rfl | hx
        · rfl
        · exact absurd (below b List.mem_cons_self hb) (Nat.not_le.mpr (least x hx))
    | false =>
      have skips : firstWhere (b :: rest) test = firstWhere rest test := List.find?_cons_of_neg (by simp [hb])
      rw [skips, ih sorted]
      constructor
      · rintro ⟨hx, admitted, below⟩
        refine ⟨List.mem_cons_of_mem b hx, admitted, fun y hy ty => ?_⟩
        rcases List.mem_cons.mp hy with rfl | hy
        · rw [hb] at ty
          cases ty
        · exact below y hy ty
      · rintro ⟨hx, admitted, below⟩
        rcases List.mem_cons.mp hx with rfl | hx
        · rw [hb] at admitted
          cases admitted
        · exact ⟨hx, admitted, fun y hy => below y (List.mem_cons_of_mem b hy)⟩

/-- How many windows the search from the one after `a` passes before it comes to `b`, `a` itself last. -/
def passedBefore (a b : WindowId) : Nat := (b.val + 23 - a.val) % 24

theorem passedBefore_lt (a b : WindowId) : passedBefore a b < 24 := Nat.mod_lt _ (by decide)

/-- Only the window itself comes last. -/
theorem passedBefore_lt_last : passedBefore a v < 23 ↔ v ≠ a := by
  unfold passedBefore
  rw [ne_eq, Fin.ext_iff]
  omega

/-- The search's first windows, by their place in it. -/
theorem mem_take_windowsAfter {n : Nat} (hn : n ≤ 24) : v ∈ (windowsAfter a).take n ↔ passedBefore a v < n := by
  unfold windowsAfter passedBefore
  rw [← List.map_take, List.take_range, Nat.min_eq_left hn]
  simp only [List.mem_map, List.mem_range, Fin.ext_iff]
  constructor
  · rintro ⟨k, hk, place⟩
    omega
  · exact fun h => ⟨_, h, by omega⟩

theorem mem_windowsAfter (a v : WindowId) : v ∈ windowsAfter a :=
  List.mem_of_mem_take ((mem_take_windowsAfter (Nat.le_refl 24)).mpr (passedBefore_lt a v))

/-- The search meets the windows in its own order. -/
theorem windowsAfter_sorted (a : WindowId) : (windowsAfter a).Pairwise (passedBefore a · < passedBefore a ·) := by
  refine List.pairwise_map.mpr (List.pairwise_lt_range.imp_of_mem fun {b c} hb hc less => ?_)
  rw [List.mem_range] at hb hc
  have place : ∀ k, k < 24 → passedBefore a ⟨(a.val + 1 + k) % 24, Nat.mod_lt _ (by decide)⟩ = k := fun k hk => by
    unfold passedBefore
    dsimp only
    omega
  rw [place b hb, place c hc]
  exact less

theorem firstWhere_windowsAfter {test : WindowId → Bool} : firstWhere (windowsAfter a) test = some w ↔
    test w = true ∧ ∀ v, test v = true → passedBefore a w ≤ passedBefore a v := by
  rw [firstWhere_eq_some_iff_least (windowsAfter_sorted a)]
  simp [mem_windowsAfter]

/-- The search among the other windows (R79). -/
theorem firstWhere_others {test : WindowId → Bool} : firstWhere ((windowsAfter a).take 23) test = some w ↔
    w ≠ a ∧ test w = true ∧ ∀ v, v ≠ a → test v = true → passedBefore a w ≤ passedBefore a v := by
  rw [firstWhere_eq_some_iff_least ((windowsAfter_sorted a).sublist (List.take_sublist _ _))]
  simp only [mem_take_windowsAfter (show 23 ≤ 24 by decide), passedBefore_lt_last]

theorem firstWhere_others_none {test : WindowId → Bool} (none : ∀ v, v ≠ a → test v = false) :
    firstWhere ((windowsAfter a).take 23) test = .none := by
  refine List.find?_eq_none.mpr fun v hv => ?_
  rw [mem_take_windowsAfter (by decide), passedBefore_lt_last] at hv
  simp [none v hv]

/-! ### What the grant's work changes -/

theorem setQueue_eq (w : WindowId) (q : List JobIx) (s : State) :
    ∃ jobs, setQueue w q s = { s with queues := put s.queues w q, jobs := jobs } := by
  unfold setQueue
  dsimp only
  split
  · split <;> exact ⟨_, rfl⟩
  · exact ⟨_, rfl⟩

/-- The move of R81: the job leaves its window's queue for the tail of the printer's list; with it only job records, holds and
marks change. -/
theorem moveToPrinter_eq (w : WindowId) (i : JobIx) (j : Job) (p : PrinterId) (s : State) : ∃ jobs printers marks,
    moveToPrinter w i j p s = { s with
      queues := put s.queues w (s.queues[w].filter (· != i)), jobs := jobs, printers := printers
      port := { s.port with printerMarks := marks } } ∧
    ∀ q : PrinterId, printers[q].state = s.printers[q].state ∧
      printers[q].outstanding = if p = q then s.printers[q].outstanding ++ [i] else s.printers[q].outstanding := by
  obtain ⟨jobs, e⟩ := setQueue_eq w (s.queues[w].filter (· != i)) s
  have left : leaveQueue w i s = _ := e
  have joined : ∀ q : PrinterId, (upd s.printers p fun x => { x with outstanding := x.outstanding ++ [i] })[q].state =
      s.printers[q].state ∧ (upd s.printers p fun x => { x with outstanding := x.outstanding ++ [i] })[q].outstanding =
      if p = q then s.printers[q].outstanding ++ [i] else s.printers[q].outstanding := fun q => by
    rw [upd_get]
    split
    · next same =>
      subst same
      exact ⟨rfl, rfl⟩
    · exact ⟨rfl, rfl⟩
  unfold moveToPrinter
  rw [left]
  unfold setHold
  split
  · refine ⟨_, _, _, rfl, fun q => ?_⟩
    rw [← (joined q).1, ← (joined q).2, upd_get]
    split <;> exact ⟨rfl, rfl⟩
  · exact ⟨_, _, _, rfl, joined⟩

/-! ### A requester is granted (R74, R80) -/

theorem fewestJobs_isSome {l : List PrinterId} (h : l ≠ []) : ∃ p, fewestJobs s l = some p := by
  cases l with
  | nil => exact absurd rfl h
  | cons q rest =>
    unfold fewestJobs
    split
    · exact ⟨_, rfl⟩
    · split <;> exact ⟨_, rfl⟩

theorem isRequester_iff : isRequester s g w = true ↔
    ∃ j, headJob s w = some j ∧ targetGroup s j = some g ∧ ∃ p, eligible s p j = true := by
  unfold isRequester
  cases headJob s w with
  | none => simp
  | some j => simp [eligiblePrinters, every]

/-- A grant to a requester's window moves its head job to a printer and turns the ring. -/
theorem grantTo_of_requester (h : isRequester s g w = true) (ring : State → State) : ∃ i j p,
    s.queues[w].head? = some i ∧ chosenPrinter s j = some p ∧ grantTo w ring s = ring (moveToPrinter w i j p s) := by
  obtain ⟨j, head, -, q, hq⟩ := isRequester_iff.mp h
  obtain ⟨i, hi, hj⟩ := Option.bind_eq_some_iff.mp head
  have someEligible : q ∈ eligiblePrinters s j := List.mem_filter.mpr ⟨List.mem_finRange q, hq⟩
  obtain ⟨p, chosen⟩ : ∃ p, chosenPrinter s j = some p := fewestJobs_isSome (List.ne_nil_of_mem someEligible)
  refine ⟨i, j, p, hi, chosen, ?_⟩
  unfold grantTo
  rw [hi]
  dsimp only
  rw [hj]
  dsimp only
  rw [chosen]

theorem inExpressRing_requester (h : inExpressRing s g w = true) : isRequester s g w = true := by
  unfold inExpressRing at h
  simp only [Bool.and_eq_true] at h
  obtain ⟨⟨requester, -⟩, -⟩ := h
  exact requester

theorem inStandardRing_requester (h : inStandardRing s g w = true) : isRequester s g w = true := by
  unfold inStandardRing at h
  simp only [Bool.and_eq_true] at h
  exact h.1

/-! ### The winners (R78, R79) -/

theorem expressWinner_iff : expressWinner s g = some w ↔ inExpressRing s g w = true ∧
    ∀ v, inExpressRing s g v = true → passedBefore s.arbiters[g].lastExpress w ≤ passedBefore s.arbiters[g].lastExpress v :=
  firstWhere_windowsAfter

theorem standardWinner_token (h : inStandardRing s g s.arbiters[g].token = true) :
    standardWinner s g = some s.arbiters[g].token := if_pos h

theorem standardWinner_searched (h : inStandardRing s g s.arbiters[g].token = false) :
    standardWinner s g = firstWhere (windowsAfter s.arbiters[g].token) (inStandardRing s g) := if_neg (Bool.eq_false_iff.mp h)

theorem standardWinner_iff (h : inStandardRing s g s.arbiters[g].token = false) :
    standardWinner s g = some w ↔ inStandardRing s g w = true ∧
      ∀ v, inStandardRing s g v = true → passedBefore s.arbiters[g].token w ≤ passedBefore s.arbiters[g].token v := by
  rw [standardWinner_searched h]
  exact firstWhere_windowsAfter

theorem standardWinner_inRing (h : standardWinner s g = some w) : inStandardRing s g w = true := by
  cases token : inStandardRing s g s.arbiters[g].token with
  | true =>
    obtain rfl : s.arbiters[g].token = w := Option.some_inj.mp ((standardWinner_token token).symm.trans h)
    exact token
  | false => exact ((standardWinner_iff token).mp h).1

/-- With a requester one of the rings has a winner (R77). -/
theorem winner_of_requester (h : isRequester s g w = true) (express : expressWinner s g = none) :
    ∃ v, standardWinner s g = some v := by
  have none : inExpressRing s g w = false := by
    simpa using List.find?_eq_none.mp express w (mem_windowsAfter _ w)
  have member : inStandardRing s g w = true := by simp [inStandardRing, h, none]
  cases token : inStandardRing s g s.arbiters[g].token with
  | true => exact ⟨_, standardWinner_token token⟩
  | false =>
    have found : (firstWhere (windowsAfter s.arbiters[g].token) (inStandardRing s g)).isSome = true :=
      List.find?_isSome.mpr ⟨w, mem_windowsAfter _ w, member⟩
    obtain ⟨v, hv⟩ := Option.isSome_iff_exists.mp found
    exact ⟨v, (standardWinner_searched token).trans hv⟩

theorem grantOnce_express (h : expressWinner s g = some w) : grantOnce g s = grantTo w (afterExpress g w) s := by
  unfold grantOnce
  rw [h]

theorem grantOnce_standard (express : expressWinner s g = none) (h : standardWinner s g = some w) :
    grantOnce g s = grantTo w (afterStandard g w) s := by
  unfold grantOnce
  rw [express]
  dsimp only
  rw [h]

end

end Sys2Proof.Machine
end

section
/-! PROOF. R78 and R79: the rings of a group. -/

namespace Sys2Proof.Machine

section
variable {s t u : State} {g : GroupId} {v w : WindowId}

/-! ### An express grant (R78) -/

theorem grantOnce_express_ring (h : expressWinner s g = some w) :
    (grantOnce g s).arbiters = put s.arbiters g { s.arbiters[g] with lastExpress := w } ∧
      (grantOnce g s).express = put s.express w (s.express[w] - 1) := by
  obtain ⟨i, j, p, -, -, granted⟩ :=
    grantTo_of_requester (inExpressRing_requester (expressWinner_iff.mp h).1) (afterExpress g w)
  obtain ⟨jobs, printers, marks, moved, -⟩ := moveToPrinter_eq w i j p s
  rw [grantOnce_express h, granted, moved]
  exact ⟨rfl, rfl⟩

/-! ### A standard grant (R79) -/

/-- The count of a standard grant: the burst goes on for the token window, and begins at 1 for another. -/
def burstAfter (s : State) (g : GroupId) (w : WindowId) : Nat :=
  if s.arbiters[g].token = w then s.arbiters[g].burst + 1 else 1

/-- The grant counted, before the token may pass on. -/
def countedGrant (g : GroupId) (w : WindowId) (s : State) : State :=
  modArbiter g (fun a => if a.token = w then { a with burst := a.burst + 1 } else { a with token := w, burst := 1 }) s

theorem countedGrant_arbiter (s : State) (g : GroupId) (w : WindowId) :
    (countedGrant g w s).arbiters[g] = { s.arbiters[g] with token := w, burst := burstAfter s g w } := by
  unfold countedGrant modArbiter burstAfter
  dsimp only
  rw [upd_get, if_pos rfl]
  split
  · next same => rw [← same]
  · rfl

theorem countedGrant_other {h : GroupId} (other : h ≠ g) (s : State) (w : WindowId) :
    (countedGrant g w s).arbiters[h] = s.arbiters[h] := by
  unfold countedGrant modArbiter
  dsimp only
  rw [upd_get, if_neg (Ne.symm other)]

theorem afterStandard_below (h : burstAfter s g w < s.windows[w].weight) : afterStandard g w s = countedGrant g w s := by
  refine if_neg ?_
  show ¬(s.windows[w].weight ≤ (countedGrant g w s).arbiters[g].burst)
  rw [countedGrant_arbiter]
  exact Nat.not_le.mpr h

theorem afterStandard_reached (h : s.windows[w].weight ≤ burstAfter s g w) :
    afterStandard g w s = passToken g (countedGrant g w s) := by
  refine if_pos ?_
  show s.windows[w].weight ≤ (countedGrant g w s).arbiters[g].burst
  rw [countedGrant_arbiter]
  exact h

/-- The token passed on, in a ring that the passing leaves as it is. -/
theorem passToken_eq (s : State) (g : GroupId) : passToken g s = modArbiter g (fun a => { a with
    token := (firstWhere ((windowsAfter s.arbiters[g].token).take 23) (inStandardRing (passToken g s) g)).getD
      ⟨(s.arbiters[g].token.val + 1) % 24, Nat.mod_lt _ (by decide)⟩
    burst := 0 }) s := rfl

theorem passToken_other {h : GroupId} (other : h ≠ g) (s : State) : (passToken g s).arbiters[h] = s.arbiters[h] := by
  unfold passToken modArbiter
  dsimp only
  rw [upd_get, if_neg (Ne.symm other)]

theorem passToken_arbiter (s : State) (g : GroupId) : (passToken g s).arbiters[g] = { s.arbiters[g] with
    token := (firstWhere ((windowsAfter s.arbiters[g].token).take 23) (inStandardRing (passToken g s) g)).getD
      ⟨(s.arbiters[g].token.val + 1) % 24, Nat.mod_lt _ (by decide)⟩
    burst := 0 } := by
  refine (congrArg (fun t : State => t.arbiters[g]) (passToken_eq s g)).trans ?_
  unfold modArbiter
  dsimp only
  rw [upd_get, if_pos rfl]

/-- The token passes to the next number where no other window is in the ring. -/
theorem passToken_alone (token : s.arbiters[g].token = w)
    (alone : ∀ v, v ≠ w → inStandardRing (passToken g s) g v = false) :
    (passToken g s).arbiters[g].token.val = (w.val + 1) % 24 := by
  subst token
  rw [passToken_arbiter]
  dsimp only
  rw [firstWhere_others_none alone]
  rfl

/-- The token passes to the first other window in the ring. -/
theorem passToken_first (token : s.arbiters[g].token = w) (other : v ≠ w) (member : inStandardRing (passToken g s) g v = true)
    (first : ∀ u, u ≠ w → inStandardRing (passToken g s) g u = true → passedBefore w v ≤ passedBefore w u) :
    (passToken g s).arbiters[g].token = v := by
  subst token
  rw [passToken_arbiter]
  dsimp only
  rw [firstWhere_others.mpr ⟨other, member, first⟩]
  rfl

/-- A standard grant turns the ring of a state with the arbiters, windows and express counts as they stood. -/
theorem grantOnce_standard_ring (express : expressWinner s g = none) (h : standardWinner s g = some w) :
    ∃ u, u.arbiters = s.arbiters ∧ u.windows = s.windows ∧ u.express = s.express ∧ grantOnce g s = afterStandard g w u := by
  obtain ⟨i, j, p, -, -, granted⟩ :=
    grantTo_of_requester (inStandardRing_requester (standardWinner_inRing h)) (afterStandard g w)
  obtain ⟨jobs, printers, marks, moved, -⟩ := moveToPrinter_eq w i j p s
  refine ⟨_, ?_, ?_, ?_, (grantOnce_standard express h).trans granted⟩
  iterate 3 rw [moved]

/-- What R79 has of the ring state after a standard grant. -/
theorem afterStandard_ring (s : State) (g : GroupId) (w : WindowId) :
    (afterStandard g w s).express = s.express ∧
      (∀ h : GroupId, h ≠ g → (afterStandard g w s).arbiters[h] = s.arbiters[h]) ∧
      (afterStandard g w s).arbiters[g].lastExpress = s.arbiters[g].lastExpress ∧
      (burstAfter s g w < s.windows[w].weight →
        (afterStandard g w s).arbiters[g].token = w ∧ (afterStandard g w s).arbiters[g].burst = burstAfter s g w) ∧
      (s.windows[w].weight ≤ burstAfter s g w → (afterStandard g w s).arbiters[g].burst = 0 ∧
        ((∀ v, v ≠ w → inStandardRing (afterStandard g w s) g v = false) →
          (afterStandard g w s).arbiters[g].token.val = (w.val + 1) % 24) ∧
        ∀ v, v ≠ w → inStandardRing (afterStandard g w s) g v = true →
          (∀ u, u ≠ w → inStandardRing (afterStandard g w s) g u = true → passedBefore w v ≤ passedBefore w u) →
          (afterStandard g w s).arbiters[g].token = v) := by
  have counted := countedGrant_arbiter s g w
  have token : (countedGrant g w s).arbiters[g].token = w := by rw [counted]
  rcases Nat.lt_or_ge (burstAfter s g w) s.windows[w].weight with below | reached
  · rw [afterStandard_below below]
    refine ⟨rfl, fun h other => countedGrant_other other s w, ?_, fun _ => ⟨token, ?_⟩,
      fun reached => absurd below (Nat.not_lt.mpr reached)⟩
    iterate 2 rw [counted]
  · rw [afterStandard_reached reached]
    refine ⟨rfl, fun h other => (passToken_other other _).trans (countedGrant_other other s w), ?_,
      fun below => absurd below (Nat.not_lt.mpr reached),
      fun _ => ⟨?_, passToken_alone token, fun v => passToken_first token⟩⟩
    · rw [passToken_arbiter, counted]
    · rw [passToken_arbiter]

end

/-- Settles O54. -/
theorem ringGrantsInCyclicOrder : Obligations.RingGrantsInCyclicOrder := by
  intro s g w
  refine ⟨expressWinner_iff, grantOnce_express_ring, standardWinner_token, standardWinner_iff, fun express standard => ?_⟩
  obtain ⟨u, arbiters, windows, counts, granted⟩ := grantOnce_standard_ring express standard
  dsimp only
  rw [granted, ← arbiters, ← windows, ← counts]
  exact afterStandard_ring u g w

end Sys2Proof.Machine
end

section
/-! PROOF. R76: an arbiter acts until its group has neither a requester nor a claimant of an ON_DEMAND hold. -/

namespace Sys2Proof.Machine

section
variable {s t u : State} {g : GroupId} {w : WindowId} {i : JobIx} {j : Job} {p : PrinterId}

/-! ### What an arbiter changes (R81) -/

/-- An arbiter's work: queues, job records, ring state, holds and marks change, and READY printers' lists grow at their tails. -/
def GrantsOnly (s t : State) : Prop :=
  (∃ queues jobs arbiters express printers marks, t = { s with
    queues := queues, jobs := jobs, arbiters := arbiters, express := express, printers := printers
    port := { s.port with printerMarks := marks } }) ∧
  ∀ p : PrinterId, s.printers[p].outstanding <+: t.printers[p].outstanding ∧ t.printers[p].state = s.printers[p].state ∧
    (t.printers[p].outstanding ≠ s.printers[p].outstanding → s.printers[p].state = .ready)

theorem GrantsOnly.refl (s : State) : GrantsOnly s s :=
  ⟨⟨_, _, _, _, _, _, rfl⟩, fun _ => ⟨List.prefix_rfl, rfl, fun changed => absurd rfl changed⟩⟩

theorem GrantsOnly.trans (h : GrantsOnly s t) (k : GrantsOnly t u) : GrantsOnly s u := by
  obtain ⟨⟨_, _, _, _, _, _, first⟩, lists⟩ := h
  obtain ⟨⟨_, _, _, _, _, _, second⟩, longer⟩ := k
  refine ⟨⟨_, _, _, _, _, _, by rw [second, first]⟩, fun p => ?_⟩
  obtain ⟨grown, state, ready⟩ := lists p
  obtain ⟨grown', state', ready'⟩ := longer p
  refine ⟨grown.trans grown', state'.trans state, fun changed => ?_⟩
  by_cases same : t.printers[p].outstanding = s.printers[p].outstanding
  · exact state ▸ ready' (same ▸ changed)
  · exact ready same

theorem grantsOnly_releaseHolds (l : List PrinterId) (s : State) : GrantsOnly s (forEach l releaseHold s) := by
  obtain ⟨printers, marks, e⟩ := forEach_releaseHold_eq l s
  refine ⟨⟨_, _, _, _, _, _, e⟩, fun p => ?_⟩
  rw [forEach_releaseHold_printers]
  split <;> exact ⟨List.prefix_rfl, rfl, fun changed => absurd rfl changed⟩

/-- The printer chosen for a job is READY (R74). -/
theorem ready_of_chosenPrinter (h : chosenPrinter s j = some p) : s.printers[p].state = .ready := by
  have chosen := (List.mem_filter.mp (fewestJobs_mem h)).2
  simp only [eligible, suits, Bool.and_eq_true, beq_iff_eq] at chosen
  obtain ⟨⟨⟨⟨⟨⟨⟨-, ready⟩, -⟩, -⟩, -⟩, -⟩, -⟩, -⟩ := chosen
  exact ready

theorem grantsOnly_moveToPrinter (chosen : chosenPrinter s j = some p) : GrantsOnly s (moveToPrinter w i j p s) := by
  obtain ⟨jobs, printers, marks, e, moved⟩ := moveToPrinter_eq w i j p s
  refine ⟨⟨_, _, _, _, _, _, e⟩, fun q => ?_⟩
  rw [e]
  obtain ⟨state, list⟩ := moved q
  dsimp only
  rw [list]
  refine ⟨?_, state, fun changed => ?_⟩
  · split
    · exact List.prefix_append _ _
    · exact List.prefix_rfl
  · split at changed
    · next same =>
      subst same
      exact ready_of_chosenPrinter chosen
    · exact absurd rfl changed

/-- A turn of a ring. -/
theorem GrantsOnly.turned (h : GrantsOnly s t)
    (turn : ∃ arbiters express, u = { t with arbiters := arbiters, express := express }) :
    GrantsOnly s u := by
  obtain ⟨⟨_, _, _, _, _, _, e⟩, lists⟩ := h
  obtain ⟨_, _, rfl⟩ := turn
  exact ⟨⟨_, _, _, _, _, _, by rw [e]⟩, lists⟩

theorem afterStandard_turn (g : GroupId) (w : WindowId) (s : State) :
    ∃ arbiters express, afterStandard g w s = { s with arbiters := arbiters, express := express } := by
  unfold afterStandard
  dsimp only
  split <;> exact ⟨_, _, rfl⟩

/-- A grant to a requester's window: only an arbiter's work is done, and the window's queue loses its head. -/
theorem grantTo_requester_only (h : isRequester s g w = true) {ring : State → State}
    (turn : ∀ u, ∃ arbiters express, ring u = { u with arbiters := arbiters, express := express }) :
    GrantsOnly s (grantTo w ring s) ∧ ∃ i, s.queues[w].head? = some i ∧
      (grantTo w ring s).queues = put s.queues w (s.queues[w].filter (· != i)) := by
  obtain ⟨i, j, p, head, chosen, e⟩ := grantTo_of_requester h ring
  obtain ⟨jobs, printers, marks, moved, -⟩ := moveToPrinter_eq w i j p s
  have turned := turn (moveToPrinter w i j p s)
  rw [e]
  refine ⟨(grantsOnly_moveToPrinter chosen).turned turned, i, head, ?_⟩
  obtain ⟨arbiters, express, turned⟩ := turned
  rw [turned, moved]

/-- One grant of a group with a requester, from the ring that has a winner (R77). -/
theorem grantOnce_of_requester (h : isRequester s g w = true) : GrantsOnly s (grantOnce g s) ∧ ∃ v i,
    s.queues[v].head? = some i ∧ (grantOnce g s).queues = put s.queues v (s.queues[v].filter (· != i)) := by
  cases express : expressWinner s g with
  | some v =>
    rw [grantOnce_express express]
    obtain ⟨only, left⟩ :=
      grantTo_requester_only (inExpressRing_requester (expressWinner_iff.mp express).1) fun u =>
        ⟨_, _, (rfl : afterExpress g v u = _)⟩
    exact ⟨only, v, left⟩
  | none =>
    obtain ⟨v, standard⟩ := winner_of_requester h express
    rw [grantOnce_standard express standard]
    obtain ⟨only, left⟩ :=
      grantTo_requester_only (inStandardRing_requester (standardWinner_inRing standard)) (afterStandard_turn g v)
    exact ⟨only, v, left⟩

/-! ### After the claimed holds are released there is a requester (R75, R86) -/

theorem mem_claimedPrinters : p ∈ claimedPrinters s g ↔
    (s.printers[p].hold.any fun h => h.kind == .onDemand) = true ∧ ∃ w, isClaimant s g w p = true := by
  simp [claimedPrinters, every]

theorem isClaimant_iff : isClaimant s g w p = true ↔
    ∃ j, headJob s w = some j ∧ targetGroup s j = some g ∧ eligiblePrinters s j = [] ∧ heldByOther s p j = true ∧
      suits s p j = true := by
  unfold isClaimant
  cases headJob s w <;> simp [and_assoc]

/-- The conditions of R74 but the seventh read nothing of the printers' holds beyond the job's own. -/
theorem suits_of_released {printers : Vector Printer 16} {port : ExchangePort}
    (same : { printers[p] with hold := none } = { s.printers[p] with hold := none })
    (own : ownHoldAllows { s with printers := printers, port := port } p j = true) (h : suits s p j = true) :
    suits { s with printers := printers, port := port } p j = true := by
  obtain ⟨configured, group, state, list⟩ : printers[p].configured = s.printers[p].configured ∧
      printers[p].group = s.printers[p].group ∧ printers[p].state = s.printers[p].state ∧
      printers[p].outstanding = s.printers[p].outstanding := by
    simp only [Printer.mk.injEq] at same
    simp only [same, and_self]
  have reads : suits { s with printers := printers, port := port } p j =
      (s.printers[p].configured && targetGroup s j == some s.printers[p].group && s.printers[p].state == .ready
        && decide (s.printers[p].outstanding.length < 2)
        && (s.magazines[p].loaded && s.magazines[p].kind == j.kind && !s.magazines[p].frozen)
        && decide (transmitted s.magazines[p] + reserved s p < remaining s.magazines[p]) && !isSelected s p
        && ownHoldAllows { s with printers := printers, port := port } p j) := by
    unfold suits reserved
    dsimp only
    rw [configured, group, state, list]
    rfl
  rw [reads, own, Bool.and_true]
  exact (Bool.and_eq_true_iff.mp h).1

/-- The window of a claimant holds no printer: it would be served by that printer alone, which another window holds. -/
theorem claimant_holds_none (window : j.window = some w) (other : heldByOther s p j = true) (own : ownHoldAllows s p j = true)
    (q : PrinterId) : holds s w q = false := by
  cases held : holds s w q with
  | false => rfl
  | true =>
    have someHeld : (heldPrinter s w).isSome = true := List.find?_isSome.mpr ⟨q, List.mem_finRange q, held⟩
    obtain ⟨k, hk⟩ := Option.isSome_iff_exists.mp someHeld
    obtain rfl : k = p := by simpa [ownHoldAllows, window, hk] using own
    obtain ⟨x, hx, mine⟩ := holds_iff.mp (List.find?_some hk)
    rw [heldByOther, hx, window] at other
    simp [mine] at other

/-- A claimant of a printer whose hold is released is a requester (R86). -/
theorem requester_of_released {l : List PrinterId} (claim : isClaimant s g w p = true) (released : p ∈ l) :
    isRequester (forEach l releaseHold s) g w = true := by
  obtain ⟨j, head, group, -, other, fits⟩ := isClaimant_iff.mp claim
  obtain ⟨v, window⟩ : ∃ v, j.window = some v := by
    cases window : j.window with
    | none => simp [targetGroup, window] at group
    | some v => exact ⟨v, rfl⟩
  have none := claimant_holds_none window other (Bool.and_eq_true_iff.mp fits).2
  obtain ⟨printers, marks, e⟩ := forEach_releaseHold_eq l s
  have after (q : PrinterId) : printers[q] = if q ∈ l then { s.printers[q] with hold := .none } else s.printers[q] := by
    rw [← forEach_releaseHold_printers, e]
  have freed : printers[p] = { s.printers[p] with hold := .none } := (after p).trans (if_pos released)
  rw [e]
  refine isRequester_iff.mpr ⟨j, head, group, p, Bool.and_eq_true_iff.mpr ⟨suits_of_released (by rw [freed]) ?_ fits, ?_⟩⟩
  · have noneHeld : heldPrinter { s with printers := printers, port := { s.port with printerMarks := marks } } v = .none := by
      refine List.find?_eq_none.mpr fun q _ held => ?_
      unfold holds at held
      dsimp only at held
      rw [after] at held
      split at held
      · cases held
      · exact Bool.false_ne_true ((none q).symm.trans held)
    simp [ownHoldAllows, window, noneHeld]
  · simp [heldByOther, freed]

/-- While an arbiter may act, there is a requester once the claimed holds are released. -/
theorem requester_of_mayAct (h : mayAct s g = true) :
    ∃ w, isRequester (forEach (claimedPrinters s g) releaseHold s) g w = true := by
  cases claimed : claimedPrinters s g with
  | nil =>
    simpa [mayAct, claimed, every, forEach] using h
  | cons p rest =>
    have first : p ∈ claimedPrinters s g := claimed ▸ List.mem_cons_self
    obtain ⟨-, w, claim⟩ := mem_claimedPrinters.mp first
    exact ⟨w, requester_of_released claim List.mem_cons_self⟩

/-! ### The arbiter comes to its end (R76) -/

/-- How many jobs wait in the window queues. -/
def queuedJobs (s : State) : Nat := ((every 24).map fun w => s.queues[w].length).sum

theorem queuedJobs_lt {i : JobIx} (head : s.queues[w].head? = some i)
    (left : t.queues = put s.queues w (s.queues[w].filter (· != i))) : queuedJobs t < queuedJobs s := by
  have shorter : (s.queues[w].filter (· != i)).length < s.queues[w].length :=
    List.length_filter_lt_length_iff_exists.mpr ⟨i, List.mem_of_mem_head? head, by simp⟩
  refine List.sum_lt_sum _ _ (fun v _ => ?_) ⟨w, List.mem_finRange w, ?_⟩
  · rw [left, put_get]
    split
    · next same => exact same ▸ Nat.le_of_lt shorter
    · exact Nat.le_refl _
  · rw [left, put_get_self]
    exact shorter

/-- With no job queued an arbiter has nothing to do. -/
theorem mayAct_of_empty (h : queuedJobs s = 0) : mayAct s g = false := by
  have noHead (w : WindowId) : headJob s w = none := by
    have short : s.queues[w].length = 0 :=
      List.sum_eq_zero_iff.mp h _ (List.mem_map_of_mem (List.mem_finRange w))
    unfold headJob
    rw [List.eq_nil_of_length_eq_zero short]
    rfl
  simp [mayAct, claimedPrinters, isRequester, isClaimant, noHead]

/-- One repetition of R76's steps does only an arbiter's work and grants one job. -/
theorem repetition_grants (h : mayAct s g = true) :
    GrantsOnly s (grantOnce g (forEach (claimedPrinters s g) releaseHold s)) ∧
      queuedJobs (grantOnce g (forEach (claimedPrinters s g) releaseHold s)) < queuedJobs s := by
  obtain ⟨w, requester⟩ := requester_of_mayAct h
  obtain ⟨only, v, i, head, left⟩ := grantOnce_of_requester requester
  have queues : (forEach (claimedPrinters s g) releaseHold s).queues = s.queues := by
    obtain ⟨printers, marks, e⟩ := forEach_releaseHold_eq (claimedPrinters s g) s
    rw [e]
  refine ⟨(grantsOnly_releaseHolds _ s).trans only, ?_⟩
  rw [queues] at head left
  exact queuedJobs_lt head left

theorem actRepeatedly_ends (fuel : Nat) (h : queuedJobs s ≤ fuel) :
    GrantsOnly s (actRepeatedly g fuel s) ∧ mayAct (actRepeatedly g fuel s) g = false := by
  induction fuel generalizing s with
  | zero => exact ⟨.refl s, mayAct_of_empty (Nat.le_zero.mp h)⟩
  | succ fuel ih =>
    unfold actRepeatedly
    split
    · next acts =>
      obtain ⟨only, fewer⟩ := repetition_grants acts
      obtain ⟨rest, ended⟩ := ih (Nat.le_of_lt_succ (Nat.lt_of_lt_of_le fewer h))
      exact ⟨only.trans rest, ended⟩
    · next done => exact ⟨.refl s, Bool.eq_false_iff.mpr done⟩

theorem mayAct_eq_false : mayAct s g = false ↔ (∀ w, isRequester s g w = false) ∧ claimedPrinters s g = [] := by
  simp [mayAct, every]

end

/-- Settles O53: each repetition grants one of at most 64 queued jobs. -/
theorem arbiterActsUntilDone : Obligations.ArbiterActsUntilDone := by
  intro s g alive office queued
  have acts : exec (.arbiterAction g) s = .next (rewriteChecks s (actRepeatedly g 64 s)) := by
    refine (whenLive_live s _ alive).trans ?_
    rw [if_pos ((granting_iff s).mpr office)]
  obtain ⟨⟨⟨_, _, _, _, _, _, e⟩, lists⟩, ended⟩ := actRepeatedly_ends 64 queued (g := g)
  obtain ⟨requesters, claims⟩ := mayAct_eq_false.mp ended
  refine ⟨_, acts, requesters, claims, actRepeatedly_still g 64 s, lists, ?_⟩
  rw [e]
  exact ⟨rfl, rfl, rfl, rfl, rfl, rfl, rfl, rfl, rfl⟩

end Sys2Proof.Machine
end
section
/-! PROOF. R109 and R114: a ROLL CALL held on its line or refused. -/

namespace Sys2Proof.Machine

section
variable {s : State} {l : LineId} {mask line : Byte}

theorem rollCallForbidden_iff : rollCallForbidden s l mask = true ↔
    ∃ a : AddressIx, mask.getLsbD a.val = true ∧
      (s.printers[printerAt l a].state = .unconfigured ∨ s.printers[printerAt l a].state = .offline ∨
        s.printers[printerAt l a].state = .faulted) := by
  simp only [rollCallForbidden, List.any_eq_true, Bool.and_eq_true, every, List.mem_finRange, true_and, inMask]
  refine exists_congr fun a => and_congr_right fun _ => ?_
  cases s.printers[printerAt l a].state <;> simp

theorem rollCallBusy_iff : rollCallBusy s l = true ↔
    s.lines[l].rollSlip ≠ none ∨ s.lines[l].roll.phase = .round ∨ s.lines[l].roll.phase = .between := by
  simp only [rollCallBusy, Bool.or_eq_true, Option.isSome_iff_ne_none]
  cases s.lines[l].roll.phase <;> simp

theorem rollCallBad_inRange (known : line.toNat = l.val) (some_ : mask ≠ 0#8) : rollCallBad line mask = none := by
  have named : lineOf line = some l := below_eq_some known
  exact firstBad_eq_none.mpr (by simp [named, some_])

/-- A roll-call request of a line with no roll call running waits for the next sweep (R109). -/
theorem holdRollSlip_eq (n : SlipId) (tag : Word) (idle : rollCallBusy s l = false) :
    holdRollSlip n tag l mask s = { s with lines := put s.lines l { s.lines[l] with
      rollSlip := some { slip := n, tag := tag, mask := mask, results := Vector.replicate 8 none }
      roll := { s.lines[l].roll with
        phase := .waiting
        waitingSet := if s.lines[l].roll.phase = .none then mask else s.lines[l].roll.waitingSet ||| mask } } } := by
  have phases : s.lines[l].roll.phase = .none ∨ s.lines[l].roll.phase = .waiting := by
    have free := mt rollCallBusy_iff.mpr (Bool.eq_false_iff.mp idle)
    cases phase : s.lines[l].roll.phase <;> simp_all
  refine congrArg (fun x : Vector Line 2 => { s with lines := x }) ((upd_put ..).trans ?_)
  obtain phase | phase := phases <;> simp only [phase, if_true, reduceCtorEq, if_false]

end

/-- Settles O41. -/
theorem rollCallIsHeld : Obligations.RollCallIsHeld := by
  intro s n tag line mask l hf known some_ outOfUse running
  have named : lineOf line = some l := below_eq_some known
  have work (t : State) : rollCallWork tag line mask n t =
      if rollCallForbidden t l mask then addReturn n tag .notAllowed 0#32 [] t
      else if rollCallBusy t l then addReturn n tag .busy 0#32 [] t
      else holdRollSlip n tag l mask t := by
    unfold rollCallWork
    rw [rollCallBad_inRange known some_, named]
  refine ⟨fun out => handOn_answers hf ?_, fun in_ busy => handOn_answers hf ?_, fun in_ idle => ?_⟩
  · exact (work _).trans (if_pos (rollCallForbidden_iff.mpr out))
  · exact (work _).trans ((if_neg (mt rollCallForbidden_iff.mp in_)).trans (if_pos (rollCallBusy_iff.mpr busy)))
  · have held := (work { s with port := portAfterTaking s.port }).trans
      ((if_neg (mt rollCallForbidden_iff.mp in_)).trans ((if_neg (mt rollCallBusy_iff.mp idle)).trans
        (holdRollSlip_eq n tag (Bool.eq_false_iff.mpr (mt rollCallBusy_iff.mp idle)))))
    refine (handOn_fetching _ s n hf).trans ?_
    rw [held, rewriteChecks_same _ _ fun r => by cases r <;> rfl]

end Sys2Proof.Machine
end
section
/-! PROOF. R91 to R93: SET PRINTER and SET LINE out of service. -/

namespace Sys2Proof.Machine

/-! ### SET PRINTER (R93, R98) -/

/-- What a change of one printer's configuration does and what it leaves (R93). -/
structure PrinterWritten (p : PrinterId) (x : Printer) (records : Vector LineRecord 16) (s t : State) : Prop where
  printers : t.printers = put s.printers p x
  records : t.lineRecords = records
  magazines : t.magazines = s.magazines
  jobs : t.jobs = s.jobs
  queues : t.queues = s.queues
  arbiters : t.arbiters = s.arbiters
  returns : t.port.returns = s.port.returns

section
variable {s : State} {p : PrinterId} {printer configured group : Byte} {c : Bool} {g : GroupId}

theorem outOfService_iff :
    outOfService s p = true ↔ s.printers[p].state = .offline ∨ s.printers[p].state = .unconfigured := by
  simp [outOfService]

/-- Only a printer that leaves READY has jobs and a hold to give up (R117). -/
theorem enterState_stays (order : List JobIx) {new : PrinterState} (stays : s.printers[p].state ≠ .ready ∨ new = .ready) :
    enterState order p new s = recomputeOf p (stateWritten p new s) := by
  unfold enterState
  exact congrArg (recomputeOf p) (if_neg fun leaves => stays.elim (· leaves.1) leaves.2)

theorem changeConfigured_written {new : PrinterState} (old : s.printers[p].state ≠ .ready) (stays : new ≠ .ready) :
    PrinterWritten p { s.printers[p] with state := new } (put s.lineRecords p .start) s (changeConfigured p new s) := by
  obtain ⟨kinds, marks, recomputed⟩ := recomputeOf_eq p (stateWritten p new s)
  unfold changeConfigured
  rw [enterState_stays [] (.inl old), recomputed]
  exact ⟨congrArg (fun n => put s.printers p { s.printers[p] with state := new, spoilRun := n }) (if_neg stays),
    rfl, rfl, rfl, rfl, rfl, rfl⟩

theorem PrinterWritten.leaveSelection {x : Printer} {records : Vector LineRecord 16} {t : State}
    (h : PrinterWritten p x records s t) (q : PrinterId) : PrinterWritten p x records s (leaveSelection q t) := by
  obtain ⟨lines, left⟩ := leaveSelection_eq q t
  rw [left]
  exact ⟨h.printers, h.records, h.magazines, h.jobs, h.queues, h.arbiters, h.returns⟩

theorem PrinterWritten.voidExchange {x : Printer} {records : Vector LineRecord 16} {t : State}
    (h : PrinterWritten p x records s t) (q : PrinterId) : PrinterWritten p x records s (voidExchange q t) :=
  ⟨h.printers, h.records, h.magazines, h.jobs, h.queues, h.arbiters, h.returns⟩

theorem PrinterWritten.afterConfig {x : Printer} {records : Vector LineRecord 16} {t : State} {f : Printer → Printer}
    (h : PrinterWritten p x records (modPrinter p f s) t) : PrinterWritten p x records s t :=
  ⟨h.printers.trans (put_put ..), h.records, h.magazines, h.jobs, h.queues, h.arbiters, h.returns⟩

theorem writePrinter_written (c : Bool) (g : GroupId)
    (out : s.printers[p].state = .offline ∨ s.printers[p].state = .unconfigured) :
    let state : PrinterState := if c then .offline else .unconfigured
    PrinterWritten p { s.printers[p] with configured := c, group := g, state := state }
      (if state = s.printers[p].state then s.lineRecords else put s.lineRecords p .start) s (writePrinter p c g s) := by
  let t : State := modPrinter p (fun x => { x with configured := c, group := g }) s
  have written : t.printers[p] = { s.printers[p] with configured := c, group := g } := put_get_self ..
  have changed {new : PrinterState} (stays : new ≠ .ready) :
      PrinterWritten p { s.printers[p] with configured := c, group := g, state := new } (put s.lineRecords p .start) s
        (changeConfigured p new t) := by
    have old : t.printers[p].state ≠ .ready := by
      rw [written]
      exact fun old => out.elim (fun out => nomatch out.symm.trans old) (fun out => nomatch out.symm.trans old)
    have h := (changeConfigured_written old stays).afterConfig
    rwa [written] at h
  have same (x : PrinterState) (old : s.printers[p].state = x) :
      PrinterWritten p { s.printers[p] with configured := c, group := g, state := x } s.lineRecords s t := by
    subst old
    exact ⟨rfl, rfl, rfl, rfl, rfl, rfl, rfl⟩
  unfold writePrinter
  obtain out | out := out <;> cases c <;> simp only [out, if_true, if_false, Bool.false_eq_true, reduceCtorEq]
  · exact ((changed (by simp)).leaveSelection p).voidExchange p
  · exact same _ out
  · exact same _ out
  · exact changed (by simp)

theorem setPrinterWork_inRange (known : printer.toNat = p.val) (yes : configured.toNat ≤ 1)
    (grouped : group.toNat = g.val) (tag : Word) (n : SlipId) (s : State) :
    setPrinterWork tag printer configured group n s =
      if outOfService s p then
        addReturn n tag .done 0#32 (printerConfigBytes p (writePrinter p (configured == 1#8) g s).printers[p])
          (writePrinter p (configured == 1#8) g s)
      else addReturn n tag .notAllowed 0#32 (printerConfigBytes p s.printers[p]) s := by
  have named : printerOf printer = some p := below_eq_some known
  have in_ : groupOf group = some g := below_eq_some grouped
  have good : setPrinterBad printer configured group = none :=
    firstBad_eq_none.mpr (by simp [named, in_, yesNo_of_le_one yes])
  unfold setPrinterWork
  rw [good, named, in_, yesNo_of_le_one yes]

end

/-- Settles O50. -/
theorem setPrinterConfigures : Obligations.SetPrinterConfigures := by
  intro s n tag printer configured group p g hf known yes grouped
  refine ⟨fun offline unconfigured => handOn_answers hf ?_, fun out => ?_⟩
  · exact (setPrinterWork_inRange known yes grouped ..).trans
      (if_neg fun out => (outOfService_iff.mp out).elim offline unconfigured)
  · intro state
    let t : State := { s with port := portAfterTaking s.port }
    have taken := (setPrinterWork_inRange known yes grouped tag n t).trans (if_pos (outOfService_iff.mpr out))
    have written := writePrinter_written (s := t) (configured == 1#8) g out
    have settings := congrArg Still.settings (writePrinter_still p (configured == 1#8) g t)
    simp only [beq_iff_eq] at written
    refine ⟨_, handOn_fetching _ s n hf, setPrinterWork_still .., ?_⟩
    rw [taken]
    refine ⟨written.printers, written.records, written.magazines, written.jobs, written.queues, written.arbiters, ?_⟩
    exact congrArg₂ (fun r o => r ++ [entryNow { s with settings := o } n tag .done 0#32 (printerConfigBytes p
      (writePrinter p (configured == 1#8) g t).printers[p])]) written.returns settings

/-! ### SET LINE (R91, R92) -/

/-- A line record with its failure count at 0 (R91). -/
def LineRecord.unfailed (r : LineRecord) : LineRecord := { r with failures := 0 }

section
variable {s : State} {l : LineId} {b : BitRate} {line rate window limit : Byte}

theorem mem_linePrinters {p : PrinterId} : p ∈ linePrinters l ↔ lineOfPrinter p = l := by
  simp only [linePrinters, every, List.mem_map, List.mem_finRange, true_and]
  revert l p
  decide

/-- The configuration is the line's, and the failure counts are those of its printers. -/
theorem writeLine_eq (l : LineId) (c : LineConfig) (s : State) : ∃ records, writeLine l c s =
    { s with lineConfigs := put s.lineConfigs l c, lineRecords := records } ∧
      ∀ p : PrinterId, records[p] = if lineOfPrinter p = l then s.lineRecords[p].unfailed else s.lineRecords[p] := by
  have each (ps : List PrinterId) (t : State) : ∃ records,
      forEach ps (fun p => modLineRecord p .unfailed) t = { t with lineRecords := records } ∧
        ∀ p : PrinterId, records[p] = if p ∈ ps then t.lineRecords[p].unfailed else t.lineRecords[p] := by
    induction ps generalizing t with
    | nil => exact ⟨t.lineRecords, rfl, fun _ => rfl⟩
    | cons q ps ih =>
      obtain ⟨records, rest, each⟩ := ih (modLineRecord q .unfailed t)
      refine ⟨records, rest, fun p => (each p).trans ?_⟩
      rw [modLineRecord_lineRecords, upd_get]
      by_cases h : q = p
      · subst h
        simp [LineRecord.unfailed]
      · simp [h, Ne.symm h]
  obtain ⟨records, done, each⟩ := each (linePrinters l) (modLineConfig l (fun _ => c) s)
  simp only [mem_linePrinters] at each
  exact ⟨records, done, each⟩

theorem setLineWork_inRange (known : line.toNat = l.val) (paced : rateOf rate = some b) (wide : 2 ≤ window.toNat)
    (some_ : 1 ≤ limit.toNat) (few : limit.toNat ≤ 7) (tag : Word) (n : SlipId) (s : State) :
    setLineWork tag line rate window limit n s =
      let t := writeLine l { rate := b, window := window.toNat, retryLimit := limit.toNat } s
      if ∀ p : PrinterId, lineOfPrinter p = l → s.printers[p].state = .offline ∨ s.printers[p].state = .unconfigured then
        addReturn n tag .done 0#32 (lineConfigBytes l t.lineConfigs[l]) t
      else addReturn n tag .notAllowed 0#32 (lineConfigBytes l s.lineConfigs[l]) s := by
  have named : lineOf line = some l := below_eq_some known
  have good : setLineBad line rate window limit = none :=
    firstBad_eq_none.mpr (by simp [named, paced, wide, some_, few])
  unfold setLineWork
  rw [good, named, paced]
  simp only [List.all_eq_true, mem_linePrinters, outOfService_iff]

end

/-- Settles O51. -/
theorem setLineConfigures : Obligations.SetLineConfigures := by
  intro s n tag line rate window limit l b hf known paced wide some_ few idle config
  have work := setLineWork_inRange known paced wide some_ few tag n { s with port := portAfterTaking s.port }
  refine ⟨fun busy => handOn_answers hf (work.trans (if_neg busy)), fun open_ => ?_⟩
  obtain ⟨records, written, each⟩ := writeLine_eq l config { s with port := portAfterTaking s.port }
  refine ⟨_, handOn_fetching _ s n hf, ?_⟩
  rw [work.trans (if_pos open_), written, show (put s.lineConfigs l config)[l] = config from put_get_self ..]
  exact ⟨rfl, each⟩

end Sys2Proof.Machine
end
section
/-! PROOF. R94, R95, R179 and Table 11-18: a reply's frame read back, and R94's character. -/

namespace Sys2Proof.Machine

/-! ### Frames -/

theorem ofLe_le (n v : Nat) : ofLe (le n v) = v % 256 ^ n := by
  induction n generalizing v with
  | zero => simp [le, ofLe, Nat.mod_one]
  | succ n ih =>
    have byte : (BitVec.ofNat 8 v).toNat = v % 256 := BitVec.toNat_ofNat ..
    rw [le, ofLe, ih, byte, Nat.pow_succ', Nat.mod_mul]

theorem ofBe_be (n v : Nat) : ofBe (be n v) = v % 256 ^ n := by rw [ofBe, be, List.reverse_reverse, ofLe_le]

@[simp] theorem be_length (n v : Nat) : (be n v).length = n := by simp [be]

/-- R95 undoes R94: the bytes of a frame whose payload R95 lets pass are received as that frame. -/
theorem receiveBytes_frameBytes (address kind : Byte) (payload : List Byte) (short : payload.length ≤ 112) :
    receiveBytes (frameBytes address kind payload) = .frame address kind payload := by
  have length : (BitVec.ofNat 8 payload.length).toNat = payload.length := Nat.mod_eq_of_lt (by omega)
  have lead : afterLead (frameBytes address kind payload) = some (address :: kind :: BitVec.ofNat 8 payload.length ::
      (payload ++ be 2 (crc16 (address :: kind :: BitVec.ofNat 8 payload.length :: payload)).toNat)) := if_pos rfl
  have check (n : Nat) : (be 2 n).take 2 = be 2 n := List.take_of_length_le (be_length 2 n).le
  unfold receiveBytes
  simp only [lead, length, List.take_left, List.drop_left, check, and_self, if_true, Nat.not_lt.mpr short, if_false]

/-! ### Replies -/

theorem parseEntries_flatMap (entries : List OutcomeEntry) :
    parseEntries (entries.flatMap fun e => [e.token, e.outcome, e.k, e.cause]) = entries := by
  induction entries with
  | nil => rfl
  | cons e rest ih => exact congrArg (e :: ·) ih

theorem entryBytes_length (entries : List OutcomeEntry) :
    (entries.flatMap fun e => [e.token, e.outcome, e.k, e.cause]).length = 4 * entries.length := by
  induction entries with
  | nil => rfl
  | cons e rest ih => simp only [List.flatMap_cons, List.length_append, ih, List.length_cons, List.length_nil]; omega

/-- The entries of a STATUS as far as a frame holds them: 3 + 4 × 27 is 111 bytes of payload (R95, R179). -/
def Fits (r : Reply) : Prop := ∀ flags waiting entries, r = .status flags waiting entries → entries.length ≤ 27

theorem replyPayload_length {r : Reply} (fits : Fits r) : (replyPayload r).length ≤ 112 := by
  cases r with
  | status flags waiting entries =>
    have few := fits flags waiting entries rfl
    have bytes := entryBytes_length entries
    simp only [replyPayload, List.length_cons]
    omega
  | serial serial kind => simp [replyPayload]
  | _ => simp [replyPayload]

theorem ofBe_word (w : Word) : BitVec.ofNat 32 (ofBe (be 4 w.toNat)) = w := by
  rw [ofBe_be, show w.toNat % 256 ^ 4 = w.toNat from Nat.mod_eq_of_lt w.isLt]
  exact BitVec.ofNat_toNat ..

theorem parseReply_replyPayload {r : Reply} (fits : Fits r) : parseReply (replyKind r) (replyPayload r) = some r := by
  cases r with
  | status flags waiting entries =>
    have few := fits flags waiting entries rfl
    have count : (BitVec.ofNat 8 entries.length).toNat = entries.length := Nat.mod_eq_of_lt (by omega)
    have length : (entries.flatMap fun e => [e.token, e.outcome, e.k, e.cause]).length =
        4 * (BitVec.ofNat 8 entries.length).toNat := by rw [count, entryBytes_length]
    exact (if_pos length).trans (by rw [parseEntries_flatMap])
  | serial serial kind =>
    exact congrArg (fun w => some (Reply.serial w kind)) (ofBe_word serial)
  | accept token => rfl
  | refuse token reason => rfl
  | retry => rfl

theorem decodeReply_encodeReply (address : Byte) {r : Reply} (fits : Fits r) :
    decodeReply (encodeReply address r) = some (address, r) := by
  unfold decodeReply encodeReply
  rw [receiveBytes_frameBytes _ _ _ (replyPayload_length fits)]
  exact congrArg (Option.map fun r => (address, r)) (parseReply_replyPayload fits)

/-! ### Characters (R94) -/

theorem readCharacter_characterBits (b : Byte) : readCharacter (characterBits b) = some b := by
  revert b
  decide

/-- Settles O13. -/
theorem replyRoundTrip : Obligations.ReplyRoundTrip := by
  refine ⟨fun address r fits => decodeReply_encodeReply address fits,
    fun b => ⟨readCharacter_characterBits b, rfl, rfl, rfl, fun i => ?_⟩⟩
  match i with
  | 0 | 1 | 2 | 3 | 4 | 5 | 6 | 7 => rfl

end Sys2Proof.Machine
end
section
/-! SUPPORT. What the return of a printer's GRANTED jobs and of its hold (R85, R117, R137) leaves alone, whatever the jobs' places: the
records of all other jobs, their places in lists, the books (`SentOff`). -/

namespace Sys2Proof.Machine

/-- GRANTED jobs leave unprinted and holds are released: every other job stands, and no book changes. -/
structure SentOff (s t : State) : Prop where
  books : books t = books s
  jobs : ∀ i : JobIx, isGranted s i = false → t.jobs[i] = s.jobs[i]
  tokens : ∀ i : JobIx, tokenOf t i = tokenOf s i
  lists : ∀ (q : PrinterId) (i : JobIx), isGranted s i = false → i ∈ s.printers[q].outstanding → i ∈ t.printers[q].outstanding
  sub : ∀ q : PrinterId, t.printers[q].outstanding.Sublist s.printers[q].outstanding
  holds : ∀ q : PrinterId, s.printers[q].hold = none → t.printers[q].hold = none
  free : s.freeStack <:+ t.freeStack
  returns : s.port.returns <+: t.port.returns

section
variable {s t u : State} {p q : PrinterId} {i k : JobIx} {w : WindowId} {j : Job} {order : List JobIx}

/-! ### Job records -/

theorem joinFront_jobs_other (other : k ≠ i) : (joinFront order w i s).jobs[k] = s.jobs[k] := by
  unfold joinFront setQueue
  dsimp only
  cases front : s.queues[w].takeWhile (order.takeWhile (· != i)).contains with
  | nil =>
    simp only [List.nil_append, List.head?_cons]
    split
    · rfl
    · exact upd_get_other _ _ _ _ other.symm
  | cons a rest =>
    have same : s.queues[w].head? = some a := by
      rw [← List.takeWhile_append_dropWhile (p := (order.takeWhile (· != i)).contains) (l := s.queues[w]), front]
      rfl
    simp only [List.cons_append, List.head?_cons, same, if_true]

theorem jobAt_congr (h : t.jobs[i] = s.jobs[i]) : jobAt t i = jobAt s i := by
  unfold jobAt
  rw [h]

theorem isGranted_congr (h : t.jobs[i] = s.jobs[i]) : isGranted t i = isGranted s i := by
  unfold isGranted jobIs
  rw [jobAt_congr h]

/-! ### The steps of the work -/

protected theorem SentOff.refl (s : State) : SentOff s s :=
  ⟨rfl, fun _ _ => rfl, fun _ => rfl, fun _ _ _ => id, fun _ => .refl _, fun _ => id, List.suffix_refl _, List.prefix_refl _⟩

theorem SentOff.isGranted (h : SentOff s t) (hi : isGranted s i = false) : isGranted t i = false :=
  (isGranted_congr (h.jobs i hi)).trans hi

protected theorem SentOff.trans (h : SentOff s t) (g : SentOff t u) : SentOff s u :=
  ⟨g.books.trans h.books, fun i hi => (g.jobs i (h.isGranted hi)).trans (h.jobs i hi),
    fun i => (g.tokens i).trans (h.tokens i), fun q i hi => g.lists q i (h.isGranted hi) ∘ h.lists q i hi,
    fun q => (g.sub q).trans (h.sub q), fun q => g.holds q ∘ h.holds q, h.free.trans g.free, h.returns.trans g.returns⟩

/-- Work on other fields. -/
theorem SentOff.elsewhere (h : SentOff s t) (same : Machine.books u = Machine.books t) (jobs : u.jobs = t.jobs)
    (lists : ∀ q : PrinterId, u.printers[q].outstanding = t.printers[q].outstanding)
    (holds : ∀ q : PrinterId, t.printers[q].hold = none → u.printers[q].hold = none)
    (free : u.freeStack = t.freeStack) (returns : t.port.returns <+: u.port.returns) : SentOff s u := by
  have jobAt : ∀ i : JobIx, u.jobs[i] = t.jobs[i] := fun _ => by rw [jobs]
  refine h.trans ⟨same, fun i _ => jobAt i, fun i => ?_, fun q i _ => ?_, fun q => ?_, holds, free ▸ List.suffix_refl _, returns⟩
  · unfold tokenOf
    rw [jobAt]
  · rw [lists]
    exact id
  · rw [lists]

protected theorem SentOff.ite {c : Prop} [Decidable c] (h : SentOff s t) (g : SentOff s u) : SentOff s (if c then t else u) := by
  split <;> assumption

protected theorem SentOff.modPrinter {f : Printer → Printer} (lists : ∀ x, (f x).outstanding = x.outstanding)
    (holds : ∀ x, x.hold = none → (f x).hold = none) (h : SentOff s t) : SentOff s (modPrinter p f t) := by
  refine h.elsewhere rfl rfl (fun q => ?_) (fun q => ?_) rfl (List.prefix_refl _) <;> rw [modPrinter_printers, upd_get] <;> split
  · exact lists _
  · rfl
  · exact holds _
  · exact id

protected theorem SentOff.markPrinter {cause : Bool} (h : SentOff s t) : SentOff s (markPrinter p cause t) :=
  h.elsewhere rfl rfl (fun _ => rfl) (fun _ => id) rfl (List.prefix_refl _)

protected theorem SentOff.releaseHold (h : SentOff s t) : SentOff s (releaseHold p t) :=
  (h.modPrinter (by exact fun _ => rfl) (by exact fun _ _ => rfl)).markPrinter.ite h

protected theorem SentOff.leaveSelection (h : SentOff s t) : SentOff s (leaveSelection p t) := by
  obtain ⟨lines, e⟩ := leaveSelection_eq p t
  rw [e]
  exact h.elsewhere rfl rfl (fun _ => rfl) (fun _ => id) rfl (List.prefix_refl _)

protected theorem SentOff.recomputeOf (h : SentOff s t) : SentOff s (recomputeOf p t) := by
  obtain ⟨kinds, marks, e⟩ := recomputeOf_eq p t
  rw [e]
  exact h.elsewhere rfl rfl (fun _ => rfl) (fun _ => id) rfl (List.prefix_refl _)

protected theorem SentOff.leavePrinter (h : SentOff s t) (granted : Machine.isGranted s i = true) :
    SentOff s (leavePrinter p i t) := by
  have other {k : JobIx} (hk : Machine.isGranted s k = false) : k ≠ i := fun e => by simp_all
  have left (q : PrinterId) : (leavePrinter p i t).printers[q] =
      if p = q then { t.printers[q] with outstanding := t.printers[q].outstanding.filter (· != i) } else t.printers[q] :=
    upd_get ..
  refine ⟨h.books, h.jobs, h.tokens, fun q k hk listed => ?_, fun q => ?_, fun q none => ?_, h.free, h.returns⟩ <;>
    rw [left] <;> split
  · exact List.mem_filter.mpr ⟨h.lists q k hk listed, by simpa using other hk⟩
  · exact h.lists q k hk listed
  · exact List.filter_sublist.trans (h.sub q)
  · exact h.sub q
  · exact h.holds q none
  · exact h.holds q none

protected theorem SentOff.requeue (h : SentOff s t) (granted : Machine.isGranted s i = true) :
    SentOff s (requeue order p w i t) := by
  have left := h.leavePrinter (p := p) granted
  have other {k : JobIx} (hk : Machine.isGranted s k = false) : k ≠ i := fun e => by simp_all
  let u := modJob i (fun j => { j with state := .queued, printer := none, serial := none, outcomeWait := false })
    (leavePrinter p i t)
  let queue := t.queues[w].takeWhile (order.takeWhile (· != i)).contains ++
    i :: t.queues[w].dropWhile (order.takeWhile (· != i)).contains
  obtain ⟨tokens, printers, port⟩ := setQueue_frame w queue u
  obtain ⟨jobs, e⟩ := setQueue_eq w queue u
  refine ⟨(books_setQueue ..).trans left.books, fun k hk => ?_, fun k => ?_, fun q k hk listed => ?_, fun q => ?_,
    fun q none => ?_, ?_, ?_⟩
  · exact (joinFront_jobs_other (other hk)).trans ((upd_get_other _ _ _ _ (other hk).symm).trans (left.jobs k hk))
  · exact (tokens k).trans ((tokenOf_modJob ..).trans (left.tokens k))
  · exact (congrArg (fun v : Vector Printer 16 => k ∈ v[q].outstanding) printers).mpr (left.lists q k hk listed)
  · exact (congrArg (fun v : Vector Printer 16 => v[q].outstanding.Sublist s.printers[q].outstanding) printers).mpr (left.sub q)
  · exact (congrArg (fun v : Vector Printer 16 => v[q].hold) printers).trans (left.holds q none)
  · exact (congrArg State.freeStack e).symm ▸ left.free
  · exact (congrArg (fun x : ExchangePort => s.port.returns <+: x.returns) port).mpr left.returns

/-- A test print that ends changes no book and leaves only its own lists (R133). -/
theorem finishJob_test (hj : jobAt s i = some j) (test : j.window = none) (code : ResultCode) (reason : Nat) :
    finishJob i code reason s = freeRecord i (leaveLists i j (returnJob i j code reason s)) := by
  unfold finishJob releaseSaleEnd lowerOpenJobs statementAfter
  rw [hj]
  dsimp only
  rw [test]

theorem freeRecord_returns (i : JobIx) (s : State) : (freeRecord i s).port.returns = s.port.returns := by
  unfold freeRecord
  rw [modPort_port]
  split <;> rfl

protected theorem SentOff.freeRecord (h : SentOff s t) (granted : Machine.isGranted s i = true) :
    SentOff s (freeRecord i t) := by
  have other {k : JobIx} (hk : Machine.isGranted s k = false) : i ≠ k := fun e => by simp_all
  refine ⟨h.books, fun k hk => (upd_get_other _ _ _ _ (other hk)).trans (h.jobs k hk),
    fun k => (tokenOf_freeRecord ..).trans (h.tokens k), h.lists, h.sub, h.holds, h.free.trans (List.suffix_cons ..), ?_⟩
  exact freeRecord_returns i t ▸ h.returns

protected theorem SentOff.sendBack {reason : Nat} (h : SentOff s t) (granted : Machine.isGranted s i = true) :
    SentOff s (sendBack order p reason i t) := by
  unfold Machine.sendBack
  cases hj : jobAt t i with
  | none => exact h
  | some j =>
    cases hw : j.window with
    | some w => simpa only [hw] using h.requeue granted
    | none =>
      have returned : SentOff s (returnJob i j .withdrawn reason t) :=
        h.elsewhere rfl rfl (fun _ => rfl) (fun _ => id) rfl (List.prefix_append ..)
      simp only [hw]
      rw [finishJob_test hj hw]
      refine SentOff.freeRecord ?_ granted
      unfold leaveLists
      rw [hw]
      cases j.printer with
      | some q => exact returned.leavePrinter granted
      | none => exact returned

/-- Several of the jobs leave in turn. -/
theorem SentOff.forEach_sendBack {reason : Nat} {l : List JobIx} (h : SentOff s t)
    (granted : ∀ i ∈ l, Machine.isGranted s i = true) : SentOff s (forEach l (sendBack order p reason) t) := by
  induction l generalizing t with
  | nil => exact h
  | cons i rest ih =>
    exact ih (h.sendBack (granted i List.mem_cons_self)) fun k hk => granted k (List.mem_cons_of_mem _ hk)

/-- A job GRANTED now was GRANTED before. -/
theorem SentOff.granted (h : SentOff s t) (hi : Machine.isGranted t i = true) : Machine.isGranted s i = true :=
  Bool.not_eq_false _ ▸ fun before => by simp [h.isGranted before] at hi

protected theorem SentOff.sendBackGranted (h : SentOff s t) : SentOff s (sendBackGranted order p t) :=
  h.forEach_sendBack fun _ hi => h.granted (List.mem_filter.mp hi).2

protected theorem SentOff.breakReservation {l : List JobIx} (h : SentOff s t)
    (granted : ∀ i ∈ l, Machine.isGranted s i = true) : SentOff s (breakReservation order p l t) := by
  induction l generalizing t with
  | nil => exact h
  | cons i rest ih =>
    exact h.ite (ih (h.sendBack (granted i List.mem_cons_self)) fun k hk => granted k (List.mem_cons_of_mem _ hk))

/-! ### Changes of state and of magazines (R117, R137) -/

protected theorem SentOff.enterState {new : PrinterState} (h : SentOff s t) : SentOff s (enterState order p new t) :=
  have written := (h.modPrinter (p := p) (f := fun x => { x with
    state := new, spoilRun := if new = .ready then 0 else x.spoilRun }) (fun _ => rfl) (fun _ => id)).markPrinter
  (written.releaseHold.sendBackGranted.ite written).recomputeOf

protected theorem SentOff.magazineChanged (h : SentOff s t) : SentOff s (magazineChanged order p t) := by
  have recomputed := h.recomputeOf (p := p)
  refine SentOff.ite (recomputed.enterState.ite (recomputed.breakReservation fun i hi => ?_)) recomputed
  exact recomputed.granted (List.mem_filter.mp (List.mem_reverse.mp hi)).2

end

end Sys2Proof.Machine
end
section
/-! SUPPORT. A fault that requests a CLEAR (R126 to R128): what it writes of its printer, and what it leaves alone. -/

namespace Sys2Proof.Machine

/-- The causes that request a CLEAR and end no job (R128). -/
def FaultCause.requestsClear : FaultCause → Bool
  | .jam | .coverOpen | .overheat | .stockMismatch | .spoilRun => true
  | .lineSilent | .noOutcome | .restartInDoubt => false

/-- A CLEAR is requested of a printer (R128). -/
def clearRequested (p : PrinterId) (s : State) : State := modLineRecord p (fun r => { r with clearRequest := true }) s

/-- A printer in service faulted: its own record, its line record, and what the fault leaves alone. -/
structure FaultRaised (p : PrinterId) (f : FaultInfo) (s t : State) : Prop where
  printer : t.printers[p].standing = { s.printers[p].standing with
    state := .faulted, fault := firstFault f s.printers[p] s.settings.clock, notReady := none }
  others : ∀ q : PrinterId, q ≠ p → t.printers[q].standing = s.printers[q].standing
  hold : s.printers[p].state = .ready → t.printers[p].hold = none
  mark : t.port.printerMarks[p] = .withCause
  record : t.lineRecords[p].standing = { s.lineRecords[p].standing with clearRequest := true }
  calm : Calm s t
  sent : SentOff s t

section
variable {s t u : State} {p q : PrinterId} {i k : JobIx} {order : List JobIx} {f : FaultInfo}

theorem causeEffects_clear {cause : FaultCause} (clears : cause.requestsClear = true) (order : List JobIx) (s : State) :
    causeEffects order p cause s = clearRequested p s := by
  cases cause <;> first | rfl | cases clears

protected theorem SentOff.clearRequested (h : SentOff s t) : SentOff s (clearRequested p t) :=
  h.elsewhere rfl rfl (fun _ => rfl) (fun _ => id) rfl (List.prefix_refl _)

/-! ### The first fault of a printer in service -/

theorem enterState_hold {new : PrinterState} (old : s.printers[p].state = .ready) (leaves : new ≠ .ready) :
    (enterState order p new s).printers[p].hold = none := by
  have released : ∀ u, (releaseHold p u).printers[p].hold = none := fun u => by
    rw [releaseHold_printers, put_get_self]
  unfold enterState
  dsimp only
  rw [if_pos ⟨old, leaves⟩]
  exact (SentOff.refl _).sendBackGranted.recomputeOf.holds p (released _)

/-- A roll call without an address. -/
def RollCall.without (r : RollCall) (a : AddressIx) : RollCall := { r with
  waitingSet := r.waitingSet &&& ~~~addressBit a, runningSet := r.runningSet &&& ~~~addressBit a
  pendingSet := r.pendingSet &&& ~~~addressBit a, known := r.known &&& ~~~addressBit a }

theorem leaveSelection_roll (selected : isSelected s p = true) :
    (leaveSelection p s).lines[lineOfPrinter p].roll = s.lines[lineOfPrinter p].roll.without (addressIx p) := by
  have left (g : Line → Line) (v : State) : (modLine (lineOfPrinter p) g v).lines[lineOfPrinter p] =
      g v.lines[lineOfPrinter p] := upd_get_self ..
  unfold leaveSelection keepResult
  rw [if_pos selected]
  dsimp only
  split
  · rw [left, left]
    rfl
  · rw [left]
    rfl

theorem leaveSelection_unselected (p : PrinterId) (s : State) : isSelected (leaveSelection p s) p = false := by
  cases selected : isSelected s p with
  | false =>
    unfold leaveSelection
    rw [if_neg (by simp [selected])]
    exact selected
  | true =>
    have gone (m : BitVec 8) : (m &&& ~~~addressBit (addressIx p)).getLsbD (addressIx p).val = false := by
      rw [BitVec.getLsbD_and, BitVec.getLsbD_not, addressBit_getLsbD, decide_eq_true rfl]
      simp
    unfold isSelected
    rw [leaveSelection_roll selected]
    simp only [inMask, unresolved, RollCall.without, gone, BitVec.getLsbD_and, Bool.false_and, Bool.or_self]

/-- Outside the lines the end of a selection writes nothing. -/
theorem faultStarted_lines (order : List JobIx) (p : PrinterId) (f : FaultInfo) (s : State) :
    ∃ lines, faultStarted order p f s = { faultSent order p f s with lines := lines } := by
  rw [faultStarted_eq]
  split
  · exact ⟨_, rfl⟩
  · exact leaveSelection_eq ..

theorem faultSent_off (order : List JobIx) (p : PrinterId) (f : FaultInfo) (s : State) : SentOff s (faultSent order p f s) :=
  have noted := ((SentOff.refl s).modPrinter (p := p) (f := fun x => { x with
    fault := firstFault f x s.settings.clock, notReady := none }) (fun _ => rfl) (fun _ => id)).markPrinter
  noted.enterState.sendBackGranted

theorem faultStarted_raised (order : List JobIx) (p : PrinterId) (f : FaultInfo) (s : State) :
    FaultRaised p f s (clearRequested p (faultStarted order p f s)) := by
  have off : SentOff s (faultStarted order p f s) := by
    rw [faultStarted_eq]
    exact (faultSent_off order p f s).ite (faultSent_off order p f s).leaveSelection
  have held : s.printers[p].state = .ready → (faultSent order p f s).printers[p].hold = none := fun ready => by
    refine (SentOff.refl _).sendBackGranted.holds p (enterState_hold ?_ (by decide))
    rw [faultNoted_printers, if_pos rfl]
    exact ready
  have standing (q : PrinterId) := (faultSent_steady order p f s).printers q
  obtain ⟨lines, e⟩ := faultStarted_lines order p f s
  have first := faultStarted_first order p f s
  simp only [faultWritten_printers] at standing
  rw [e] at first off ⊢
  generalize faultSent order p f s = v at *
  refine ⟨(standing p).trans ?_, fun q other => (standing q).trans ?_, held, first.mark, ?_, first.calm, off.clearRequested⟩
  · rw [if_pos rfl]
    rfl
  · rw [if_neg other.symm]
  · refine (congrArg LineRecord.standing (upd_get_self ..)).trans ?_
    exact congrArg (fun r : LineRecord => { r with clearRequest := true }) first.records

theorem raiseFault_clear (serving : s.printers[p].serving) (clears : f.cause.requestsClear = true) (order : List JobIx) :
    raiseFault order p f s = clearRequested p (faultStarted order p f s) := by
  unfold raiseFault
  obtain state | state | state := serving <;> rw [state] <;> exact causeEffects_clear clears ..

/-- A fault raised against a printer in service that requests a CLEAR. -/
theorem raiseFault_raised (serving : s.printers[p].serving) (clears : f.cause.requestsClear = true) (order : List JobIx) :
    FaultRaised p f s (raiseFault order p f s) := by
  rw [raiseFault_clear serving clears]
  exact faultStarted_raised order p f s

/-- Not the roll call's own, a fault ends its printer's selection (R113). -/
theorem raiseFault_unselected (serving : s.printers[p].serving) (clears : f.cause.requestsClear = true)
    (own : f.own = false) (order : List JobIx) : isSelected (raiseFault order p f s) p = false := by
  rw [raiseFault_clear serving clears, faultStarted_eq, if_neg (by simp [own])]
  exact leaveSelection_unselected p (faultSent order p f s)

end

end Sys2Proof.Machine
end
section
/-! PROOF. A good reply ends its exchange (R97); ACCEPT and the reasons of REFUSE answer a PRINT whose job is SENDING (R103, R104,
R122). -/

namespace Sys2Proof.Machine

/-- A good reply is received: the failure count is 0 (R97). -/
def replyTaken (p : PrinterId) (s : State) : State := modLineRecord p (fun r => { r with failures := 0 }) s

section
variable {s t : State} {l : LineId} {x : Exchange} {r : Reply} {p : PrinterId} {token reason : Byte} {i : JobIx} {j : Job}

/-! ### The exchange ends -/

/-- The reply's effect leaves the round, if any, to others: the line is free. -/
theorem receiveReply_good (h : awaiting s l x) (good : goodReply x (addressByte (addressIx x.printer)) r = true)
    (calm : (takeGoodReply x r s).lines[l].roll.phase ≠ .round) :
    receiveReply l (addressByte (addressIx x.printer)) r s =
      { takeGoodReply x r s with
        lines := put (takeGoodReply x r s).lines l (lineFreed (takeGoodReply x r s).lines[l]) } := by
  obtain ⟨-, activity, void, -⟩ := h
  unfold receiveReply endExchange
  rw [activity]
  dsimp only
  rw [if_pos good, if_neg (by simp [void])]
  exact freeLine_idle calm

theorem whenLive_reply (h : awaiting s l x) (good : goodReply x (addressByte (addressIx x.printer)) r = true)
    (calm : (takeGoodReply x r s).lines[l].roll.phase ≠ .round) :
    whenLive s (receiveReply l (addressByte (addressIx x.printer)) r) = .next (rewriteChecks s
      { takeGoodReply x r s with
        lines := put (takeGoodReply x r s).lines l (lineFreed (takeGoodReply x r s).lines[l]) }) := by
  rw [whenLive_live _ _ h.1, receiveReply_good h good calm]

/-- A reply's effect on volatile fields, which leaves the lines to the exchange's end. -/
theorem whenLive_good {lines : Vector Line 2} (h : awaiting s l x)
    (good : goodReply x (addressByte (addressIx x.printer)) r = true) (effect : takeGoodReply x r s = t) (same : t.lines = s.lines)
    (freed : lines = put s.lines l (lineFreed s.lines[l])) (volatile : ∀ r, contentOf t r = contentOf s r) :
    whenLive s (receiveReply l (addressByte (addressIx x.printer)) r) = .next { t with lines := lines } := by
  subst effect freed
  have calm : (takeGoodReply x r s).lines[l].roll.phase ≠ .round := by
    rw [same]
    exact h.2.2.2.2
  have received := whenLive_reply h good calm
  rw [same] at received
  rw [received, rewriteChecks_same]
  exact fun r => Eq.trans (by cases r <;> rfl) (volatile r)

/-- A printer's record changed in fields that are not retained (R58). -/
theorem retained_put {y : Printer} (same : y.configured = s.printers[p].configured ∧ y.group = s.printers[p].group ∧
    y.state = s.printers[p].state ∧ y.fault = s.printers[p].fault) (q : PrinterId) :
    let z := (put s.printers p y)[q]
    z.configured = s.printers[q].configured ∧ z.group = s.printers[q].group ∧ z.state = s.printers[q].state ∧
      z.fault = s.printers[q].fault := by
  dsimp only
  rw [put_get]
  split
  · next e => exact e ▸ same
  · exact ⟨rfl, rfl, rfl, rfl⟩

/-! ### ACCEPT and REFUSE -/

/-- The job a PRINT sent is still SENDING. -/
structure StillSending (s : State) (p : PrinterId) (token : Byte) (i : JobIx) (j : Job) : Prop where
  named : jobOfToken s token = some i
  listed : i ∈ s.printers[p].outstanding
  job : jobAt s i = some j
  sending : j.state = .sending

theorem StillSending.sendingJob (h : StillSending s p token i j) : sendingJob s p token = some i := by
  simp only [Machine.sendingJob, jobIs, h.named, h.job, Option.any_some, h.sending, beq_self_eq_true, Bool.and_true,
    List.contains_iff_mem, h.listed, if_true]

theorem takeAccept_sending (h : StillSending s p token i j) : takeAccept p token (replyTaken p s) = { s with
    jobs := put s.jobs i { s.jobs[i] with job := some { j with state := .sent } }
    lineRecords := put s.lineRecords p { s.lineRecords[p] with failures := 0, repeatJob := none } } := by
  have found : Machine.sendingJob (replyTaken p s) p token = some i := h.sendingJob
  have sent : (s.jobs[i].job.map fun j => { j with state := .sent }) = some { j with state := .sent } := by
    rw [show s.jobs[i].job = some j from h.job]
    rfl
  unfold takeAccept
  rw [found]
  exact congrArg₂ (fun x (y : Vector LineRecord 16) => { s with
    jobs := put s.jobs i { s.jobs[i] with job := x }, lineRecords := y }) sent (upd_put ..)

/-- BUFFER_FULL keeps the job for a repeat (R104). -/
theorem takeRefuse_bufferFull (h : StillSending s p token i j) : takeRefuse p token 1#8 (replyTaken p s) = { s with
    lineRecords := put s.lineRecords p { s.lineRecords[p] with failures := 0, repeatJob := some token } } := by
  have found : Machine.sendingJob (replyTaken p s) p token = some i := h.sendingJob
  unfold takeRefuse
  rw [found]
  exact congrArg (fun y : Vector LineRecord 16 => { s with lineRecords := y }) (upd_put ..)

/-- The job is no repeat job. -/
def repeatForgotten (p : PrinterId) (s : State) : State := modLineRecord p (fun r => { r with repeatJob := none }) s

theorem repeatForgotten_taken (p : PrinterId) (s : State) : repeatForgotten p (replyTaken p s) = { s with
    lineRecords := put s.lineRecords p { s.lineRecords[p] with failures := 0, repeatJob := none } } :=
  congrArg (fun y : Vector LineRecord 16 => { s with lineRecords := y }) (upd_put ..)

/-- NOT_READY sets the printer's mark (R122). -/
theorem takeRefuse_notReady (h : StillSending s p token i j) : takeRefuse p token 4#8 (replyTaken p s) = { s with
    printers := put s.printers p { s.printers[p] with notReady := some token }
    lineRecords := put s.lineRecords p { s.lineRecords[p] with failures := 0, repeatJob := none } } := by
  have found : Machine.sendingJob (replyTaken p s) p token = some i := h.sendingJob
  unfold takeRefuse
  rw [found]
  exact congrArg (modPrinter p fun x => { x with notReady := some token }) (repeatForgotten_taken p s)

/-- The fault of a PRINT refused for its stock or serial (R104, Table 7-3). -/
def refusedInfo (token : Byte) (serial : Option Nat) : FaultInfo :=
  { cause := .stockMismatch, flags := none, token := some token, serial, own := false }

theorem takeRefuse_mismatch (h : StillSending s p token i j) (wrong : reason = 2#8 ∨ reason = 3#8) :
    takeRefuse p token reason (replyTaken p s) =
      raiseFault s.printers[p].outstanding p (refusedInfo token (serialOf s i)) (repeatForgotten p (replyTaken p s)) := by
  have found : Machine.sendingJob (replyTaken p s) p token = some i := h.sendingJob
  unfold takeRefuse
  rw [found]
  obtain rfl | rfl := wrong <;> rfl

end

/-- Settles O58: the four answers, each from what it does with the job and the repeat job. -/
theorem acceptAndRefuseAnswerPrint : Obligations.AcceptAndRefuseAnswerPrint := by
  intro s l x token i j alive activity void command line round known named listed job sending p address freed
  have h : awaiting s l x := ⟨alive, activity, void, line, round⟩
  have still : StillSending s p token i j := ⟨named, listed, job, sending⟩
  have accepts : goodReply x address (.accept token) = true := by
    simp [goodReply, command, replyExpected, replyInRange, known, address, addressByte, addressIx, p]
  have refuses (reason : Byte) (inRange : 1 ≤ reason.toNat ∧ reason.toNat ≤ 4) :
      goodReply x address (.refuse token reason) = true := by
    simp [goodReply, command, replyExpected, replyInRange, known, inRange, address, addressByte, addressIx, p]
  refine ⟨whenLive_good h accepts (takeAccept_sending still) rfl rfl fun r => by cases r <;> rfl,
    whenLive_good h (refuses 1#8 (by decide)) (takeRefuse_bufferFull still) rfl rfl fun r => by cases r <;> rfl,
    whenLive_good h (refuses 4#8 (by decide)) (takeRefuse_notReady still) rfl rfl ?_, fun reason wrong serving => ?_⟩
  · exact contentOf_congr _ _ rfl rfl (retained_put ⟨rfl, rfl, rfl, rfl⟩) rfl rfl rfl rfl rfl rfl rfl rfl
  · have serves : (repeatForgotten p (replyTaken p s)).printers[p].serving := serving
    have raised := raiseFault_raised (f := refusedInfo token (serialOf s i)) serves rfl s.printers[p].outstanding
    rw [← takeRefuse_mismatch still wrong] at raised
    have fault := congrArg Printer.fault raised.printer
    have record := raised.record
    rw [repeatForgotten_taken, put_get_self] at record
    have kept : isGranted s i = false := by simp [isGranted, jobIs, job, sending]
    have stays := jobAt_congr (raised.sent.jobs i kept)
    refine ⟨_, whenLive_reply h (refuses reason (by rcases wrong with rfl | rfl <;> decide)) ((raised.calm l).2 ▸ round),
      congrArg Line.activity (put_get_self ..), congrArg Printer.state raised.printer, congrArg FaultRecord.state fault,
      congrArg FaultRecord.first fault, congrArg FaultRecord.token fault, congrArg LineRecord.clearRequest record,
      congrArg LineRecord.failures record, ?_⟩
    exact (congrArg (Option.map Job.state) (stays.trans job)).trans (congrArg some sending)

end Sys2Proof.Machine
end
section
/-! PROOF. A line's turn (R99, R100): the address it goes to, the frame it chooses, and what the frame's first transmission claims
(R102, R136). -/

namespace Sys2Proof.Machine

section
variable {s : State} {l : LineId} {a : AddressIx} {p : PrinterId} {i : JobIx} {j : Job} {token : Byte}

/-! ### The next turn (R99) -/

/-- How many addresses the line passes from the one after its pointer before it comes to `b`. -/
def turnsBefore (pointer b : AddressIx) : Nat := (b.val + 7 - pointer.val) % 8

theorem mem_addressesAfter : ∀ pointer b : AddressIx, b ∈ addressesAfter pointer := by decide

theorem addressesAfter_sorted : ∀ pointer : AddressIx,
    (addressesAfter pointer).Pairwise (turnsBefore pointer · < turnsBefore pointer ·) := by decide

theorem nextTurn_eq (configured : s.printers[printerAt l a].state ≠ .unconfigured)
    (least : ∀ b : AddressIx, turnsBefore s.lines[l].pointer b < turnsBefore s.lines[l].pointer a →
      s.printers[printerAt l b].state = .unconfigured) : nextTurn s l = some a := by
  refine (firstWhere_eq_some_iff_least (addressesAfter_sorted _)).mpr ⟨mem_addressesAfter .., by simpa using configured, ?_⟩
  exact fun b _ test => Nat.le_of_not_lt fun before => bne_iff_ne.mp test (least b before)

/-! ### The frame chosen (R100) -/

theorem repeatJobOf_none (noRepeat : ∀ k ∈ s.printers[p].outstanding, s.lineRecords[p].repeatJob ≠ some (tokenOf s k)) :
    repeatJobOf s p = none := by
  unfold repeatJobOf
  split
  · next token repeats =>
    exact List.find?_eq_none.mpr fun k listed same => noRepeat k listed (by rw [repeats, beq_iff_eq.mp same])
  · rfl

theorem repeatJobOf_listed (repeats : s.lineRecords[p].repeatJob = some (tokenOf s i)) (listed : i ∈ s.printers[p].outstanding) :
    repeatJobOf s p = some i := by
  unfold repeatJobOf
  rw [repeats]
  dsimp only
  cases found : firstWhere s.printers[p].outstanding fun k => tokenOf s k == tokenOf s i with
  | none => exact absurd (List.find?_eq_none.mp found i listed) (by simp)
  | some k => exact congrArg some (tokenOf_injective (by simpa using List.find?_some found))

theorem chooseFrame_poll (quiet : s.lineRecords[p].clearRequest = false)
    (h : s.printers[p].state ≠ .ready ∨ repeatJobOf s p = none ∧
      (isSelected s p = true ∨ ∀ k ∈ s.printers[p].outstanding, isGranted s k = false)) : chooseFrame s p = .poll := by
  unfold chooseFrame
  rw [quiet, if_neg (by decide)]
  split
  · next ready =>
    obtain ⟨noRepeat, selected | ungranted⟩ := h.resolve_left (not_not_intro ready)
    · rw [noRepeat]
      exact if_pos selected
    · have none : firstWhere s.printers[p].outstanding (isGranted s) = .none :=
        List.find?_eq_none.mpr fun k listed => by simp [ungranted k listed]
      rw [noRepeat, none]
      exact ite_self _
  · rfl

theorem chooseFrame_again (quiet : s.lineRecords[p].clearRequest = false) (ready : s.printers[p].state = .ready)
    (repeats : repeatJobOf s p = some i) : chooseFrame s p = .again i := by
  unfold chooseFrame
  rw [quiet, if_neg (by decide), if_pos ready, repeats]

theorem chooseFrame_oldest {before rest : List JobIx} (quiet : s.lineRecords[p].clearRequest = false)
    (ready : s.printers[p].state = .ready) (noRepeat : repeatJobOf s p = none) (unselected : isSelected s p = false)
    (list : s.printers[p].outstanding = before ++ i :: rest) (older : ∀ k ∈ before, isGranted s k = false)
    (granted : isGranted s i = true) : chooseFrame s p = .first i := by
  have found : firstWhere s.printers[p].outstanding (isGranted s) = some i :=
    List.find?_eq_some_iff_append.mpr ⟨granted, before, rest, list, fun k hk => by simp [older k hk]⟩
  unfold chooseFrame
  rw [quiet, if_neg (by decide), if_pos ready, noRepeat, unselected, found]
  exact if_neg (by decide)

/-! ### The frame sent (R96, R97, Table 11-18) -/

/-- The lines after a turn that sends a frame: the pointer moved and one exchange begun. -/
def turnLines (s : State) (l : LineId) (a : AddressIx) (command : CommandKind) (kind : Byte) (payload : List Byte) :
    Vector Line 2 :=
  put s.lines l { s.lines[l] with
    pointer := a
    activity := .sending { printer := printerAt l a, command := command, window := s.lineConfigs[l].window,
                           rate := s.lineConfigs[l].rate, void := false }
    frameBuffer := frameBytes (BitVec.ofNat 8 (a.val + 1)) kind payload
    replyTimer := none }

/-- The line's pointer moved to an address (R99). -/
def turnTaken (l : LineId) (a : AddressIx) (s : State) : State := modLine l (fun x => { x with pointer := a }) s

theorem sendFrame_turn {t : State} (lines : t.lines = (turnTaken l a s).lines) (configs : t.lineConfigs = s.lineConfigs)
    (command : CommandKind) (kind : Byte) (payload : List Byte) :
    sendFrame l (printerAt l a) command kind payload t = { t with lines := turnLines s l a command kind payload } := by
  have address : addressIx (printerAt l a) = a := ((printerAt_eq l a _).mp rfl).2.symm
  have written (f : Line → Line) : upd (turnTaken l a s).lines l f = put s.lines l (f { s.lines[l] with pointer := a }) :=
    upd_put ..
  unfold sendFrame modLine
  dsimp only
  rw [address, lines, configs, written]
  rfl

theorem isSelected_turnTaken (p : PrinterId) : isSelected (turnTaken l a s) p = isSelected s p := by
  have roll : (turnTaken l a s).lines[lineOfPrinter p].roll = s.lines[lineOfPrinter p].roll := by
    unfold turnTaken
    rw [modLine_lines, upd_get]
    split <;> rfl
  unfold isSelected
  rw [roll]

theorem chooseFrame_turnTaken (p : PrinterId) : chooseFrame (turnTaken l a s) p = chooseFrame s p := by
  unfold chooseFrame
  rw [isSelected_turnTaken]
  rfl

theorem printPayload_eq (ack token : Byte) (j : Job) : printPayload ack token j = [ack, token] ++ be 4 (j.serial.getD 0) ++
    [BitVec.ofNat 8 j.kind.val, if j.window = none then 1#8 else 0#8, BitVec.ofNat 8 j.face.length] ++ j.face := by
  unfold printPayload flagByte
  cases j.window <;> rfl

theorem sendPrint_turn {t : State} (lines : t.lines = (turnTaken l a s).lines) (configs : t.lineConfigs = s.lineConfigs)
    (job : jobAt t i = some j) :
    let payload := printPayload t.lineRecords[printerAt l a].ackToken (tokenOf t i) j
    sendPrint l (printerAt l a) i t = { t with lines := turnLines s l a (.print (tokenOf t i)) 0x02#8 payload } := by
  unfold sendPrint
  rw [job]
  exact sendFrame_turn lines configs ..

/-! ### The first transmission (R102, R136) -/

/-- The blank a first transmission claims is noted; the summary of R144 is as it was. -/
theorem setMagazine_notes (p : PrinterId) (notes : List Note) (s : State) :
    setMagazine p { s.magazines[p] with notes := notes } s =
      { s with magazines := put s.magazines p { s.magazines[p] with notes := notes } } :=
  if_pos (by simp [sameSummary])

/-- The next blank of a magazine after those transmitted (R136). -/
def nextBlank (m : Magazine) : Nat := m.next + m.notes.length

/-- A magazine with the note of a job's blank at the end (R136). -/
def withClaim (m : Magazine) (token : Byte) (j : Job) : Magazine := { m with
  notes := m.notes ++ [{ serial := nextBlank m, token := token, window := j.window, shift := j.shift,
                         tender := j.tender, amount := j.amount }] }

theorem claimBlank_eq (job : jobAt s i = some j) :
    claimBlank p i s = modJob i (fun j => { j with serial := some (nextBlank s.magazines[p]) })
      { s with magazines := put s.magazines p (withClaim s.magazines[p] (tokenOf s i) j) } := by
  unfold claimBlank
  rw [job]
  exact congrArg (modJob i _) (setMagazine_notes ..)

theorem transmitFirst_turn (job : jobAt s i = some j) :
    let p := printerAt l a
    let m := s.magazines[p]
    let serial := m.next + m.notes.length
    let token := tokenOf s i
    let record := s.lineRecords[p]
    transmitFirst l p i (turnTaken l a s) = { s with
      lines := turnLines s l a (.print token) 0x02#8 (printPayload record.ackToken token { j with serial := some serial })
      jobs := put s.jobs i { s.jobs[i] with job := some { j with state := .sending, serial := some serial } }
      magazines := put s.magazines p { m with
        notes := m.notes ++ [{ serial := serial, token := token, window := j.window, shift := j.shift,
                               tender := j.tender, amount := j.amount }] }
      lineRecords := put s.lineRecords p { record with
        reported := record.reported.filter (· != token)
        ackToken := if record.ackToken = token then 0xFF#8 else record.ackToken } } := by
  intro p m serial token record
  let claimed : State := { turnTaken l a s with
    jobs := put s.jobs i { s.jobs[i] with job := some { j with state := .sending, serial := some serial } }
    magazines := put s.magazines p (withClaim m token j) }
  have begun : modJob i (fun j => { j with state := .sending }) (claimBlank p i (turnTaken l a s)) = claimed := by
    have sends : (s.jobs[i].job.map fun j => { j with serial := some serial }).map (fun j => { j with state := .sending }) =
        some { j with state := .sending, serial := some serial } := by
      rw [show s.jobs[i].job = some j from job]
      rfl
    rw [claimBlank_eq (s := turnTaken l a s) job]
    refine (congrArg (fun x => { claimed with jobs := x }) (upd_put ..)).trans ?_
    exact congrArg (fun x => { claimed with jobs := put s.jobs i { s.jobs[i] with job := x } }) sends
  have job' : jobAt claimed i = some { j with state := .sending, serial := some serial } :=
    congrArg JobRecord.job (put_get_self ..)
  have token' : tokenOf claimed i = token := by
    unfold tokenOf
    rw [show claimed.jobs[i] = _ from put_get_self ..]
    rfl
  have sent := sendPrint_turn (s := s) (l := l) (a := a) (t := claimed) rfl rfl job'
  unfold transmitFirst
  rw [begun]
  rw [token'] at sent
  dsimp only
  rw [token', sent]
  rfl

end

/-- Settles O55: the turn's address, then the first case of R100 that applies. -/
theorem lineTurnSendsOneFrame : Obligations.LineTurnSendsOneFrame := by
  intro s l a alive free after p configured least ack sent
  have turn : lineTurn l s = takeTurn l p (turnTaken l a s) := by
    unfold lineTurn
    rw [if_pos free, nextTurn_eq configured least]
    rfl
  have volatile {t : State} (taken : takeTurn l p (turnTaken l a s) = t) (same : ∀ r, contentOf t r = contentOf s r) :
      exec (.lineTurn l) s = .next t := whenLive_eq alive (turn.trans taken) same
  have chosen {f : TurnFrame} (h : chooseFrame s p = f) : chooseFrame (turnTaken l a s) p = f :=
    (chooseFrame_turnTaken p).trans h
  refine ⟨fun clears => volatile (t := { s with lines := sent .clear 0x03#8 [ack] }) ?_ fun r => by cases r <;> rfl, ?_⟩
  · have frame : chooseFrame s p = .clear := if_pos clears
    unfold takeTurn
    rw [chosen frame]
    exact sendFrame_turn rfl rfl ..
  intro noRepeat frame
  refine ⟨fun quiet polls => volatile (t := { s with lines := sent .poll 0x01#8 [ack] }) ?_ fun r => by cases r <;> rfl, ?_, ?_⟩
  · unfold takeTurn
    rw [chosen (chooseFrame_poll quiet (polls.imp_right (And.imp_left repeatJobOf_none)))]
    exact sendFrame_turn rfl rfl ..
  · intro i j quiet ready listed repeats job
    refine volatile (t := { s with lines := frame (tokenOf s i) (j.serial.getD 0) j }) ?_ fun r => by cases r <;> rfl
    unfold takeTurn
    rw [chosen (chooseFrame_again quiet ready (repeatJobOf_listed repeats listed))]
    refine (sendPrint_turn (s := s) rfl rfl job).trans ?_
    rw [printPayload_eq]
    rfl
  · intro before i rest j quiet ready none unselected list older job granted m serial token record
    have grants : isGranted s i = true := by simp [isGranted, jobIs, job, granted]
    have effect : takeTurn l p (turnTaken l a s) = transmitFirst l p i (turnTaken l a s) := by
      unfold takeTurn
      rw [chosen (chooseFrame_oldest quiet ready (repeatJobOf_none none) unselected list older grants)]
    refine (whenLive_live _ _ alive).trans ?_
    rw [turn, effect, transmitFirst_turn job, printPayload_eq]
    rfl

end Sys2Proof.Machine
end
section
/-! SUPPORT. The slots and the end of a roll-call round (R111, R113, R114): what each leaves of its line. -/

namespace Sys2Proof.Machine

section
variable {s u : State} {l : LineId} {a b : AddressIx} {mask later : BitVec 8}

/-! ### Slots (R111) -/

theorem endSlot_eq (activity : s.lines[l].activity = .slot a later) : endSlot l s = nextSlot l later s := by
  unfold endSlot
  rw [activity]

theorem nextSlot_lowest (there : mask.getLsbD a.val = true) (lowest : ∀ b : AddressIx, b < a → mask.getLsbD b.val = false) :
    nextSlot l mask s = { s with lines := put s.lines l { s.lines[l] with
      activity := .slot a (mask &&& ~~~addressBit a), replyTimer := some s.lineConfigs[l].window } } := by
  have first : firstWhere (every 8) (inMask mask) = some a := firstWhere_every there lowest
  unfold nextSlot
  rw [first]
  rfl

theorem nextSlot_none : nextSlot l 0#8 s = endRound l s := by
  have none : firstWhere (every 8) (inMask 0#8) = .none := firstWhere_eq_none fun b => BitVec.getLsbD_zero
  unfold nextSlot
  rw [none]

/-- An answer of RETRY, no answer, a gap and a bad answer end the slot alike (R111). -/
theorem exec_slotEnds {bytes : List Byte} {address : Byte} {c : Instr} (alive : live s = true)
    (activity : s.lines[l].activity = .slot a later) (discarded : receiveBytes bytes = .discarded)
    (hc : c ∈ [Instr.retry l address, .slotExpiry l, .characterGapTimeout l, .badAnswer l bytes]) :
    exec c s = .next (rewriteChecks s (nextSlot l later s)) := by
  have slot : inSlot s l = true := by
    unfold inSlot
    rw [activity]
  have nothing : receiveNothing l s = endSlot l s := by
    unfold receiveNothing
    rw [activity]
  have raw : receiveRaw l bytes s = endSlot l s := by
    unfold receiveRaw
    rw [discarded]
    exact nothing
  have retried : receiveReply l address .retry s = endSlot l s := by
    unfold receiveReply takeAnswer
    rw [activity]
    dsimp only
    split
    · next serial => cases serial
    · rfl
  rw [← endSlot_eq activity]
  simp only [List.mem_cons, List.not_mem_nil, or_false] at hc
  obtain rfl | rfl | rfl | rfl := hc
  · exact (whenLive_live _ _ alive).trans (by rw [retried])
  · exact (whenLive_live _ _ alive).trans (by rw [if_pos slot])
  · exact (whenLive_live _ _ alive).trans (by rw [nothing])
  · exact (whenLive_live _ _ alive).trans (by rw [if_pos slot, raw])

/-! ### The end of a round (R113) -/

theorem endRound_between (some_ : unresolved s.lines[l].roll ≠ 0#8) (early : s.lines[l].roll.number < 3) :
    endRound l s = { s with
      lines := put s.lines l { lineFreed s.lines[l] with roll := { s.lines[l].roll with phase := .between } } } := by
  let t : State := modRoll l (fun r => { r with phase := .between }) s
  have line : t.lines[l] = { s.lines[l] with roll := { s.lines[l].roll with phase := .between } } := put_get_self ..
  unfold endRound
  dsimp only
  rw [if_neg (fun h => h.elim some_ (Nat.not_le.mpr early)), freeLine_idle (s := t) (by rw [line]; nofun), line]
  exact congrArg (fun x => { s with lines := x }) (put_put ..)

/-- What the end of a roll call leaves of it: the pending set waits (R113). -/
def RollCall.ended (r : RollCall) : RollCall :=
  { phase := if r.pendingSet = 0#8 then .none else .waiting, number := 0, waitingSet := r.pendingSet, runningSet := 0#8,
    pendingSet := 0#8, known := 0#8 }

/-- The line's slip is returned with its eight records (R114). -/
def portAfterSlip (s : State) (l : LineId) : ExchangePort :=
  match s.lines[l].rollSlip with
  | none => s.port
  | some x => portWithReturn s.port
      (entryNow s x.slip x.tag .done 0#32 ((List.finRange 8).flatMap fun b => rollRecord x.results[b]))

theorem returnRollSlip_eq (l : LineId) (s : State) : returnRollSlip l s =
    { s with lines := put s.lines l { s.lines[l] with rollSlip := none }, port := portAfterSlip s l } := by
  unfold returnRollSlip portAfterSlip
  cases slip : s.lines[l].rollSlip with
  | none =>
    refine congrArg (fun x => { s with lines := x }) ((put_self s.lines l).symm.trans (congrArg (put s.lines l) ?_))
    exact congrArg (fun x => { s.lines[l] with rollSlip := x }) slip
  | some x => rfl

/-- The state after the unanswered results of a round are given. -/
def unansweredGiven (l : LineId) (s : State) : State := forEach (unresolvedPrinters s l) giveUnanswered s

theorem unansweredGiven_none (none : unresolved s.lines[l].roll = 0#8) : unansweredGiven l s = s := by
  unfold unansweredGiven unresolvedPrinters
  rw [none]
  rfl

theorem endRound_over (h : unresolved s.lines[l].roll = 0#8 ∨ 3 ≤ s.lines[l].roll.number) :
    let u := unansweredGiven l s
    endRound l s = { u with
      lines := put u.lines l { lineFreed u.lines[l] with roll := u.lines[l].roll.ended, rollSlip := none }
      port := portAfterSlip u l } := by
  intro u
  have outcome (r : RollCall) : (if r.pendingSet = 0#8 then RollCall.none
      else { RollCall.none with phase := .waiting, waitingSet := r.pendingSet }) = r.ended := by
    unfold RollCall.ended
    split
    · next empty =>
      rw [empty]
      rfl
    · rfl
  let t : State := { u with
    lines := put u.lines l { u.lines[l] with roll := u.lines[l].roll.ended, rollSlip := none }, port := portAfterSlip u l }
  have ended : endRollCall l s = t := by
    unfold endRollCall
    rw [show forEach (unresolvedPrinters s l) giveUnanswered s = u from rfl, returnRollSlip_eq]
    simp only [outcome]
    exact congrArg (fun x => { t with lines := x }) (upd_put ..)
  have line : t.lines[l] = { u.lines[l] with roll := u.lines[l].roll.ended, rollSlip := none } := put_get_self ..
  unfold endRound
  dsimp only
  rw [if_pos h, ended, freeLine_idle (by rw [line]; unfold RollCall.ended; dsimp only; split <;> decide), line]
  exact congrArg (fun x => { t with lines := x }) (put_put ..)

end

end Sys2Proof.Machine
end
section
/-! SUPPORT. The roll-call result UNANSWERED (R113, R130): what it makes of its line and its printer, and what it leaves of every other
printer (`Passed`). -/

namespace Sys2Proof.Machine

/-! ### A result becomes known (R112) -/

/-- A slip that selected the address and had no result for it notes one. -/
def RollSlip.settled (a : AddressIx) (r : RollResult) (c : RollSlip) : RollSlip :=
  if inMask c.mask a && c.results[a].isNone then { c with results := put c.results a (some r) } else c

/-- A line on which the result of an address has become known. -/
def Line.settled (a : AddressIx) (r : RollResult) (x : Line) : Line :=
  { x with roll := { x.roll with known := x.roll.known ||| addressBit a }, rollSlip := x.rollSlip.map (·.settled a r) }

section
variable {s t u : State} {l : LineId} {a : AddressIx} {p q : PrinterId} {i k : JobIx} {order : List JobIx} {r : RollResult}

theorem settleResult_eq (p : PrinterId) (r : RollResult) (s : State) :
    let l := lineOfPrinter p
    settleResult p r s = { s with lines := put s.lines l (s.lines[l].settled (addressIx p) r) } := by
  intro l
  let a := addressIx p
  let t : State := modRoll l (fun x => { x with known := x.known ||| addressBit a }) s
  have known : t.lines[l] = { s.lines[l] with
      roll := { s.lines[l].roll with known := s.lines[l].roll.known ||| addressBit a } } := upd_get_self ..
  have missing : resultMissing t l a = s.lines[l].rollSlip.any fun c => inMask c.mask a && c.results[a].isNone := by
    unfold resultMissing
    rw [known]
  have noted : keepResult l a r t = { s with lines := put s.lines l { s.lines[l] with
      roll := { s.lines[l].roll with known := s.lines[l].roll.known ||| addressBit a }
      rollSlip := s.lines[l].rollSlip.map (noteResult a r) } } :=
    congrArg (fun x => { s with lines := x }) (upd_put ..)
  change (if resultMissing t l a then keepResult l a r t else t) = { s with lines := put s.lines l (s.lines[l].settled a r) }
  rw [missing, noted]
  unfold Line.settled
  cases held : s.lines[l].rollSlip with
  | none =>
    refine congrArg (fun x => { s with lines := put s.lines l x }) ?_
    exact congrArg (fun x => { s.lines[l] with
      roll := { s.lines[l].roll with known := s.lines[l].roll.known ||| addressBit a }, rollSlip := x }) held
  | some c =>
    unfold RollSlip.settled noteResult
    dsimp only [Option.any_some, Option.map_some]
    by_cases fresh : (inMask c.mask a && c.results[a].isNone) = true
    · rw [if_pos fresh, if_pos fresh, if_pos (Bool.and_eq_true_iff.mp fresh).1]
    · rw [if_neg fresh, if_neg fresh, ← held]
      rfl

/-! ### What the result leaves of other printers -/

/-- Work on other printers: a printer's records stand, its jobs in flight stay or end, and no job comes. -/
structure Passed (p : PrinterId) (s t : State) : Prop where
  standing : t.printers[p].standing = s.printers[p].standing
  hold : s.printers[p].hold = none → t.printers[p].hold = none
  record : t.lineRecords[p].standing = s.lineRecords[p].standing
  magazine : t.magazines[p] = s.magazines[p]
  mark : s.port.printerMarks[p] = .withCause → t.port.printerMarks[p] = .withCause
  gone : ∀ i : JobIx, jobAt s i = none → jobAt t i = none
  flies : ∀ i ∈ s.printers[p].outstanding, inFlight s i = true →
    jobAt t i = none ∨ i ∈ t.printers[p].outstanding ∧ inFlight t i = true

protected theorem Passed.refl (p : PrinterId) (s : State) : Passed p s s :=
  ⟨rfl, id, rfl, rfl, id, fun _ => id, fun _ hi flying => .inr ⟨hi, flying⟩⟩

protected theorem Passed.trans (h : Passed p s t) (g : Passed p t u) : Passed p s u :=
  ⟨g.standing.trans h.standing, g.hold ∘ h.hold, g.record.trans h.record, g.magazine.trans h.magazine, g.mark ∘ h.mark,
    fun i => g.gone i ∘ h.gone i, fun i hi flying => (h.flies i hi flying).elim (fun gone => .inl (g.gone i gone))
      fun kept => g.flies i kept.1 kept.2⟩

protected theorem Passed.forEach {α : Type} {l : List α} {f : α → State → State} (h : Passed p s t)
    (hf : ∀ a ∈ l, ∀ u, Passed p u (f a u)) : Passed p s (forEach l f t) := by
  induction l generalizing t with
  | nil => exact h
  | cons a rest ih =>
    exact ih (h.trans (hf a List.mem_cons_self t)) fun b hb => hf b (List.mem_cons_of_mem a hb)

theorem inFlight_congr (h : t.jobs[i] = s.jobs[i]) : inFlight t i = inFlight s i := by
  rw [inFlight_eq, inFlight_eq, jobAt_congr h]

theorem isGranted_of_inFlight (h : inFlight s i = true) : isGranted s i = false := by
  unfold isGranted jobIs
  rw [inFlight_eq] at h
  cases job : jobAt s i with
  | none => rfl
  | some j =>
    rw [job] at h
    obtain sending | sent := j.flying_iff.mp h
    · simp [sending]
    · simp [sent]

theorem faultWritten_marks {f : FaultInfo} (mark : s.port.printerMarks[p] = .withCause) :
    (faultWritten q f s).port.printerMarks[p] = .withCause := by
  have marked (cause : Bool) (v : State) (mark : v.port.printerMarks[p] = .withCause) :
      (markPrinter q cause v).port.printerMarks[p] = .withCause := ((Steady.refl v).markPrinter).marks p mark
  unfold faultWritten faultEntered faultNoted
  exact marked _ _ (marked _ _ mark)

theorem Passed.faultSent {f : FaultInfo} (other : q ≠ p) : Passed p s (faultSent order q f s) := by
  have steady := faultSent_steady order q f s
  have off := faultSent_off order q f s
  have unwritten := faultWritten_printers q p f s
  have marks := faultWritten_marks (q := q) (p := p) (s := s) (f := f)
  generalize Machine.faultSent order q f s = t at *
  refine ⟨(steady.printers p).trans ?_, off.holds p, steady.records p, congrArg (fun b : Books => b.magazines[p]) off.books,
    fun mark => steady.marks p (marks mark), fun i gone => ?_,
    fun i hi flying => ?_⟩
  · rw [unwritten, if_neg other]
  · exact (jobAt_congr (off.jobs i (by simp [isGranted, jobIs, gone]))).trans gone
  · have kept := isGranted_of_inFlight flying
    exact .inr ⟨off.lists p i kept hi, (inFlight_congr (off.jobs i kept)).trans flying⟩

/-! ### A job's end leaves the holds of others (R85) -/

theorem finishJob_hold {code : ResultCode} {reason : Nat} (none : s.printers[q].hold = none) :
    (finishJob i code reason s).printers[q].hold = .none := by
  unfold finishJob
  split
  · exact none
  · next j _ =>
    have left : (leaveLists i j (returnJob i j code reason s)).printers[q].hold = .none := by
      unfold leaveLists
      split
      · refine (congrArg Printer.hold (upd_get ..)).trans ?_
        split <;> exact none
      · exact (congrArg (fun v : Vector Printer 16 => v[q].hold) (setQueue_frame ..).2.1).trans none
      · exact none
    have released : (releaseSaleEnd j (leaveLists i j (returnJob i j code reason s))).printers[q].hold = .none := by
      cases window : j.window with
      | none =>
        unfold releaseSaleEnd
        rw [window]
        exact left
      | some w =>
        obtain same | ⟨free, -⟩ := releaseSaleEnd_printers window (leaveLists i j (returnJob i j code reason s)) q
        · rw [same]
          exact left
        · rw [free]
    rw [freeRecord, modPort_printers]
    exact (congrArg (fun v : Vector Printer 16 => v[q].hold) ((statementAfter_places ..).2.trans (lowerOpenJobs_places ..).2)).trans
      released

/-! ### The jobs in flight end IN_DOUBT (R128) -/

theorem JobView.finish_lists {v : JobView} (other : k ≠ i) (hk : k ∈ v.lists p) : k ∈ (v.finish i).lists p := by
  unfold JobView.finish
  split
  · exact hk
  · next x _ =>
    show k ∈ (v.leave i x).lists p
    unfold JobView.leave
    split
    · next q _ =>
      unfold JobView.setList
      dsimp only
      by_cases h : p = q
      · subst h
        rw [Function.update_self]
        exact List.mem_filter.mpr ⟨hk, by simpa using other⟩
      · rwa [Function.update_of_ne h]
    · exact hk
    · exact hk

/-- On a printer that is not READY the books of a job in doubt touch no other magazine, and no printer. -/
theorem inDoubtBooked_others {j : Job} (ready : s.printers[q].state ≠ .ready) (other : q ≠ p) :
    (inDoubtBooked order q i j s).printers = s.printers ∧ (inDoubtBooked order q i j s).magazines[p] = s.magazines[p] := by
  have blank (n : Nat) :
      let t := magazineChanged order q (inDoubtBlank q n (tokenOf s i) j.window j.shift s)
      t.printers = s.printers ∧ t.magazines[p] = s.magazines[p] := by
    obtain ⟨_, _, _, e⟩ := blankBooked ready order n (tokenOf s i) j.window j.shift
    rw [e]
    exact ⟨rfl, put_get_other _ _ _ _ other⟩
  have tallied (w : WindowId) (x : Tender) {t : State} (same : t.printers = s.printers ∧ t.magazines[p] = s.magazines[p]) :
      (modTally w j.shift (addInDoubt x j.amount) t).printers = s.printers ∧
        (modTally w j.shift (addInDoubt x j.amount) t).magazines[p] = s.magazines[p] := by
    obtain ⟨current, closing, e⟩ := modTally_eq w j.shift (addInDoubt x j.amount) t
    rw [e]
    exact same
  unfold inDoubtBooked
  dsimp only
  cases j.serial <;> dsimp only <;> split
  · exact tallied _ _ ⟨rfl, rfl⟩
  · exact ⟨rfl, rfl⟩
  · exact tallied _ _ (blank _)
  · exact blank _

protected theorem Passed.endInDoubt (ready : s.printers[q].state ≠ .ready) (other : q ≠ p) :
    Passed p s (endInDoubt order q i s) := by
  have steady : Steady s (endInDoubt order q i s) := (Steady.refl s).endInDoubt ready
  have view := jobView_endInDoubt (order := order) (i := i) ready
  have place (k : JobIx) : (jobView (endInDoubt order q i s)).place k = if k = i then none else (jobView s).place k := by
    rw [view, JobView.finish_place]
  have held : (s.printers[p].hold = none → (endInDoubt order q i s).printers[p].hold = none) ∧
      (endInDoubt order q i s).magazines[p] = s.magazines[p] := by
    cases job : jobAt s i with
    | none =>
      unfold endInDoubt
      rw [job]
      exact ⟨id, rfl⟩
    | some j =>
      obtain ⟨printers, magazine⟩ := inDoubtBooked_others (order := order) (i := i) (j := j) ready other
      obtain ⟨jobs, -, -⟩ := inDoubtBooked_frame (order := order) (i := i) (j := j) ready
      have job' : jobAt (inDoubtBooked order q i j s) i = some j := (jobAt_congr (by rw [jobs])).trans job
      rw [endInDoubt_eq job]
      refine ⟨fun none => finishJob_hold (by rw [printers]; exact none), ?_⟩
      exact (congrArg (fun v : Vector Magazine 16 => v[p]) (finishJob_books job' .inDoubt 0).1).trans magazine
  refine ⟨steady.printers p, held.1, steady.records p, held.2, steady.marks p, fun k gone => ?_, fun k hk flying => ?_⟩
  · rw [jobAt_none_iff, place] at *
    split
    · rfl
    · exact gone
  · by_cases same : k = i
    · exact .inl (jobAt_none_iff.mpr (by rw [place, if_pos same]))
    · refine .inr ⟨?_, ?_⟩
      · have listed : k ∈ (jobView s).lists p := hk
        have kept := JobView.finish_lists same listed
        rwa [← view] at kept
      · rw [← flying_jobView] at *
        unfold JobView.flying at *
        rwa [place, if_neg same]

/-! ### The result UNANSWERED (R113, R130) -/

/-- The fault of a printer unanswered. -/
def unansweredInfo : FaultInfo := { cause := .lineSilent, flags := none, token := none, serial := none, own := true }

/-- Only a RECOVERING printer is faulted. -/
theorem giveUnanswered_cases (p : PrinterId) (s : State) :
    (s.printers[p].state = .recovering ∧ giveUnanswered p s =
        raiseFault s.printers[p].outstanding p unansweredInfo (settleResult p .unanswered s)) ∨
      (s.printers[p].state ≠ .recovering ∧ giveUnanswered p s = settleResult p .unanswered s) := by
  have printers : (settleResult p .unanswered s).printers = s.printers := by rw [settleResult_eq]
  unfold giveUnanswered handOver
  rw [printers]
  cases state : s.printers[p].state
  case recovering => exact .inl ⟨rfl, rfl⟩
  all_goals exact .inr ⟨nofun, rfl⟩

theorem faultStarted_unanswered (order : List JobIx) (p : PrinterId) (s : State) :
    faultStarted order p unansweredInfo s = faultSent order p unansweredInfo s := (faultStarted_eq ..).trans (if_pos rfl)

theorem faultSent_state (order : List JobIx) (p : PrinterId) (f : FaultInfo) (s : State) :
    (faultSent order p f s).printers[p].state = .faulted := by
  rw [(faultSent_steady order p f s).state, faultWritten_printers, if_pos rfl]

theorem faultWritten_lines (p : PrinterId) (f : FaultInfo) (s : State) : (faultWritten p f s).lines = s.lines := rfl

/-- Its lines untouched, a RECOVERING printer is faulted and its jobs in flight end. -/
theorem raiseFault_unanswered (recovering : s.printers[p].state = .recovering) :
    Steady (faultWritten p unansweredInfo s) (raiseFault order p unansweredInfo s) := by
  have state : (faultSent order p unansweredInfo s).printers[p].state ≠ .ready := by
    rw [faultSent_state]
    nofun
  rw [raiseFault_lineSilent (.inr (.inr recovering)) rfl, faultStarted_unanswered]
  exact (faultSent_steady order p unansweredInfo s).forEach_endInDoubt state

theorem giveUnanswered_lines (p : PrinterId) (s : State) : (giveUnanswered p s).lines =
    put s.lines (lineOfPrinter p) (s.lines[lineOfPrinter p].settled (addressIx p) .unanswered) := by
  have settled : (settleResult p .unanswered s).lines =
      put s.lines (lineOfPrinter p) (s.lines[lineOfPrinter p].settled (addressIx p) .unanswered) :=
    congrArg State.lines (settleResult_eq p .unanswered s)
  obtain ⟨recovering, given⟩ | ⟨-, given⟩ := giveUnanswered_cases p s
  · have state : (settleResult p .unanswered s).printers[p].state = .recovering := by
      rw [settleResult_eq]
      exact recovering
    rw [given, (raiseFault_unanswered state).lines, faultWritten_lines, settled]
  · rw [given]
    exact settled

theorem Passed.settleResult (q p : PrinterId) (r : RollResult) (s : State) : Passed p s (settleResult q r s) := by
  rw [settleResult_eq]
  exact ⟨rfl, id, rfl, rfl, id, fun _ => id, fun _ hi flying => .inr ⟨hi, flying⟩⟩

protected theorem Passed.giveUnanswered (other : q ≠ p) : Passed p s (giveUnanswered q s) := by
  have settled := Passed.settleResult q p .unanswered s
  obtain ⟨recovering, given⟩ | ⟨-, given⟩ := giveUnanswered_cases q s
  · have state : (Machine.settleResult q .unanswered s).printers[q].state = .recovering := by
      rw [settleResult_eq]
      exact recovering
    have faulted (order : List JobIx) (v : State) :
        (Machine.faultSent order q unansweredInfo v).printers[q].state ≠ .ready := by
      rw [faultSent_state]
      nofun
    rw [given, raiseFault_lineSilent (.inr (.inr state)) rfl, faultStarted_unanswered]
    have ended (l : List JobIx) {order : List JobIx} {v : State} (ready : v.printers[q].state ≠ .ready) :
        Passed p v (forEach l (Machine.endInDoubt order q) v) := by
      induction l generalizing v with
      | nil => exact .refl p v
      | cons i rest ih =>
        have one : Steady v (Machine.endInDoubt order q i v) := (Steady.refl v).endInDoubt ready
        exact (Passed.endInDoubt ready other).trans (ih (by rwa [one.state]))
    exact settled.trans ((Passed.faultSent other).trans (ended _ (faulted _ _)))
  · rwa [given]

/-! ### Several results UNANSWERED (log 38) -/

theorem mem_unresolvedPrinters : p ∈ unresolvedPrinters s l ↔
    lineOfPrinter p = l ∧ (unresolved s.lines[l].roll).getLsbD (addressIx p).val = true := by
  simp only [unresolvedPrinters, every, List.mem_map, List.mem_filter, List.mem_finRange, true_and, inMask]
  constructor
  · rintro ⟨a, there, rfl⟩
    obtain ⟨line, address⟩ := (printerAt_eq l a _).mp rfl
    exact ⟨line, address ▸ there⟩
  · rintro ⟨line, there⟩
    exact ⟨addressIx p, there, (printerAt_eq l _ p).mpr ⟨line, rfl⟩⟩

theorem unresolvedPrinters_nodup (s : State) (l : LineId) : (unresolvedPrinters s l).Nodup :=
  ((List.nodup_finRange 8).filter _).map fun a b same => by
    have addresses := ((printerAt_eq l a _).mp same).2
    exact addresses.trans ((printerAt_eq l b _).mp rfl).2.symm

/-- A printer that has answered is passed over. -/
theorem unansweredGiven_passed (answered : p ∉ unresolvedPrinters s l) : Passed p s (unansweredGiven l s) :=
  (Passed.refl p s).forEach fun _ hq _ => .giveUnanswered fun e => answered (e ▸ hq)

/-- An unresolved printer is given its result once. -/
theorem unansweredGiven_once (unanswered : p ∈ unresolvedPrinters s l) :
    ∃ v, Passed p s v ∧ v.settings = s.settings ∧ Passed p (giveUnanswered p v) (unansweredGiven l s) := by
  obtain ⟨before, after, list⟩ := List.append_of_mem unanswered
  have nodup := list ▸ unresolvedPrinters_nodup s l
  have others : ∀ q ∈ before ++ after, q ≠ p := fun q hq e =>
    (List.nodup_cons.mp (List.nodup_middle.mp nodup)).1 (e ▸ hq)
  refine ⟨forEach before giveUnanswered s,
    (Passed.refl p s).forEach fun q hq _ => .giveUnanswered (others q (List.mem_append_left _ hq)),
    forEach_keeps State.settings _ _ (fun q u => congrArg Still.settings (giveUnanswered_still q u)) s, ?_⟩
  have split : unansweredGiven l s = forEach after giveUnanswered (giveUnanswered p (forEach before giveUnanswered s)) := by
    unfold unansweredGiven forEach
    rw [list, List.foldl_append, List.foldl_cons]
  rw [split]
  exact (Passed.refl p _).forEach fun q hq _ => .giveUnanswered (others q (List.mem_append_right _ hq))

/-- A printer that the results do not fault keeps its jobs. -/
theorem unansweredGiven_spares (place : PlaceLaw s) (calm : s.printers[p].state ≠ .recovering) :
    Spares (onList s p) p [] s (unansweredGiven l s) := by
  have apart := place.apart (W := []) (fun _ hw => absurd hw List.not_mem_nil) p
  refine (Spares.refl apart).forEach fun q _ u h => ?_
  have settled : Spares (onList s p) p [] s (settleResult q .unanswered u) := by
    rw [settleResult_eq]
    exact h.elsewhere rfl rfl rfl rfl
  obtain ⟨recovering, given⟩ | ⟨-, given⟩ := giveUnanswered_cases q u
  · rw [given]
    exact settled.raiseFault fun e => calm (h.state ▸ e ▸ recovering)
  · rwa [given]

theorem unansweredGiven_settings (l : LineId) (s : State) : (unansweredGiven l s).settings = s.settings :=
  forEach_keeps State.settings _ _ (fun q u => congrArg Still.settings (giveUnanswered_still q u)) s

end

end Sys2Proof.Machine
end
section
/-! PROOF. Ends of command frames, of slots and of roll calls (R97, R111, R113, R114). -/

namespace Sys2Proof.Machine

/-- A slip on which addresses are reported UNANSWERED. -/
def RollSlip.unanswered (as : List AddressIx) (c : RollSlip) : RollSlip := as.foldl (fun c a => c.settled a .unanswered) c

/-- A line on which addresses are UNANSWERED. -/
def Line.unanswered (as : List AddressIx) (x : Line) : Line := as.foldl (fun x a => x.settled a .unanswered) x

/-- The unresolved addresses of a roll call. -/
def RollCall.openAddresses (r : RollCall) : List AddressIx := (every 8).filter fun a => inMask (unresolved r) a

section
variable {s t : State} {l : LineId} {a b : AddressIx} {p : PrinterId} {later : BitVec 8} {as : List AddressIx}

/-! ### The line after its results (R112, R113) -/

/-- The slip selected the address and has no result for it. -/
abbrev RollSlip.awaits (c : RollSlip) (b : AddressIx) : Prop := c.mask.getLsbD b.val = true ∧ c.results[b] = none

theorem RollSlip.settled_awaiting (a : AddressIx) (r : RollResult) {c : RollSlip} (h : c.awaits a) :
    c.settled a r = { c with results := put c.results a (some r) } :=
  if_pos (Bool.and_eq_true_iff.mpr ⟨h.1, Option.isNone_iff_eq_none.mpr h.2⟩)

theorem RollSlip.settled_other (a : AddressIx) (r : RollResult) {c : RollSlip} (h : ¬c.awaits a) : c.settled a r = c :=
  if_neg fun both => h ⟨(Bool.and_eq_true_iff.mp both).1, Option.isNone_iff_eq_none.mp (Bool.and_eq_true_iff.mp both).2⟩

theorem RollSlip.unanswered_result (as : List AddressIx) (c : RollSlip) (b : AddressIx) :
    (c.unanswered as).results[b] = if b ∈ as ∧ c.awaits b then some .unanswered else c.results[b] := by
  induction as generalizing c with
  | nil => exact (if_neg fun h => nomatch h.1).symm
  | cons a rest ih =>
    have tail : ((c.settled a .unanswered).unanswered rest).results[b] = _ := ih (c.settled a .unanswered)
    refine tail.trans ?_
    by_cases first : a = b ∧ c.awaits a
    · obtain ⟨rfl, awaits⟩ := first
      have given : (c.settled a .unanswered).results[a] = some .unanswered := by
        rw [settled_awaiting a _ awaits]
        exact put_get_self ..
      exact (if_congr Iff.rfl rfl given).trans ((ite_self _).trans (if_pos ⟨List.mem_cons_self, awaits⟩).symm)
    · have same : (c.settled a .unanswered).results[b] = c.results[b] ∧
          (b ∈ rest ∧ (c.settled a .unanswered).awaits b ↔ b ∈ a :: rest ∧ c.awaits b) := by
        by_cases awaits : c.awaits a
        · have other : a ≠ b := fun e => first ⟨e, awaits⟩
          have result : (put c.results a (some .unanswered))[b] = c.results[b] := put_get_other _ _ _ _ other
          rw [settled_awaiting a _ awaits]
          unfold RollSlip.awaits
          dsimp only
          rw [result]
          simp [Ne.symm other]
        · rw [settled_other a _ awaits]
          refine ⟨rfl, and_congr_left fun h => ?_⟩
          have other : b ≠ a := fun e => awaits (e ▸ h)
          simp [other]
      exact if_congr same.2 rfl same.1

theorem RollSlip.unanswered_head (as : List AddressIx) (c : RollSlip) :
    (c.unanswered as).slip = c.slip ∧ (c.unanswered as).tag = c.tag := by
  induction as generalizing c with
  | nil => exact ⟨rfl, rfl⟩
  | cons a rest ih =>
    have one : (c.settled a .unanswered).slip = c.slip ∧ (c.settled a .unanswered).tag = c.tag := by
      unfold RollSlip.settled
      split <;> exact ⟨rfl, rfl⟩
    exact ⟨(ih _).1.trans one.1, (ih _).2.trans one.2⟩

theorem Line.unanswered_slip (as : List AddressIx) (x : Line) :
    (x.unanswered as).rollSlip = x.rollSlip.map (·.unanswered as) ∧
      (x.unanswered as).roll.pendingSet = x.roll.pendingSet := by
  induction as generalizing x with
  | nil => exact ⟨Option.map_id'.symm ▸ rfl, rfl⟩
  | cons a rest ih =>
    obtain ⟨slip, pending⟩ := ih (x.settled a .unanswered)
    exact ⟨slip.trans (Option.map_map ..), pending⟩

theorem unansweredGiven_lines (l : LineId) (s : State) :
    (unansweredGiven l s).lines = put s.lines l (s.lines[l].unanswered s.lines[l].roll.openAddresses) := by
  have each (as : List AddressIx) (s : State) :
      (forEach (as.map (printerAt l)) giveUnanswered s).lines = put s.lines l (s.lines[l].unanswered as) := by
    induction as generalizing s with
    | nil => exact (put_self ..).symm
    | cons a rest ih =>
      obtain ⟨line, address⟩ := (printerAt_eq l a _).mp rfl
      have first : (giveUnanswered (printerAt l a) s).lines = put s.lines l (s.lines[l].settled a .unanswered) := by
        have lines := giveUnanswered_lines (printerAt l a) s
        simpa only [line, ← address] using lines
      refine (ih (giveUnanswered (printerAt l a) s)).trans ?_
      rw [first, put_put, put_get_self]
      rfl
  exact each _ s

/-- The slip's answer after the last round: its results, and UNANSWERED of the printers that gave none. -/
theorem portAfterSlip_unanswered {x : RollSlip} (slip : s.lines[l].rollSlip = some x) :
    (portAfterSlip (unansweredGiven l s) l).returns.getLast? = some (entryNow s x.slip x.tag .done 0#32
      ((List.finRange 8).flatMap fun b => rollRecord (if (unresolved s.lines[l].roll).getLsbD b.val = true ∧
        x.mask.getLsbD b.val = true ∧ x.results[b] = none then some .unanswered else x.results[b]))) := by
  have held : (unansweredGiven l s).lines[l].rollSlip = some (x.unanswered s.lines[l].roll.openAddresses) := by
    rw [unansweredGiven_lines, put_get_self, (Line.unanswered_slip ..).1, slip]
    rfl
  have result (b : AddressIx) : (x.unanswered s.lines[l].roll.openAddresses).results[b] =
      if (unresolved s.lines[l].roll).getLsbD b.val = true ∧ x.awaits b then some .unanswered else x.results[b] := by
    have open_ : b ∈ s.lines[l].roll.openAddresses ↔ (unresolved s.lines[l].roll).getLsbD b.val = true := by
      simp [RollCall.openAddresses, every, inMask]
    exact (RollSlip.unanswered_result ..).trans (if_congr (and_congr_left' open_) rfl rfl)
  have clock : (unansweredGiven l s).settings = s.settings := unansweredGiven_settings l s
  obtain ⟨slip', tag'⟩ := RollSlip.unanswered_head s.lines[l].roll.openAddresses x
  unfold portAfterSlip
  rw [held]
  refine List.getLast?_concat.trans (congrArg some ?_)
  unfold entryNow
  rw [slip', tag', clock]
  simp only [result]

/-! ### The printers after it (R130) -/

/-- An unresolved RECOVERING printer is faulted LINE_SILENT, and its jobs in flight are gone. -/
structure FaultedUnanswered (p : PrinterId) (s u : State) : Prop where
  state : u.printers[p].state = .faulted
  fault : u.printers[p].fault = firstFault unansweredInfo s.printers[p] s.settings.clock
  mark : u.port.printerMarks[p] = .withCause
  gone : ∀ i ∈ s.printers[p].outstanding, inFlight s i = true → jobAt u i = none

theorem Passed.state (h : Passed p s t) : t.printers[p].state = s.printers[p].state :=
  (congrArg Printer.state h.standing : _)

theorem Passed.fault (h : Passed p s t) : t.printers[p].fault = s.printers[p].fault :=
  (congrArg Printer.fault h.standing : _)

theorem raiseFault_unanswered_gone {order : List JobIx} {i : JobIx} (recovering : s.printers[p].state = .recovering)
    (gone : jobAt s i = none) : jobAt (raiseFault order p unansweredInfo s) i = none := by
  have state : (faultSent order p unansweredInfo s).printers[p].state ≠ .ready := by
    rw [faultSent_state]
    nofun
  have sent : jobAt (faultSent order p unansweredInfo s) i = none :=
    (jobAt_congr ((faultSent_off order p unansweredInfo s).jobs i (by simp [isGranted, jobIs, gone]))).trans gone
  rw [raiseFault_lineSilent (.inr (.inr recovering)) rfl, faultStarted_unanswered, jobAt_none_iff,
    forEach_endInDoubt_place state, jobAt_none_iff.mp sent, ite_self]

theorem unansweredGiven_recovering (unanswered : p ∈ unresolvedPrinters s l) (recovering : s.printers[p].state = .recovering) :
    FaultedUnanswered p s (unansweredGiven l s) := by
  obtain ⟨v, before, clock, after⟩ := unansweredGiven_once unanswered
  let settled : State := settleResult p .unanswered v
  have passed : Passed p s settled := before.trans (.settleResult p p .unanswered v)
  have given : giveUnanswered p v = raiseFault v.printers[p].outstanding p unansweredInfo settled := by
    obtain ⟨-, given⟩ | ⟨other, -⟩ := giveUnanswered_cases p v
    · exact given
    · exact absurd (before.state.trans recovering) other
  have serving : settled.printers[p].serving := .inr (.inr (passed.state.trans recovering))
  obtain ⟨first, gone⟩ := raiseFault_first (order := v.printers[p].outstanding) (f := unansweredInfo) serving rfl
  rw [given] at after
  refine ⟨after.state.trans first.state, (after.fault.trans first.fault).trans ?_, after.mark first.mark, fun i hi flying => ?_⟩
  · have flags : settled.printers[p].lastFlags = s.printers[p].lastFlags := (congrArg Printer.lastFlags passed.standing : _)
    have clock' : settled.settings = s.settings := by
      unfold settled
      rw [settleResult_eq]
      exact clock
    unfold firstFault
    rw [flags, clock']
  · obtain ended | ⟨listed, flies⟩ := passed.flies i hi flying
    · exact after.gone i (raiseFault_unanswered_gone (passed.state.trans recovering) ended)
    · exact after.gone i (gone i listed flies)

/-- The result changes nothing of a printer that is not RECOVERING. -/
theorem unansweredGiven_calm (unanswered : p ∈ unresolvedPrinters s l) (calm : s.printers[p].state ≠ .recovering) :
    Passed p s (unansweredGiven l s) := by
  obtain ⟨v, before, -, after⟩ := unansweredGiven_once unanswered
  obtain ⟨recovering, -⟩ | ⟨-, given⟩ := giveUnanswered_cases p v
  · exact absurd (before.state.symm.trans recovering) calm
  · rw [given] at after
    exact before.trans ((Passed.settleResult p p .unanswered v).trans after)

theorem portAfterSlip_marks (s : State) (l : LineId) : (portAfterSlip s l).printerMarks = s.port.printerMarks := by
  unfold portAfterSlip
  split <;> rfl

end

/-- Settles O56: frames, slots, and the three ends of a round. -/
theorem frameEndsAndSlots : Obligations.FrameEndsAndSlots := by
  refine ⟨fun s l alive => ⟨fun x activity => ?_, fun mask a activity there lowest => ?_⟩,
    fun s l a b later bytes address alive activity there lowest discarded c hc => ?_,
    fun s l a bytes address alive activity discarded c hc => ?_⟩
  · refine whenLive_eq alive (f := commandFrameEnd l) ?_ fun r => by cases r <;> rfl
    unfold commandFrameEnd
    rw [activity]
    rfl
  · refine whenLive_eq alive (f := commandFrameEnd l) ?_ fun r => by cases r <;> rfl
    unfold commandFrameEnd
    rw [activity]
    exact nextSlot_lowest there lowest
  · rw [exec_slotEnds alive activity discarded hc, nextSlot_lowest there lowest, rewriteChecks_same]
    · rfl
    · exact fun r => by cases r <;> rfl
  intro roll open_ ended answerOf
  have ends := exec_slotEnds alive activity discarded hc
  rw [nextSlot_none] at ends
  refine ⟨fun some_ early => ?_, fun none => ?_, fun some_ late => ?_⟩
  · rw [ends, endRound_between some_ early, rewriteChecks_same]
    exact fun r => by cases r <;> rfl
  · have given := unansweredGiven_none none
    have finished := endRound_over (.inl none)
    dsimp only at finished
    rw [given] at finished
    rw [ends, finished, rewriteChecks_same]
    · rfl
    · exact fun r => by cases r <;> rfl
  · refine ⟨_, ends, ?_⟩
    rw [endRound_over (.inr late)]
    let u := unansweredGiven l s
    have line : u.lines[l] = s.lines[l].unanswered roll.openAddresses := by
      unfold u
      rw [unansweredGiven_lines, put_get_self]
    have pending : u.lines[l].roll.pendingSet = roll.pendingSet := by rw [line, (Line.unanswered_slip ..).2]
    have endedLine : (put u.lines l { lineFreed u.lines[l] with roll := u.lines[l].roll.ended, rollSlip := none })[l] =
        { lineFreed u.lines[l] with roll := u.lines[l].roll.ended, rollSlip := none } := put_get_self ..
    refine ⟨congrArg Line.activity endedLine, (congrArg Line.roll endedLine).trans ?_, congrArg Line.rollSlip endedLine,
      fun x slip => portAfterSlip_unanswered slip, fun b unanswered => ?_⟩
    · unfold RollCall.ended
      rw [pending]
    intro p
    obtain ⟨place, address⟩ := (printerAt_eq l b p).mp rfl
    have there : p ∈ unresolvedPrinters s l := mem_unresolvedPrinters.mpr ⟨place, address ▸ unanswered⟩
    refine ⟨fun recovering => ?_, fun serving => ?_⟩
    · obtain ⟨state, fault, mark, gone⟩ := unansweredGiven_recovering there recovering
      have marks : (portAfterSlip u l).printerMarks = u.port.printerMarks := portAfterSlip_marks u l
      exact ⟨state, congrArg FaultRecord.state fault, congrArg FaultRecord.first fault, congrArg FaultRecord.latest fault,
        congrArg FaultRecord.clock fault, congrArg FaultRecord.further fault, congrArg FaultRecord.token fault,
        congrArg FaultRecord.serial fault, (congrArg (fun m : Vector WriteMark 16 => m[p]) marks).trans mark, gone⟩
    · have calm : s.printers[p].state ≠ .recovering := fun recovering =>
        serving.elim (fun ready => nomatch ready.symm.trans recovering) (fun empty => nomatch empty.symm.trans recovering)
      have passed := unansweredGiven_calm there calm
      exact ⟨passed.state, passed.fault, fun law => (unansweredGiven_spares law calm).outstanding⟩

end Sys2Proof.Machine
end
section
/-! PROOF. The SERIAL answer of a roll call (R112, R130, R145, R146): its judgement, what the result does to the magazine and the
printer, and the end of its slot. -/

namespace Sys2Proof.Machine

/-- The register after a judgement: a rollback turns entries UNUSED (R146). -/
def judgedRegister (p : PrinterId) (r : RollResult) (m : Magazine) (g : SpoilRegister) : SpoilRegister :=
  match r with
  | .rolledBack n => if m.loaded then rollEntries p m.kind (m.next - n) m.next g else g
  | _ => g

/-- A result known of a printer, and the judgement's effects on magazine and register, before the printer takes it. -/
structure Judged (p : PrinterId) (r : RollResult) (s t : State) : Prop where
  printers : t.printers = s.printers
  records : t.lineRecords = s.lineRecords
  lines : t.lines = put s.lines (lineOfPrinter p) (s.lines[lineOfPrinter p].settled (addressIx p) r)
  magazine : t.magazines[p] = if s.magazines[p].loaded then judgedMagazine s.magazines[p] r else s.magazines[p]
  register : t.register = judgedRegister p r s.magazines[p] s.register
  current : t.current = s.current
  closing : t.closing = s.closing
  settings : t.settings = s.settings
  view : jobView t = jobView s

section
variable {s t u v : State} {l : LineId} {a b : AddressIx} {p : PrinterId} {i : JobIx} {r : RollResult} {later : BitVec 8}
  {order : List JobIx}

/-! ### The judgement -/

theorem applyJudgement_eq (p : PrinterId) (r : RollResult) (s : State) : ∃ kinds printerMarks stockMarks,
    applyJudgement p r s = { s with
      magazines := put s.magazines p (if s.magazines[p].loaded then judgedMagazine s.magazines[p] r else s.magazines[p])
      register := judgedRegister p r s.magazines[p] s.register
      kinds := kinds
      port := { s.port with printerMarks := printerMarks, stockMarks := stockMarks } } := by
  unfold applyJudgement
  by_cases loaded : s.magazines[p].loaded = true
  · let t : State := { s with register := judgedRegister p r s.magazines[p] s.register }
    obtain ⟨printerMarks, written⟩ := setMagazine_eq p (judgedMagazine s.magazines[p] r) t
    obtain ⟨kinds, stockMarks, recomputed⟩ := recomputeOf_eq p (setMagazine p (judgedMagazine s.magazines[p] r) t)
    rw [written] at recomputed
    refine ⟨kinds, printerMarks, stockMarks, ?_⟩
    rw [if_pos loaded, if_pos loaded, ← recomputed, ← written]
    cases r with
    | rolledBack n => simp only [t, judgedRegister, if_pos loaded]
    | _ => rfl
  · have same : judgedRegister p r s.magazines[p] s.register = s.register := by
      unfold judgedRegister
      split
      · exact if_neg loaded
      · rfl
    refine ⟨s.kinds, s.port.printerMarks, s.port.stockMarks, ?_⟩
    rw [if_neg loaded, if_neg loaded, same, put_self]

theorem judged (p : PrinterId) (r : RollResult) (s : State) : Judged p r s (settleResult p r (applyJudgement p r s)) := by
  obtain ⟨kinds, printerMarks, stockMarks, judged⟩ := applyJudgement_eq p r s
  rw [settleResult_eq, judged]
  exact ⟨rfl, rfl, rfl, put_get_self .., rfl, rfl, rfl, rfl, rfl⟩

theorem Judged.lines_at (h : Judged p r s t) (place : printerAt l a = p) :
    t.lines = put s.lines l (s.lines[l].settled a r) := by
  obtain ⟨rfl, rfl⟩ := (printerAt_eq l a p).mp place
  exact h.lines

/-! ### The printer takes the result (R130) -/

theorem handOver_untouched (h : s.printers[p].state = .faulted ∨ s.printers[p].state ≠ .recovering ∧ r = .verified) :
    handOver p r s = s := by
  unfold handOver
  obtain faulted | ⟨calm, rfl⟩ := h
  · rw [faulted]
  · cases state : s.printers[p].state
    case recovering => exact absurd state calm
    all_goals rfl

theorem handOver_returned (recovering : s.printers[p].state = .recovering) (h : r = .verified ∨ ∃ n, r = .rolledBack n) :
    handOver p r s = returnToService s.printers[p].outstanding p s := by
  unfold handOver
  rw [recovering]
  obtain rfl | ⟨n, rfl⟩ := h <;> rfl

/-- The fault of a magazine that does not show the serial of its record (R130, R145). -/
def mismatchInfo (serial : Nat) : FaultInfo :=
  { cause := .stockMismatch, flags := none, token := none, serial := some serial, own := true }

theorem handOver_mismatch {serial : Nat} (serving : s.printers[p].serving) :
    handOver p (.mismatch serial) s = raiseFault s.printers[p].outstanding p (mismatchInfo serial) s := by
  unfold handOver
  obtain state | state | state := serving <;> rw [state] <;> rfl

/-- A printer returns to service: READY with blanks left, else EMPTY, its fault record cleared (R130). -/
theorem returnToService_eq (recovering : s.printers[p].state = .recovering) : ∃ kinds printerMarks stockMarks,
    let ready := s.magazines[p].loaded = true ∧ s.magazines[p].next ≤ s.magazines[p].last
    returnToService order p s = { s with
      printers := put s.printers p { s.printers[p] with
        state := if ready then .ready else .empty
        spoilRun := if ready then 0 else s.printers[p].spoilRun
        fault := .clear }
      kinds := kinds
      port := { s.port with printerMarks := printerMarks, stockMarks := stockMarks } } := by
  have blanks : (s.magazines[p].loaded = true ∧ 0 < remaining s.magazines[p]) ↔
      s.magazines[p].loaded = true ∧ s.magazines[p].next ≤ s.magazines[p].last := by
    refine and_congr_right fun loaded => ?_
    unfold remaining
    rw [if_pos loaded]
    omega
  have cleared (v : State) : ∃ marks, clearRecord p v = { v with
      printers := put v.printers p { v.printers[p] with fault := .clear }, port := { v.port with printerMarks := marks } } := by
    unfold clearRecord
    dsimp only
    split <;> exact ⟨_, rfl⟩
  have enters (new : PrinterState) : ∃ kinds printerMarks stockMarks, clearRecord p (enterState order p new s) = { s with
      printers := put s.printers p { s.printers[p] with
        state := new, spoilRun := if new = .ready then 0 else s.printers[p].spoilRun, fault := .clear }
      kinds := kinds
      port := { s.port with printerMarks := printerMarks, stockMarks := stockMarks } } := by
    obtain ⟨kinds, stockMarks, recomputed⟩ := recomputeOf_eq p (stateWritten p new s)
    obtain ⟨printerMarks, done⟩ := cleared (recomputeOf p (stateWritten p new s))
    refine ⟨kinds, printerMarks, stockMarks, ?_⟩
    rw [enterState_stays order (.inl (by rw [recovering]; nofun)), done, recomputed]
    exact congrArg (fun x => { s with
      printers := x, kinds := kinds
      port := { s.port with printerMarks := printerMarks, stockMarks := stockMarks } })
      (upd_put s.printers p { s.printers[p] with
        state := new, spoilRun := if new = .ready then 0 else s.printers[p].spoilRun } fun x => { x with fault := .clear })
  unfold returnToService
  dsimp only
  by_cases ready : s.magazines[p].loaded = true ∧ s.magazines[p].next ≤ s.magazines[p].last
  · rw [if_pos ready, if_pos ready, if_pos (blanks.mpr ready)]
    exact enters .ready
  · rw [if_neg ready, if_neg ready, if_neg (mt blanks.mp ready)]
    exact enters .empty

theorem raiseFault_mismatch_lines (serial : Nat) (serving : s.printers[p].serving) :
    (raiseFault order p (mismatchInfo serial) s).lines = s.lines := by
  have started : faultStarted order p (mismatchInfo serial) s = faultSent order p (mismatchInfo serial) s :=
    (faultStarted_eq ..).trans (if_pos rfl)
  rw [raiseFault_clear serving rfl, started]
  exact (faultSent_steady order p (mismatchInfo serial) s).lines

/-- The printer takes a judgement's result with no change to lines or books. -/
theorem handOver_same (judgement : r ≠ .unanswered) :
    (handOver p r s).lines = s.lines ∧ books (handOver p r s) = books s := by
  have returned (recovering : s.printers[p].state = .recovering) :
      (returnToService s.printers[p].outstanding p s).lines = s.lines ∧
        books (returnToService s.printers[p].outstanding p s) = books s := by
    obtain ⟨kinds, printerMarks, stockMarks, e⟩ := returnToService_eq (order := s.printers[p].outstanding) recovering
    rw [e]
    exact ⟨rfl, rfl⟩
  have faulted (serial : Nat) (serving : s.printers[p].serving) :
      (raiseFault s.printers[p].outstanding p (mismatchInfo serial) s).lines = s.lines ∧
        books (raiseFault s.printers[p].outstanding p (mismatchInfo serial) s) = books s :=
    ⟨raiseFault_mismatch_lines serial serving, (raiseFault_raised serving rfl _).sent.books⟩
  unfold handOver
  dsimp only
  split
  · next state => exact returned state
  · next state => exact returned state
  · next serial state => exact faulted serial (.inr (.inr state))
  · next serial state => exact faulted serial (.inl state)
  · next serial state => exact faulted serial (.inr (.inl state))
  · exact absurd rfl judgement
  · exact ⟨rfl, rfl⟩

/-! ### The slot ends (R111, R113) -/

/-- An address in no set of a roll call, its result known. -/
def RollCall.lacks (c : RollCall) (a : AddressIx) : Prop :=
  c.waitingSet.getLsbD a.val = false ∧ c.pendingSet.getLsbD a.val = false ∧ (unresolved c).getLsbD a.val = false

theorem isSelected_lacks (place : printerAt l a = p) (h : s.lines[l].roll.lacks a) : isSelected s p = false := by
  obtain ⟨rfl, rfl⟩ := (printerAt_eq l a p).mp place
  obtain ⟨waiting, pending, open_⟩ := h
  unfold isSelected inMask
  dsimp only
  rw [waiting, pending, open_]
  rfl

/-- After the end of a slot the state is that of before but for line and port, or that after the results UNANSWERED. -/
structure SlotOver (l : LineId) (later : BitVec 8) (s v t : State) : Prop where
  rest : ∃ lines port, t = { v with lines := lines, port := port } ∧ port.printerMarks = v.port.printerMarks
  given : v = s ∨ later = 0#8 ∧ 3 ≤ s.lines[l].roll.number ∧ unresolved s.lines[l].roll ≠ 0#8 ∧ v = unansweredGiven l s
  lacks : ∀ a, s.lines[l].roll.lacks a → t.lines[l].roll.lacks a
  slip : later ≠ 0#8 → t.lines[l].rollSlip = s.lines[l].rollSlip

theorem endRound_slotOver (l : LineId) (s : State) : ∃ v, SlotOver l 0#8 s v (endRound l s) := by
  by_cases over_ : unresolved s.lines[l].roll = 0#8 ∨ 3 ≤ s.lines[l].roll.number
  · let u := unansweredGiven l s
    have pending : u.lines[l].roll.pendingSet = s.lines[l].roll.pendingSet := by
      unfold u
      rw [unansweredGiven_lines, put_get_self, (Line.unanswered_slip ..).2]
    refine ⟨u, ?_⟩
    rw [endRound_over over_]
    refine ⟨⟨_, _, rfl, portAfterSlip_marks u l⟩, ?_, fun a lacks => ?_, fun h => absurd rfl h⟩
    · by_cases none : unresolved s.lines[l].roll = 0#8
      · exact .inl (unansweredGiven_none none)
      · exact .inr ⟨rfl, over_.resolve_left none, none, rfl⟩
    · have line : (put u.lines l { lineFreed u.lines[l] with roll := u.lines[l].roll.ended, rollSlip := none })[l].roll =
          u.lines[l].roll.ended := congrArg Line.roll (put_get_self ..)
      have ended : u.lines[l].roll.ended.lacks a :=
        ⟨(congrArg (fun m : BitVec 8 => m.getLsbD a.val) pending).trans lacks.2.1, BitVec.getLsbD_zero,
          by simp [unresolved, RollCall.ended]⟩
      exact (congrArg (fun c : RollCall => c.lacks a) line).mpr ended
  · obtain ⟨some_, early⟩ := not_or.mp over_
    refine ⟨s, ?_⟩
    rw [endRound_between some_ (Nat.not_le.mp early)]
    refine ⟨⟨_, _, rfl, rfl⟩, .inl rfl, fun a lacks => ?_, fun h => absurd rfl h⟩
    have line : (put s.lines l { lineFreed s.lines[l] with roll := { s.lines[l].roll with phase := .between } })[l].roll =
        { s.lines[l].roll with phase := .between } := congrArg Line.roll (put_get_self ..)
    exact (congrArg (fun c : RollCall => c.lacks a) line).mpr lacks

theorem nextSlot_slotOver (l : LineId) (later : BitVec 8) (s : State) : ∃ v, SlotOver l later s v (nextSlot l later s) := by
  by_cases last : later = 0#8
  · subst last
    rw [nextSlot_none]
    exact endRound_slotOver l s
  · unfold nextSlot
    cases first : firstWhere (every 8) (inMask later) with
    | none =>
      refine absurd (BitVec.eq_of_getLsbD_eq fun i hi => ?_) last
      have out := List.find?_eq_none.mp first ⟨i, hi⟩ (List.mem_finRange _)
      simpa [inMask] using out
    | some b =>
      have line (f : Line → Line) : (modLine l f s).lines[l] = f s.lines[l] := upd_get_self ..
      refine ⟨s, ⟨_, _, rfl, rfl⟩, .inl rfl, fun a lacks => ?_, fun _ => ?_⟩
      · dsimp only
        rw [line]
        exact lacks
      · dsimp only
        rw [line]

/-! ### The answer (R112) -/

theorem judgeAnswer_rolledBack {m : Magazine} {serial kind n : Nat} (h : judgeAnswer m serial kind = .rolledBack n) :
    m.loaded = true ∧ serial < m.next ∧ n = m.next - serial := by
  unfold judgeAnswer at h
  split at h
  · cases h
  next loaded =>
  split at h
  · cases h
  split at h
  · cases h
  split at h
  · cases h
  split at h
  · cases h
  split at h
  · next v _ range =>
    cases h
    exact ⟨by simpa using loaded, range.2, rfl⟩
  · cases h

theorem judgeAnswer_mismatch {m : Magazine} {serial kind n : Nat} (h : judgeAnswer m serial kind = .mismatch n) :
    m.loaded = true ∧ n = serial := by
  unfold judgeAnswer at h
  split at h
  · cases h
  next loaded =>
  have loaded : m.loaded = true := by simpa using loaded
  refine ⟨loaded, ?_⟩
  repeat' split at h
  all_goals cases h <;> rfl

theorem judgeAnswer_judges {m : Magazine} {serial kind : Nat} : judgeAnswer m serial kind ≠ .unanswered := by
  unfold judgeAnswer
  repeat' split
  all_goals nofun

/-- Table 8-2 with its two MISMATCH rows that need no serial as one. -/
theorem judgeAnswer_eq (m : Magazine) (serial : Nat) (kind : KindId) : judgeAnswer m serial kind.val =
    if m.loaded = false then .verified
    else if m.frozen = true ∨ kind ≠ m.kind then .mismatch serial
    else if serial = m.next then .verified
    else match m.unverified with
      | none => .mismatch serial
      | some v => if v ≤ serial ∧ serial < m.next then .rolledBack (m.next - serial) else .mismatch serial := by
  unfold judgeAnswer
  cases m.loaded with
  | false => rfl
  | true =>
    cases m.frozen with
    | true => simp
    | false =>
      by_cases same : kind = m.kind
      · simp [same] <;> rfl
      · simp [same, Fin.val_inj]

/-- The result of a SERIAL answer, taken by magazine, line and printer. -/
def answerTaken (p : PrinterId) (serial kind : Nat) (s : State) : State :=
  let r := judgeAnswer s.magazines[p] serial kind
  handOver p r (settleResult p r (applyJudgement p r s))

theorem takeAnswer_serial {serial : Word} {kind : KindId} (running : s.lines[l].roll.runningSet.getLsbD a.val = true)
    (fresh : s.lines[l].roll.known.getLsbD a.val = false)
    (calm : ∀ i ∈ s.printers[printerAt l a].outstanding, inFlight s i = false) :
    takeAnswer l a (addressByte a) (.serial serial (BitVec.ofNat 8 kind.val)) s =
      endSlot l (answerTaken (printerAt l a) serial.toNat kind.val s) := by
  have code : (BitVec.ofNat 8 kind.val).toNat = kind.val := Nat.mod_eq_of_lt (by omega)
  have open_ : inMask (unresolved s.lines[l].roll) a = true := by
    unfold inMask unresolved
    rw [BitVec.getLsbD_and, BitVec.getLsbD_not, running, fresh]
    simp
  have inRange : replyInRange (.serial serial (BitVec.ofNat 8 kind.val)) = true :=
    decide_eq_true (code.le.trans (Nat.le_of_lt_succ kind.isLt))
  have idle : (flightList s (printerAt l a)).isEmpty = true :=
    List.isEmpty_iff.mpr (List.filter_eq_nil_iff.mpr fun i hi => by simp [calm i hi])
  unfold takeAnswer
  dsimp only
  rw [inRange, open_, beq_self_eq_true]
  refine congrArg (endSlot l) ?_
  change takeSerial (printerAt l a) serial.toNat (BitVec.ofNat 8 kind.val).toNat s = _
  rw [code]
  exact if_pos idle

theorem answerTaken_judged (p : PrinterId) (serial kind : Nat) (s : State) :
    let r := judgeAnswer s.magazines[p] serial kind
    ∃ w, Judged p r s w ∧ answerTaken p serial kind s = handOver p r w :=
  ⟨_, judged p _ s, rfl⟩

theorem unresolved_settled (a b : AddressIx) (r : RollResult) (x : Line) :
    (unresolved (x.settled a r).roll).getLsbD b.val = true ↔
      b ≠ a ∧ x.roll.runningSet.getLsbD b.val = true ∧ x.roll.known.getLsbD b.val = false := by
  have bit : (unresolved (x.settled a r).roll).getLsbD b.val =
      (x.roll.runningSet.getLsbD b.val && !(x.roll.known.getLsbD b.val || decide (b = a))) := by
    unfold unresolved Line.settled
    rw [BitVec.getLsbD_and, BitVec.getLsbD_not, BitVec.getLsbD_or, addressBit_getLsbD, decide_eq_true b.isLt, Bool.true_and]
  rw [bit, Bool.and_eq_true, Bool.not_eq_true', Bool.or_eq_false_iff, decide_eq_false_iff_not]
  exact ⟨fun ⟨runs, unknown, other⟩ => ⟨other, runs, unknown⟩, fun ⟨other, runs, unknown⟩ => ⟨runs, unknown, other⟩⟩

/-- A result has been judged and taken by its printer, and no later work has touched the printer. -/
structure ResultTaken (p : PrinterId) (r : RollResult) (s v : State) : Prop where
  taken : ∃ w, Judged p r s w ∧ Passed p (handOver p r w) v
  judgement : r ≠ .unanswered

theorem ResultTaken.magazine (h : ResultTaken p r s v) :
    v.magazines[p] = if s.magazines[p].loaded then judgedMagazine s.magazines[p] r else s.magazines[p] := by
  obtain ⟨w, judged, passed⟩ := h.taken
  have same := congrArg Books.magazines (handOver_same (s := w) (p := p) h.judgement).2
  exact (passed.magazine.trans (congrArg (fun m : Vector Magazine 16 => m[p]) same)).trans judged.magazine

/-- A RECOVERING printer is back in service (R130). -/
theorem ResultTaken.returned (h : ResultTaken p r s v) (recovering : s.printers[p].state = .recovering)
    (returns : r = .verified ∨ ∃ n, r = .rolledBack n) :
    let ready := v.magazines[p].loaded = true ∧ v.magazines[p].next ≤ v.magazines[p].last
    v.printers[p].fault = .clear ∧ (ready → v.printers[p].state = .ready ∧ v.printers[p].spoilRun = 0) ∧
      (¬ready → v.printers[p].state = .empty) := by
  obtain ⟨w, judged, passed⟩ := h.taken
  have state : w.printers[p].state = .recovering := by
    rw [judged.printers]
    exact recovering
  have same := congrArg Books.magazines (handOver_same (s := w) (p := p) h.judgement).2
  have magazine : v.magazines[p] = w.magazines[p] :=
    passed.magazine.trans (congrArg (fun m : Vector Magazine 16 => m[p]) same)
  obtain ⟨kinds, printerMarks, stockMarks, e⟩ := returnToService_eq (order := w.printers[p].outstanding) state
  have standing := passed.standing
  rw [handOver_returned state returns, e, put_get_self] at standing
  intro ready
  simp only [ready, magazine]
  refine ⟨congrArg Printer.fault standing, fun h => ?_, fun h => ?_⟩
  · exact ⟨(congrArg Printer.state standing).trans (if_pos h), (congrArg Printer.spoilRun standing).trans (if_pos h)⟩
  · exact (congrArg Printer.state standing).trans (if_neg h)

/-- A result that does nothing to its printer (log 45). -/
theorem ResultTaken.untouched (h : ResultTaken p r s v)
    (calm : s.printers[p].state = .faulted ∨ s.printers[p].state ≠ .recovering ∧ r = .verified) :
    v.printers[p].state = s.printers[p].state ∧ v.printers[p].fault = s.printers[p].fault := by
  obtain ⟨w, judged, passed⟩ := h.taken
  rw [handOver_untouched (by rw [judged.printers]; exact calm)] at passed
  rw [passed.state, passed.fault, judged.printers]
  exact ⟨rfl, rfl⟩

/-- A MISMATCH faults a printer in service. -/
structure FaultedMismatch (p : PrinterId) (serial : Nat) (s v : State) : Prop where
  state : v.printers[p].state = .faulted
  fault : v.printers[p].fault = firstFault (mismatchInfo serial) s.printers[p] s.settings.clock
  clearRequest : v.lineRecords[p].clearRequest = true
  mark : v.port.printerMarks[p] = .withCause
  hold : s.printers[p].state = .ready → v.printers[p].hold = none

theorem ResultTaken.mismatch {serial : Nat} (h : ResultTaken p (.mismatch serial) s v) (serving : s.printers[p].serving) :
    FaultedMismatch p serial s v := by
  obtain ⟨w, judged, passed⟩ := h.taken
  have serves : w.printers[p].serving := by
    rw [judged.printers]
    exact serving
  have raised := raiseFault_raised (f := mismatchInfo serial) serves rfl w.printers[p].outstanding
  rw [handOver_mismatch serves] at passed
  have printer := passed.standing.trans raised.printer
  have record := passed.record.trans raised.record
  rw [judged.printers, judged.settings] at printer
  refine ⟨congrArg Printer.state printer, congrArg Printer.fault printer, congrArg LineRecord.clearRequest record,
    passed.mark raised.mark, fun ready => passed.hold (raised.hold ?_)⟩
  rw [judged.printers]
  exact ready

/-- The answer is the last news of its roll call, or no other printer of it is left without a result. -/
def RollCall.answeredAlone (c : RollCall) (a : AddressIx) (later : BitVec 8) : Prop :=
  later ≠ 0#8 ∨ c.number < 3 ∨ ∀ b : AddressIx, b ≠ a → c.runningSet.getLsbD b.val = true → c.known.getLsbD b.val = true

/-- After a SERIAL answer of result `r` and the end of its slot; `v` is the state but for the line's and the port's own part. -/
structure AnswerEnds (p : PrinterId) (l : LineId) (a : AddressIx) (later : BitVec 8) (r : RollResult) (s v t : State) : Prop where
  rest : ∃ lines port, t = rewriteChecks s { v with lines := lines, port := port } ∧ port.printerMarks = v.port.printerMarks
  selected : isSelected t p = false
  slip : later ≠ 0#8 → t.lines[l].rollSlip = s.lines[l].rollSlip.map (·.settled a r)
  taken : ResultTaken p r s v
  alone : s.lines[l].roll.answeredAlone a later →
    v.current = s.current ∧ v.closing = s.closing ∧
      v.register = judgedRegister p r s.magazines[p] s.register
  outstanding : PlaceLaw s → s.printers[p].state ≠ .recovering → r = .verified →
    v.printers[p].outstanding = s.printers[p].outstanding

theorem exec_serial_ends {serial : Word} {kind : KindId} (alive : live s = true)
    (activity : s.lines[l].activity = .slot a later) (running : s.lines[l].roll.runningSet.getLsbD a.val = true)
    (fresh : s.lines[l].roll.known.getLsbD a.val = false) (waiting : s.lines[l].roll.waitingSet.getLsbD a.val = false)
    (pending : s.lines[l].roll.pendingSet.getLsbD a.val = false)
    (place : printerAt l a = p) (calm : ∀ i ∈ s.printers[p].outstanding, inFlight s i = false) :
    ∃ t v, exec (.serial l (BitVec.ofNat 8 (a.val + 1)) serial (BitVec.ofNat 8 kind.val)) s = .next t ∧
      AnswerEnds p l a later (judgeAnswer s.magazines[p] serial.toNat kind.val) s v t := by
  obtain ⟨line, address⟩ := (printerAt_eq l a p).mp place
  obtain ⟨w, judged, handed⟩ := answerTaken_judged p serial.toNat kind.val s
  have judges : judgeAnswer s.magazines[p] serial.toNat kind.val ≠ .unanswered := judgeAnswer_judges
  generalize judgeAnswer s.magazines[p] serial.toNat kind.val = r at *
  obtain ⟨linesKept, booksKept⟩ := handOver_same (s := w) (p := p) judges
  let u := answerTaken p serial.toNat kind.val s
  have settled : u.lines[l] = s.lines[l].settled a r := by
    rw [show u = handOver p r w from handed, linesKept, judged.lines_at place, put_get_self]
  have slot : u.lines[l].activity = .slot a later := by
    rw [settled]
    exact activity
  have next : exec (.serial l (BitVec.ofNat 8 (a.val + 1)) serial (BitVec.ofNat 8 kind.val)) s =
      .next (rewriteChecks s (nextSlot l later u)) := by
    refine (whenLive_live _ _ alive).trans ?_
    unfold receiveReply
    rw [activity]
    dsimp only
    subst place
    rw [show BitVec.ofNat 8 (a.val + 1) = addressByte a from rfl, takeAnswer_serial running fresh calm, endSlot_eq slot]
  obtain ⟨v, ends⟩ := nextSlot_slotOver l later u
  obtain ⟨newLines, port, e, marks⟩ := ends.rest
  have known (b : AddressIx) := unresolved_settled a b r s.lines[l]
  rw [← settled] at known
  have lacks : u.lines[l].roll.lacks a := by
    refine ⟨?_, ?_, Bool.eq_false_iff.mpr fun open_ => ((known a).mp open_).1 rfl⟩
    · rw [settled]
      exact waiting
    · rw [settled]
      exact pending
  have passed : Passed p u v := by
    obtain same | ⟨-, -, -, given⟩ := ends.given
    · rw [same]
      exact .refl p u
    · rw [given]
      refine unansweredGiven_passed fun open_ => ?_
      have bit := (mem_unresolvedPrinters.mp open_).2
      rw [← address] at bit
      exact ((known a).mp bit).1 rfl
  refine ⟨_, v, next, ?_⟩
  refine ⟨⟨newLines, port, congrArg (rewriteChecks s) e, marks⟩, isSelected_lacks place (ends.lacks a lacks), fun more => ?_,
    ⟨⟨w, judged, handed ▸ passed⟩, judges⟩, fun alone => ?_, fun law stays verified => ?_⟩
  · exact (ends.slip more).trans (congrArg Line.rollSlip settled)
  · have same : v = u := by
      obtain same | ⟨last, third, some_, -⟩ := ends.given
      · exact same
      · rw [settled] at third
        obtain more | early | rest := alone
        · exact absurd last more
        · exact absurd third (Nat.not_le.mpr early)
        · refine absurd (BitVec.eq_of_getLsbD_eq fun i hi => ?_) some_
          rw [BitVec.getLsbD_zero, Bool.eq_false_iff]
          intro open_
          obtain ⟨other, runs, unknown⟩ := (known ⟨i, hi⟩).mp open_
          exact nomatch (rest _ other runs).symm.trans unknown
    have books_eq : books v = books w := by rw [same, show u = _ from handed, booksKept]
    exact ⟨(congrArg Books.current books_eq).trans judged.current, (congrArg Books.closing books_eq).trans judged.closing,
      (congrArg Books.register books_eq).trans judged.register⟩
  · have same : u = w := handed.trans (handOver_untouched (.inr ⟨judged.printers ▸ stays, verified⟩))
    have printers : u.printers = s.printers := by rw [same, judged.printers]
    obtain h | ⟨-, -, -, given⟩ := ends.given
    · rw [h, printers]
    · have placed : PlaceLaw u := by
        rw [placeLaw_iff, same, judged.view]
        exact (placeLaw_iff s).mp law
      rw [given, (unansweredGiven_spares (l := l) placed (printers ▸ stays)).outstanding, printers]

end

/-- Settles O60: the judgement, the printer's part of it, and the end of the slot. -/
theorem serialJudgesMagazine : Obligations.SerialJudgesMagazine := by
  intro s l a later serial kind alive activity running fresh waiting pending p m old calm service result alone
  have result_eq : judgeAnswer m serial.toNat kind = result := judgeAnswer_eq m serial.toNat kind
  obtain ⟨t, v, next, ends⟩ :=
    exec_serial_ends (serial := serial) (kind := kind) alive activity running fresh waiting pending rfl calm
  rw [show judgeAnswer s.magazines[printerAt l a] serial.toNat kind = result from result_eq] at ends
  obtain ⟨⟨lines, port, e, marks⟩, selected, slip, taken, unchanged, outstanding⟩ := ends
  have magazine := taken.magazine
  have register (only : alone) : v.register = judgedRegister p result m s.register := (unchanged only).2.2
  refine ⟨t, next, selected, fun more x given there none => ?_, ?_⟩
  · rw [slip more, given]
    exact congrArg some (x.settled_awaiting a result ⟨there, none⟩)
  subst e
  refine ⟨fun only => ⟨(unchanged only).1, (unchanged only).2.1⟩, fun faulted => ?_, ?_⟩
  · obtain ⟨state, fault⟩ := taken.untouched (.inl faulted)
    exact ⟨state.trans faulted, fault⟩
  cases hr : result with
  | verified =>
    rw [hr] at taken magazine register
    refine ⟨magazine, register, fun recovering => ?_, fun stays => ?_⟩
    · obtain ⟨fault, ready, empty⟩ := taken.returned recovering (.inl rfl)
      have same : v.magazines[p].loaded = m.loaded ∧ v.magazines[p].next = m.next ∧ v.magazines[p].last = m.last := by
        rw [magazine]
        split <;> exact ⟨rfl, rfl, rfl⟩
      obtain ⟨loaded, serials, final⟩ := same
      rw [loaded, serials, final] at ready empty
      exact ⟨fault, ready, empty⟩
    obtain ⟨state, fault⟩ := taken.untouched (.inr ⟨stays, rfl⟩)
    exact ⟨state, fault, fun law => outstanding law stays hr⟩
  | rolledBack n =>
    obtain ⟨loaded, below, n_eq⟩ := judgeAnswer_rolledBack (result_eq.trans hr)
    have serial_eq : m.next - n = serial.toNat := by omega
    rw [hr] at taken magazine register
    have magazine : v.magazines[p] = { m with next := serial.toNat, inDoubt := m.inDoubt - n, unverified := none } := by
      rw [← serial_eq]
      exact magazine.trans (if_pos loaded)
    refine ⟨magazine, fun only => ?_, fun recovering => ?_⟩
    · refine (register only).trans ((if_pos loaded).trans ?_)
      rw [serial_eq]
      rfl
    · obtain ⟨fault, ready, empty⟩ := taken.returned recovering (.inr ⟨n, rfl⟩)
      rw [magazine] at ready empty
      exact ⟨fault, fun h => ready ⟨loaded, h⟩, fun h => empty fun r => absurd r.2 (Nat.not_le.mpr h)⟩
  | mismatch n =>
    obtain ⟨loaded, rfl⟩ := judgeAnswer_mismatch (result_eq.trans hr)
    rw [hr] at taken magazine register
    refine ⟨magazine.trans (if_pos loaded), register, fun serves => ?_⟩
    have serving : s.printers[p].serving := by
      obtain h | h | h | h := service
      · exact .inr (.inr h)
      · exact .inl h
      · exact .inr (.inl h)
      · exact absurd h serves
    obtain ⟨state, fault, clears, mark, hold⟩ := taken.mismatch serving
    exact ⟨state, congrArg FaultRecord.state fault, congrArg FaultRecord.first fault, congrArg FaultRecord.latest fault,
      congrArg FaultRecord.clock fault, congrArg FaultRecord.further fault, congrArg FaultRecord.token fault,
      congrArg FaultRecord.serial fault, clears, (congrArg (fun m : Vector WriteMark 16 => m[p]) marks).trans mark, hold⟩
  | unanswered => exact taken.judgement hr

end Sys2Proof.Machine
end
section
/-! SUPPORT. A good STATUS (R105) in three parts: its entries are read, its flags and the not-ready mark are judged (`statusTail`), and its
exchange ends (`statusOver`). -/

namespace Sys2Proof.Machine

/-- What follows the entries of a STATUS: flags, mark, implied cancel, answer to CLEAR, recovery (R105, R107, R121, R122, R129). -/
def statusTail (order : List JobIx) (p : PrinterId) (command : CommandKind) (f : BitVec 5) (waiting : Nat) (s : State) : State :=
  judgeRecovery order p f (answerClear p command (impliedCancel order p waiting (judgeNotReady order p f
    (judgeConditionFlags order p f s))))

/-- The flags become the last flags (R121). -/
def flagsNoted (p : PrinterId) (f : BitVec 5) (s : State) : State := modPrinter p (fun x => { x with lastFlags := f }) s

/-- The exchange of a STATUS ends: the line is free, and the check words are written. -/
def statusOver (l : LineId) (s t : State) : State := rewriteChecks s { t with lines := put t.lines l (lineFreed t.lines[l]) }

/-- A job is SENDING (R107). -/
def isSending (s : State) (i : JobIx) : Bool := jobIs s i fun j => j.state == .sending

/-- A printer of which flags without news change nothing but the last flags. -/
structure Unmoved (p : PrinterId) (waiting : Nat) (s : State) : Prop where
  unmarked : s.printers[p].notReady = none
  still : s.printers[p].state = .ready ∨ waiting ≠ 0 ∨ ∀ k ∈ s.printers[p].outstanding, isSending s k = false
  unacknowledged : s.printers[p].state ≠ .faulted ∨ s.printers[p].fault.state = .opened

section
variable {s t u : State} {l : LineId} {x : Exchange} {p : PrinterId} {f : BitVec 5} {waiting : Nat} {order : List JobIx}
  {command : CommandKind} {e : OutcomeEntry} {i : JobIx} {flags : Byte} {entries : List OutcomeEntry}

/-! ### Flags without news -/

theorem flagCauses_clean (s : State) (p : PrinterId) : flagCauses s p 1#5 = [] := by
  simp [flagCauses, flagJam, flagCoverOpen, flagOverheat, flagStockOut]

theorem impliedCancel_idle
    (still : s.printers[p].state = .ready ∨ waiting ≠ 0 ∨ ∀ k ∈ s.printers[p].outstanding, isSending s k = false) :
    impliedCancel order p waiting s = s := by
  unfold impliedCancel
  obtain ready | some_ | idle := still
  · exact if_neg fun h => h.1 ready
  · exact if_neg fun h => some_ h.2
  · have none : (s.printers[p].outstanding.filter fun i => jobIs s i fun j => j.state == .sending) = [] :=
      List.filter_eq_nil_iff.mpr fun k hk => by rw [show jobIs s k _ = false from idle k hk]; exact Bool.false_ne_true
    rw [none, bySerial, List.foldr_nil]
    exact ite_self _

theorem judgeRecovery_unacknowledged (h : s.printers[p].state ≠ .faulted ∨ s.printers[p].fault.state = .opened) :
    judgeRecovery order p f s = s := by
  unfold judgeRecovery
  refine if_neg fun ⟨faulted, acknowledged, _⟩ => h.elim (· faulted) fun opened => ?_
  exact nomatch opened.symm.trans acknowledged

theorem answerClear_lines (p : PrinterId) (command : CommandKind) (s : State) :
    (answerClear p command s).printers = s.printers ∧ (answerClear p command s).lines = s.lines := by
  unfold answerClear
  split <;> exact ⟨rfl, rfl⟩

theorem flagsNoted_printer (p : PrinterId) (f : BitVec 5) (s : State) :
    (flagsNoted p f s).printers[p] = { s.printers[p] with lastFlags := f } := upd_get_self ..

theorem Unmoved.judged (h : Unmoved p waiting s) (order : List JobIx) (command : CommandKind) (f : BitVec 5) :
    judgeRecovery order p f (answerClear p command (impliedCancel order p waiting (judgeNotReady order p f s))) =
      answerClear p command s := by
  have mark : judgeNotReady order p f s = s := by
    unfold judgeNotReady
    rw [h.unmarked]
  rw [mark, impliedCancel_idle h.still, judgeRecovery_unacknowledged]
  rw [(answerClear_lines ..).1]
  exact h.unacknowledged

theorem Unmoved.flagsNoted (h : Unmoved p waiting s) (f : BitVec 5) : Unmoved p waiting (Machine.flagsNoted p f s) := by
  have printer := flagsNoted_printer p f s
  refine ⟨?_, ?_, ?_⟩ <;> rw [printer]
  · exact h.unmarked
  · exact h.still
  · exact h.unacknowledged

theorem Unmoved.statusTail (h : Unmoved p waiting s) (noCauses : flagCauses s p f = []) :
    statusTail order p command f waiting s = answerClear p command (Machine.flagsNoted p f s) := by
  have flags : judgeConditionFlags order p f s = Machine.flagsNoted p f s := by
    unfold judgeConditionFlags
    rw [noCauses]
    rfl
  unfold Machine.statusTail
  rw [flags]
  exact (h.flagsNoted f).judged order command f

/-! ### The exchange -/

theorem takeStatus_eq (p : PrinterId) (command : CommandKind) (flags : Byte) (waiting : Nat) (entries : List OutcomeEntry)
    (s : State) : takeStatus p command flags waiting entries s =
      statusTail s.printers[p].outstanding p command (conditionFlags flags) waiting (noteReported p entries
        (forEach entries (handleEntry s.printers[p].outstanding p (conditionFlags flags) s.lineRecords[p].reported) s)) := rfl

theorem replyTaken_record (p : PrinterId) (s : State) :
    (replyTaken p s).lineRecords[p] = { s.lineRecords[p] with failures := 0 } := upd_get_self ..

/-- A good STATUS answers a POLL or a CLEAR (R97, R102). -/
structure GoodStatus (s : State) (l : LineId) (x : Exchange) (waiting : Byte) (entries : List OutcomeEntry) : Prop where
  awaits : awaiting s l x
  command : x.command = .poll ∨ x.command = .clear
  waiting : waiting.toNat ≤ 2
  few : entries.length ≤ 2
  inRange : ∀ e ∈ entries, entryInRange e = true

theorem exec_status {waiting : Byte} (h : GoodStatus s l x waiting entries)
    (effect : takeStatus x.printer x.command flags waiting.toNat entries (replyTaken x.printer s) = t)
    (calm : t.lines[l].roll.phase ≠ .round) :
    exec (.status l (BitVec.ofNat 8 (x.printer.val % 8 + 1)) flags waiting entries) s = .next (statusOver l s t) := by
  have expected : replyExpected x.command (.status flags waiting entries) = true := by
    obtain command | command := h.command <;> rw [command] <;> rfl
  have inRange : replyInRange (.status flags waiting entries) = true := by
    simp [replyInRange, h.waiting, h.few, List.all_eq_true.mpr h.inRange]
  have good : goodReply x (addressByte (addressIx x.printer)) (.status flags waiting entries) = true := by
    simp [goodReply, expected, inRange]
  subst effect
  exact whenLive_reply h.awaits good calm

/-- A STATUS whose entries leave the printer with no news in its flags. -/
theorem exec_status_unmoved {waiting : Byte} (h : GoodStatus s l x waiting entries)
    (entered : noteReported x.printer entries (forEach entries (handleEntry s.printers[x.printer].outstanding x.printer
      (conditionFlags flags) s.lineRecords[x.printer].reported) (replyTaken x.printer s)) = u)
    (unmoved : Unmoved x.printer waiting.toNat u) (noCauses : flagCauses u x.printer (conditionFlags flags) = [])
    (lines : u.lines[l].roll.phase = s.lines[l].roll.phase) :
    exec (.status l (BitVec.ofNat 8 (x.printer.val % 8 + 1)) flags waiting entries) s =
      .next (statusOver l s (answerClear x.printer x.command (flagsNoted x.printer (conditionFlags flags) u))) := by
  refine exec_status h ?_ ?_
  · rw [takeStatus_eq]
    rw [replyTaken_record, show (replyTaken x.printer s).printers = s.printers from rfl, entered]
    exact unmoved.statusTail noCauses
  · rw [(answerClear_lines ..).2, show (flagsNoted x.printer (conditionFlags flags) u).lines = u.lines from rfl, lines]
    exact h.awaits.2.2.2.2

/-- Where only line records, last flags and the port are written no check word changes. -/
theorem statusOver_volatile (l : LineId) (p : PrinterId) (f : BitVec 5) (records : Vector LineRecord 16) (port : ExchangePort)
    (s : State) : statusOver l s (flagsNoted p f { s with lineRecords := records, port := port }) = { s with
      lines := put s.lines l (lineFreed s.lines[l])
      printers := put s.printers p { s.printers[p] with lastFlags := f }
      lineRecords := records
      port := port } :=
  rewriteChecks_same _ _ (contentOf_congr _ _ rfl rfl (retained_put ⟨rfl, rfl, rfl, rfl⟩) rfl rfl rfl rfl rfl rfl rfl rfl)

end

end Sys2Proof.Machine
end
section
/-! PROOF. STATUSes that move no job and no blank: without an entry, with a repeat, with a stray (R105, R106, R121). -/

namespace Sys2Proof.Machine

/-- After a STATUS that writes only the last flags and the printer's line record. -/
def statusIdle (s : State) (l : LineId) (p : PrinterId) (f : BitVec 5) (r : LineRecord) : State := { s with
  lines := put s.lines l (lineFreed s.lines[l])
  printers := put s.printers p { s.printers[p] with lastFlags := f }
  lineRecords := put s.lineRecords p { r with failures := 0 } }

section
variable {s t u : State} {l : LineId} {x : Exchange} {p : PrinterId} {f : BitVec 5} {waiting flags token : Byte}
  {order : List JobIx} {e : OutcomeEntry} {i : JobIx} {j : Job} {reported : List Byte}

/-- A printer that is READY with no mark. -/
theorem unmoved_of_clean (ready : s.printers[p].state = .ready) (unmarked : s.printers[p].notReady = none) (n : Nat) :
    Unmoved p n s :=
  ⟨unmarked, .inl ready, .inl (by rw [ready]; nofun)⟩

theorem statusOver_idle (s : State) (l : LineId) (p : PrinterId) (f : BitVec 5) (r : LineRecord) :
    statusOver l s (flagsNoted p f { s with lineRecords := put s.lineRecords p { r with failures := 0 } }) =
      statusIdle s l p f r := statusOver_volatile l p f (put s.lineRecords p { r with failures := 0 }) s.port s

theorem noEntry_inRange : ∀ e ∈ ([] : List OutcomeEntry), entryInRange e = true := fun _ he => absurd he List.not_mem_nil

/-- The entries of a STATUS have written only the printer's line record. -/
theorem exec_status_idle {r : LineRecord} {entries : List OutcomeEntry} (good : GoodStatus s l x waiting entries)
    (poll : x.command = .poll)
    (unmoved : Unmoved x.printer waiting.toNat s) (noCauses : flagCauses s x.printer (conditionFlags flags) = [])
    (entered : noteReported x.printer entries (forEach entries (handleEntry s.printers[x.printer].outstanding x.printer
      (conditionFlags flags) s.lineRecords[x.printer].reported) (replyTaken x.printer s)) =
        { s with lineRecords := put s.lineRecords x.printer { r with failures := 0 } }) :
    exec (.status l (BitVec.ofNat 8 (x.printer.val % 8 + 1)) flags waiting entries) s =
      .next (statusIdle s l x.printer (conditionFlags flags) r) := by
  refine (exec_status_unmoved good entered ⟨unmoved.unmarked, unmoved.still, unmoved.unacknowledged⟩ noCauses rfl).trans ?_
  rw [poll, ← statusOver_idle]
  rfl

theorem exec_status_noEntry (h : awaiting s l x) (poll : x.command = .poll) (few : waiting.toNat ≤ 2)
    (unmoved : Unmoved x.printer waiting.toNat s) (noCauses : flagCauses s x.printer (conditionFlags flags) = []) :
    exec (.status l (BitVec.ofNat 8 (x.printer.val % 8 + 1)) flags waiting []) s =
      .next (statusIdle s l x.printer (conditionFlags flags) s.lineRecords[x.printer]) :=
  exec_status_idle ⟨h, .inl poll, few, Nat.zero_le _, noEntry_inRange⟩ poll unmoved noCauses rfl

/-- The answer to CLEAR (R105 step 5). -/
theorem exec_status_clear (h : awaiting s l x) (clear : x.command = .clear) (few : waiting.toNat ≤ 2)
    (unmoved : Unmoved x.printer waiting.toNat s) :
    exec (.status l (BitVec.ofNat 8 (x.printer.val % 8 + 1)) 1#8 waiting []) s =
      .next (statusIdle s l x.printer 1#5 { s.lineRecords[x.printer] with clearRequest := false }) := by
  have cleared : answerClear x.printer x.command (flagsNoted x.printer 1#5 (replyTaken x.printer s)) =
      flagsNoted x.printer 1#5 { s with
        lineRecords := put s.lineRecords x.printer { s.lineRecords[x.printer] with clearRequest := false, failures := 0 } } := by
    rw [clear]
    exact congrArg (fun y => flagsNoted x.printer 1#5 { s with lineRecords := y })
      (upd_put s.lineRecords x.printer { s.lineRecords[x.printer] with failures := 0 } fun r => { r with clearRequest := false })
  rw [← statusOver_idle, ← cleared]
  exact exec_status_unmoved ⟨h, .inr clear, few, Nat.zero_le _, noEntry_inRange⟩ rfl
    ⟨unmoved.unmarked, unmoved.still, unmoved.unacknowledged⟩ (flagCauses_clean s x.printer) rfl

/-! ### One entry -/

/-- An entry that is done with: its token is the last reported and the one acknowledged (R105). -/
def acknowledged (p : PrinterId) (token : Byte) (s : State) : State :=
  modLineRecord p (fun r => { r with ackToken := token, reported := [token] }) s

theorem noteReported_acknowledged (p : PrinterId) (e : OutcomeEntry) (s : State) :
    noteReported p [e] (modLineRecord p (fun r => { r with ackToken := e.token }) s) = acknowledged p e.token s :=
  congrArg (fun y => { s with lineRecords := y })
    (upd_put s.lineRecords p { s.lineRecords[p] with ackToken := e.token } fun r => { r with reported := [e.token] })

/-- A token reported before is passed over (R106). -/
theorem exec_status_repeat (h : awaiting s l x) (poll : x.command = .poll) (few : waiting.toNat ≤ 2)
    (unmoved : Unmoved x.printer waiting.toNat s) (inRange : entryInRange e = true)
    (before : e.token ∈ s.lineRecords[x.printer].reported) :
    exec (.status l (BitVec.ofNat 8 (x.printer.val % 8 + 1)) 1#8 waiting [e]) s =
      .next (statusIdle s l x.printer 1#5 { s.lineRecords[x.printer] with reported := [e.token] }) := by
  have passed : handleEntry s.printers[x.printer].outstanding x.printer 1#5 s.lineRecords[x.printer].reported e
      (replyTaken x.printer s) = replyTaken x.printer s := if_pos (List.contains_iff_mem.mpr before)
  have single : ∀ y ∈ [e], entryInRange y = true := fun y hy => List.mem_singleton.mp hy ▸ inRange
  refine exec_status_idle ⟨h, .inl poll, few, by simp, single⟩ poll unmoved (flagCauses_clean s x.printer) ?_
  refine (congrArg (noteReported x.printer [e]) passed).trans ?_
  exact congrArg (fun y => { s with lineRecords := y }) (upd_put s.lineRecords x.printer
    { s.lineRecords[x.printer] with failures := 0 } fun r => { r with reported := [e.token] })

theorem outcomeJob_none (none : ∀ i : JobIx, jobOfToken s token = some i → i ∉ s.printers[p].outstanding ∨ inFlight s i = false) :
    outcomeJob s p token = .none := by
  unfold outcomeJob
  cases named : jobOfToken s token with
  | none => rfl
  | some i =>
    refine if_neg fun taken => ?_
    obtain ⟨listed, flying⟩ := Bool.and_eq_true_iff.mp taken
    obtain out | still := none i named
    · exact out (List.contains_iff_mem.mp listed)
    · exact nomatch still.symm.trans flying

theorem outcomeJob_replyTaken (p q : PrinterId) (token : Byte) (s : State) :
    outcomeJob (replyTaken p s) q token = outcomeJob s q token := by
  unfold outcomeJob jobOfToken inFlight jobIs jobAt
  rfl

/-- A stray raises the stray count, and its change marks the entry (R98, R106). -/
theorem countStray_eq (p : PrinterId) (s : State) : ∃ marks,
    countStray p s = { s with
      lineRecords := put s.lineRecords p { s.lineRecords[p] with strays := min 255 (s.lineRecords[p].strays + 1) }
      port := { s.port with printerMarks := marks } } ∧
    (s.lineRecords[p].strays < 255 → marks[p] ≠ .clear) ∧
    ∀ q : PrinterId, q ≠ p → marks[q] = s.port.printerMarks[q] := by
  unfold countStray satAdd
  by_cases full : min 255 (s.lineRecords[p].strays + 1) = s.lineRecords[p].strays
  · refine ⟨s.port.printerMarks, if_pos full, fun few => ?_, fun _ _ => rfl⟩
    omega
  · refine ⟨_, if_neg full, fun _ => ?_, fun q other => put_get_other _ _ _ _ other.symm⟩
    rw [upd_get_self]
    exact (markSet_spec _ _).1

/-- The line record of a printer after a stray. -/
def LineRecord.strayed (token : Byte) (r : LineRecord) : LineRecord :=
  { r with reported := [token], ackToken := token, strays := min 255 (r.strays + 1) }

theorem acknowledged_stray (p : PrinterId) (token : Byte) (s : State) : ∃ marks,
    acknowledged p token (countStray p (replyTaken p s)) = { s with
      lineRecords := put s.lineRecords p { s.lineRecords[p].strayed token with failures := 0 }
      port := { s.port with printerMarks := marks } } ∧
    (s.lineRecords[p].strays < 255 → marks[p] ≠ .clear) ∧
    ∀ q : PrinterId, q ≠ p → marks[q] = s.port.printerMarks[q] := by
  obtain ⟨marks, counted, mark, others⟩ := countStray_eq p (replyTaken p s)
  have record := replyTaken_record p s
  refine ⟨marks, ?_, fun few => mark (by rw [record]; exact few), others⟩
  rw [record] at counted
  rw [counted]
  have written := (upd_put (replyTaken p s).lineRecords p
    { s.lineRecords[p] with failures := 0, strays := min 255 (s.lineRecords[p].strays + 1) } fun r =>
      { r with ackToken := token, reported := [token] }).trans (put_put s.lineRecords p _ _)
  exact congrArg (fun y => { s with lineRecords := y, port := { s.port with printerMarks := marks } }) written

theorem handleEntry_stray (fresh : e.token ∉ reported) (none : outcomeJob s p e.token = .none) :
    handleEntry order p f reported e s = modLineRecord p (fun r => { r with ackToken := e.token }) (countStray p s) := by
  unfold handleEntry
  rw [if_neg (mt List.contains_iff_mem.mp fresh), none]

/-- A stray writes the printer's line record and, below 255 strays, its mark. -/
theorem exec_status_stray (h : awaiting s l x) (poll : x.command = .poll) (few : waiting.toNat ≤ 2)
    (unmoved : Unmoved x.printer waiting.toNat s) (inRange : entryInRange e = true)
    (fresh : e.token ∉ s.lineRecords[x.printer].reported)
    (none : ∀ i : JobIx, jobOfToken s e.token = some i → i ∉ s.printers[x.printer].outstanding ∨ inFlight s i = false) :
    ∃ marks, exec (.status l (BitVec.ofNat 8 (x.printer.val % 8 + 1)) 1#8 waiting [e]) s =
        .next { statusIdle s l x.printer 1#5 (s.lineRecords[x.printer].strayed e.token) with
          port := { s.port with printerMarks := marks } } ∧
      (s.lineRecords[x.printer].strays < 255 → marks[x.printer] ≠ .clear) ∧
      ∀ q : PrinterId, q ≠ x.printer → marks[q] = s.port.printerMarks[q] := by
  obtain ⟨marks, counted, mark, others⟩ := acknowledged_stray x.printer e.token s
  refine ⟨marks, ?_, mark, others⟩
  have stray : outcomeJob (replyTaken x.printer s) x.printer e.token = .none :=
    (outcomeJob_replyTaken ..).trans (outcomeJob_none none)
  have entered := (congrArg (noteReported x.printer [e]) (handleEntry_stray (order := s.printers[x.printer].outstanding)
    (f := 1#5) fresh stray)).trans ((noteReported_acknowledged ..).trans counted)
  have single : ∀ y ∈ [e], entryInRange y = true := fun y hy => List.mem_singleton.mp hy ▸ inRange
  refine (exec_status_unmoved (flags := 1#8) ⟨h, .inl poll, few, Nat.one_le_ofNat, single⟩ entered
    ⟨unmoved.unmarked, unmoved.still, unmoved.unacknowledged⟩ (flagCauses_clean _ x.printer) rfl).trans ?_
  rw [poll]
  exact congrArg Host.Outcome.next (statusOver_volatile ..)

end

end Sys2Proof.Machine
end
section
/-! SUPPORT. A printer that a STATUS faults (`StandsFaulted`): its record from the first fault to the end of the exchange, through further
faults (R126) and the implied cancel (R107), and what the cancels leave alone (`Cancels`). -/

namespace Sys2Proof.Machine

/-- Jobs of a printer are cancelled: lines, records and standings, a free hold, and all books but the magazines are as they were. -/
structure Cancels (p : PrinterId) (s t : State) : Prop where
  steady : Steady s t
  hold : s.printers[p].hold = none → t.printers[p].hold = none
  books : books t = { books s with magazines := t.magazines }
  settings : t.settings = s.settings

/-- A printer faulted since `s` by `f`, with the marks and requests that brings (R116, R126 to R128). -/
structure StandsFaulted (p : PrinterId) (f : FaultInfo) (s t : State) : Prop where
  state : t.printers[p].state = .faulted
  fault : ∃ latest further, t.printers[p].fault =
    { firstFault f s.printers[p] s.settings.clock with latest := latest, further := further }
  unmarked : t.printers[p].notReady = none
  hold : s.printers[p].state = .ready → t.printers[p].hold = none
  clears : t.lineRecords[p].clearRequest = true
  mark : t.port.printerMarks[p] = .withCause
  unselected : isSelected t p = false
  phases : ∀ l : LineId, t.lines[l].roll.phase = s.lines[l].roll.phase

section
variable {s t u v : State} {l : LineId} {p q : PrinterId} {f g : FaultInfo} {waiting : Nat} {order : List JobIx} {i : JobIx}

/-! ### Cancelled jobs (R107, R141) -/

theorem Steady.setMagazine {m : Magazine} (h : Steady s t) : Steady s (Machine.setMagazine p m t) := by
  have put : Steady s { t with magazines := put t.magazines p m } := h.elsewhere rfl rfl rfl rfl
  exact put.ite put.markPrinter

protected theorem Cancels.refl (p : PrinterId) (s : State) : Cancels p s s := ⟨.refl s, id, rfl, rfl⟩

protected theorem Cancels.trans (h : Cancels p s t) (k : Cancels p t u) : Cancels p s u :=
  ⟨h.steady.trans k.steady, k.hold ∘ h.hold, k.books.trans (h.books ▸ rfl), k.settings.trans h.settings⟩

theorem cancels_setMagazine (p q : PrinterId) (m : Magazine) (s : State) : Cancels p s (setMagazine q m s) := by
  have steady : Steady s (setMagazine q m s) := (Steady.refl s).setMagazine
  obtain ⟨marks, e⟩ := setMagazine_eq q m s
  rw [e] at steady ⊢
  exact ⟨steady, id, rfl, rfl⟩

theorem cancels_recomputeOf (p q : PrinterId) (s : State) : Cancels p s (recomputeOf q s) := by
  have steady : Steady s (recomputeOf q s) := (Steady.refl s).recomputeOf
  obtain ⟨kinds, marks, e⟩ := recomputeOf_eq q s
  rw [e] at steady ⊢
  exact ⟨steady, id, rfl, rfl⟩

theorem cancels_moveNote (p q : PrinterId) (serial : Nat) (s : State) : Cancels p s (moveNote q serial s) := by
  unfold moveNote
  dsimp only
  split
  · exact .refl p s
  · next n rest _ =>
    have moved := cancels_setMagazine p q { s.magazines[q] with notes := { n with serial := serial } :: rest } s
    split
    · exact moved.trans ⟨(Steady.refl _).modJob, id, rfl, rfl⟩
    · exact moved

theorem sendBack_hold {reason : Nat} (none : s.printers[p].hold = none) :
    (sendBack order q reason i s).printers[p].hold = .none := by
  unfold sendBack
  split
  · exact none
  · split
    · refine (congrArg (fun v : Vector Printer 16 => v[p].hold) (setQueue_frame ..).2.1).trans ?_
      refine (congrArg Printer.hold (upd_get s.printers q p fun x =>
        { x with outstanding := x.outstanding.filter (· != i) })).trans ?_
      split <;> exact none
    · exact finishJob_hold none

theorem cancels_sendBack (p q : PrinterId) (reason : Nat) (i : JobIx) (s : State) :
    Cancels p s (sendBack order q reason i s) := by
  have same := books_sendBack order q reason i s
  refine ⟨(Steady.refl s).sendBack, sendBack_hold, ?_, congrArg Still.settings (sendBack_still order q reason i s)⟩
  rw [same, show (sendBack order q reason i s).magazines = s.magazines from congrArg Books.magazines same]
  rfl

theorem cancels_takeCancelled (p q : PrinterId) (i : JobIx) (s : State) : Cancels p s (takeCancelled order q i s) := by
  unfold takeCancelled
  dsimp only
  have dropped := cancels_setMagazine p q (dropNote (tokenOf s i) s.magazines[q]) s
  split
  · exact ((dropped.trans (cancels_moveNote ..)).trans (cancels_recomputeOf ..)).trans (cancels_sendBack ..)
  · exact (dropped.trans (cancels_recomputeOf ..)).trans (cancels_sendBack ..)

theorem impliedCancel_cancels (order : List JobIx) (p : PrinterId) (waiting : Nat) (s : State) :
    Cancels p s (impliedCancel order p waiting s) := by
  unfold impliedCancel
  split
  · exact forEach_holds (Cancels p s) _ _ (fun i u h => h.trans (cancels_takeCancelled ..)) s (.refl p s)
  · exact .refl p s

/-! ### A printer that stands faulted -/

theorem isSelected_congr (h : t.lines[lineOfPrinter p].roll = s.lines[lineOfPrinter p].roll) : isSelected t p = isSelected s p := by
  unfold isSelected
  rw [h]

theorem FaultRaised.stands (h : FaultRaised p f s t) (unselected : isSelected t p = false) : StandsFaulted p f s t :=
  ⟨congrArg Printer.state h.printer, ⟨_, _, congrArg Printer.fault h.printer⟩, congrArg Printer.notReady h.printer, h.hold,
    congrArg LineRecord.clearRequest h.record, h.mark, unselected, fun l => (h.calm l).2⟩

theorem raiseFault_stands (serving : s.printers[p].serving) (clears : f.cause.requestsClear = true) (own : f.own = false)
    (order : List JobIx) : StandsFaulted p f s (raiseFault order p f s) :=
  (raiseFault_raised serving clears order).stands (raiseFault_unselected serving clears own order)

/-- A further fault (R126). -/
theorem raiseFault_further (faulted : s.printers[p].state = .faulted) (clears : f.cause.requestsClear = true) :
    raiseFault order p f s = clearRequested p (markPrinter p true (modPrinter p (fun x => { x with
      fault := furtherFault f x.fault, notReady := none }) s)) := by
  unfold raiseFault
  rw [faulted]
  exact causeEffects_clear clears ..

/-- Later work that leaves the printer's standing, its hold, its mark and its selection. -/
theorem StandsFaulted.keeps (h : StandsFaulted p f s t) (state : u.printers[p].state = t.printers[p].state)
    (fault : u.printers[p].fault = t.printers[p].fault) (unmarked : u.printers[p].notReady = t.printers[p].notReady)
    (hold : t.printers[p].hold = none → u.printers[p].hold = none)
    (clears : u.lineRecords[p].clearRequest = t.lineRecords[p].clearRequest)
    (mark : t.port.printerMarks[p] = .withCause → u.port.printerMarks[p] = .withCause)
    (rolls : ∀ l : LineId, u.lines[l].roll = t.lines[l].roll) : StandsFaulted p f s u :=
  ⟨state.trans h.state, fault ▸ h.fault, unmarked.trans h.unmarked, hold ∘ h.hold, clears.trans h.clears, mark h.mark,
    (isSelected_congr (rolls _)).trans h.unselected, fun l => (congrArg RollCall.phase (rolls l)).trans (h.phases l)⟩

theorem StandsFaulted.cancels (h : StandsFaulted p f s t) (k : Cancels p t u) : StandsFaulted p f s u :=
  h.keeps (congrArg Printer.state (k.steady.printers p) : _) (congrArg Printer.fault (k.steady.printers p) : _)
    (congrArg Printer.notReady (k.steady.printers p) : _) k.hold (k.steady.clearRequest p) (k.steady.marks p)
    fun l => by rw [k.steady.lines]

theorem StandsFaulted.flagsNoted (h : StandsFaulted p f s t) (flags : BitVec 5) :
    StandsFaulted p f s (Machine.flagsNoted p flags t) := by
  have printer := flagsNoted_printer p flags t
  refine h.keeps ?_ ?_ ?_ ?_ rfl id fun _ => rfl
  · rw [printer]
  · rw [printer]
  · rw [printer]
  · rw [printer]
    exact id

theorem acknowledged_record (p : PrinterId) (token : Byte) (s : State) : (acknowledged p token s).lineRecords[p] =
    { s.lineRecords[p] with ackToken := token, reported := [token] } := upd_get_self ..

theorem StandsFaulted.acknowledged {token : Byte} (h : StandsFaulted p f s t) :
    StandsFaulted p f s (Machine.acknowledged p token t) :=
  h.keeps rfl rfl rfl id (by rw [acknowledged_record]) id fun _ => rfl

theorem statusOver_rolls (l k : LineId) (s t : State) : (statusOver l s t).lines[k].roll = t.lines[k].roll := by
  refine (congrArg Line.roll (put_get t.lines l k (lineFreed t.lines[l]))).trans ?_
  split
  · next e =>
    subst e
    rfl
  · rfl

theorem StandsFaulted.over (h : StandsFaulted p f s t) : StandsFaulted p f s (statusOver l u t) :=
  h.keeps rfl rfl rfl id rfl id fun k => statusOver_rolls l k u t

theorem StandsFaulted.raiseFault (h : StandsFaulted p f s t) (clears : g.cause.requestsClear = true) :
    StandsFaulted p f s (Machine.raiseFault order p g t) := by
  have printer : (Machine.raiseFault order p g t).printers[p] =
      { t.printers[p] with fault := furtherFault g t.printers[p].fault, notReady := none } := by
    rw [raiseFault_further h.state clears]
    exact upd_get_self t.printers p fun x => { x with fault := furtherFault g x.fault, notReady := none }
  obtain ⟨latest, further, fault⟩ := h.fault
  refine ⟨?_, ⟨some g.cause, satAdd 255 further 1, ?_⟩, ?_, fun ready => ?_, ?_, ?_, ?_, ?_⟩
  · rw [printer]
    exact h.state
  · rw [printer, fault]
    rfl
  · rw [printer]
  · rw [printer]
    exact h.hold ready
  · rw [raiseFault_further h.state clears]
    exact congrArg LineRecord.clearRequest (upd_get_self t.lineRecords p fun r => { r with clearRequest := true })
  · rw [raiseFault_further h.state clears]
    refine (markPrinter_marks p p true _).trans ((if_pos rfl).trans ?_)
    exact (markSet_spec _ _).2.mpr (.inr rfl)
  · rw [raiseFault_further h.state clears]
    exact h.unselected
  · rw [raiseFault_further h.state clears]
    exact h.phases

theorem StandsFaulted.opened (h : StandsFaulted p f s t) : t.printers[p].fault.state = .opened := by
  obtain ⟨_, _, fault⟩ := h.fault
  rw [fault]
  rfl

theorem judgeNotReady_unmarked {flags : BitVec 5} (unmarked : s.printers[p].notReady = none) :
    judgeNotReady order p flags s = s := by
  unfold judgeNotReady
  rw [unmarked]

/-- After its mark is judged a printer that stands faulted has only the implied cancel before it. -/
theorem StandsFaulted.judged (h : StandsFaulted p f s t) (order : List JobIx) (waiting : Nat) (flags : BitVec 5) :
    judgeRecovery order p flags (answerClear p .poll (impliedCancel order p waiting t)) = impliedCancel order p waiting t :=
  judgeRecovery_unacknowledged (.inr (h.cancels (impliedCancel_cancels order p waiting t)).opened)

end

end Sys2Proof.Machine
end
section
/-! PROOF. What the flags of a STATUS, the not-ready mark and the acknowledgement do to a printer (R121, R122, R126, R129). -/

namespace Sys2Proof.Machine

/-- The fault a flag raises (Table 7-3). -/
def flagInfo (s : State) (p : PrinterId) (f : BitVec 5) (c : FaultCause) : FaultInfo :=
  let who := if c = .stockMismatch then (none, some s.magazines[p].next) else oldestInFlight s p
  { cause := c, flags := some f, token := who.1, serial := who.2, own := false }

/-- The fault of a not-ready mark (R122). -/
def markInfo (s : State) (f : BitVec 5) (token : Byte) : FaultInfo :=
  { cause := .jam, flags := some f, token := some token, serial := (jobOfToken s token).bind (serialOf s), own := false }

/-- A flag shown that counts: in FAULTED only a flag not shown before (R121). -/
def flagNews (s : State) (p : PrinterId) (f : BitVec 5) (n : Nat) : Bool :=
  f.getLsbD n && (s.printers[p].state != .faulted || !s.printers[p].lastFlags.getLsbD n)

section
variable {s t u v : State} {l : LineId} {x : Exchange} {p : PrinterId} {f : BitVec 5} {g : FaultInfo} {order : List JobIx}
  {flags waiting token : Byte} {c : FaultCause} {cs : List FaultCause} {entries : List OutcomeEntry}

/-! ### The exchange of a printer that is faulted -/

theorem exec_status_stands (good : GoodStatus s l x waiting entries) (poll : x.command = .poll)
    (entered : noteReported x.printer entries (forEach entries (handleEntry s.printers[x.printer].outstanding x.printer
      (conditionFlags flags) s.lineRecords[x.printer].reported) (replyTaken x.printer s)) = u)
    (judged : judgeNotReady s.printers[x.printer].outstanding x.printer (conditionFlags flags)
      (judgeConditionFlags s.printers[x.printer].outstanding x.printer (conditionFlags flags) u) = v)
    (stands : StandsFaulted x.printer g s v) :
    let w := impliedCancel s.printers[x.printer].outstanding x.printer waiting.toNat v
    exec (.status l (BitVec.ofNat 8 (x.printer.val % 8 + 1)) flags waiting entries) s = .next (statusOver l s w) ∧
      StandsFaulted x.printer g s w ∧ Cancels x.printer v w := by
  intro w
  have cancels : Cancels x.printer v w := impliedCancel_cancels ..
  have after := stands.cancels cancels
  refine ⟨exec_status good ?_ ?_, after, cancels⟩
  · rw [takeStatus_eq, replyTaken_record, show (replyTaken x.printer s).printers = s.printers from rfl, entered, statusTail,
      judged, poll]
    exact stands.judged _ _ _
  · rw [after.phases]
    exact good.awaits.2.2.2.2

theorem StandsFaulted.shown (h : StandsFaulted p g s t) (flags : g.flags = some f) :
    t.printers[p].state = .faulted ∧ t.printers[p].fault.state = .opened ∧ t.printers[p].fault.first = some g.cause ∧
      t.printers[p].fault.flags = f ∧ t.printers[p].fault.clock = s.settings.clock ∧ t.printers[p].fault.token = g.token ∧
      t.printers[p].fault.serial = g.serial ∧ t.printers[p].notReady = none ∧
      (s.printers[p].state = .ready → t.printers[p].hold = none) ∧ t.lineRecords[p].clearRequest = true ∧
      t.port.printerMarks[p] = .withCause ∧ isSelected t p = false := by
  obtain ⟨latest, further, fault⟩ := h.fault
  rw [fault]
  unfold firstFault
  rw [flags]
  exact ⟨h.state, rfl, rfl, rfl, rfl, rfl, rfl, h.unmarked, h.hold, h.clears, h.mark, h.unselected⟩

/-- The same, counted from before the reply was noted. -/
theorem StandsFaulted.before (h : StandsFaulted p g (replyTaken p s) t) : StandsFaulted p g s t :=
  ⟨h.state, h.fault, h.unmarked, h.hold, h.clears, h.mark, h.unselected, h.phases⟩

/-! ### Flags (R121) -/

theorem conditionFlags_bit (flags : Byte) {n : Nat} (h : n < 5) : (conditionFlags flags).getLsbD n = flags.getLsbD n := by
  simp [conditionFlags, h]

theorem flagCauses_clear : ∀ c ∈ flagCauses s p f, c.requestsClear = true := by
  unfold flagCauses
  dsimp only
  intro c hc
  simp only [List.mem_append] at hc
  obtain ((h | h) | h) | h := hc
  all_goals
    split at h
    · cases List.mem_singleton.mp h
      rfl
    · exact absurd h List.not_mem_nil

theorem flagCauses_eq (s : State) (p : PrinterId) (f : BitVec 5) : flagCauses s p f =
    (if flagNews s p f 1 then [.jam] else []) ++ (if flagNews s p f 2 then [.coverOpen] else []) ++
      (if flagNews s p f 3 then [.overheat] else []) ++
      (if flagNews s p f 4 && stockOutContradicts s p f then [.stockMismatch] else []) := rfl

/-- The causes of flags shown to a printer in service. -/
theorem flagCauses_serving (serving : s.printers[p].serving) : flagCauses s p f =
    (if flagJam f then [.jam] else []) ++ (if flagCoverOpen f then [.coverOpen] else []) ++
      (if flagOverheat f then [.overheat] else []) ++ (if stockOutContradicts s p f then [.stockMismatch] else []) := by
  have news (n : Nat) : flagNews s p f n = f.getLsbD n := by
    unfold flagNews
    obtain state | state | state := serving <;> rw [state] <;> exact Bool.and_true _
  have contradicts : (f.getLsbD 4 && stockOutContradicts s p f) = stockOutContradicts s p f := by
    unfold stockOutContradicts flagStockOut
    cases f.getLsbD 4 <;> rfl
  rw [flagCauses_eq, news, news, news, news, contradicts]
  rfl

/-- The error cause that comes first (R121). -/
theorem flagCauses_error (serving : s.printers[p].serving) (error : anyErrorFlag f = true) :
    ∃ rest, flagCauses s p f =
      (if flagJam f then .jam else if flagCoverOpen f then .coverOpen else .overheat) :: rest := by
  rw [flagCauses_serving serving]
  unfold anyErrorFlag at error
  cases jam : flagJam f with
  | true => exact ⟨_, rfl⟩
  | false =>
    cases cover : flagCoverOpen f with
    | true => exact ⟨_, rfl⟩
    | false =>
      cases heat : flagOverheat f with
      | true => exact ⟨_, rfl⟩
      | false => simp [jam, cover, heat] at error

theorem flagCauses_stock (serving : s.printers[p].serving) (error : anyErrorFlag f = false) (out : flagStockOut f = true)
    (loaded : s.magazines[p].loaded = true) (left : s.magazines[p].next ≤ s.magazines[p].last) :
    flagCauses s p f = [.stockMismatch] := by
  have blanks : 0 < remaining s.magazines[p] := by
    unfold remaining
    rw [if_pos loaded]
    omega
  have contradicts : stockOutContradicts s p f = true := by
    unfold stockOutContradicts
    rw [out, loaded, decide_eq_true blanks]
    rfl
  simp only [anyErrorFlag, Bool.or_eq_false_iff] at error
  obtain ⟨⟨jam, cover⟩, heat⟩ := error
  rw [flagCauses_serving serving, jam, cover, heat, contradicts]
  rfl

/-- Flags that a FAULTED printer has shown before raise nothing. -/
theorem flagCauses_known (faulted : s.printers[p].state = .faulted)
    (known : ∀ b : Fin 5, 1 ≤ b.val → f.getLsbD b.val = true → s.printers[p].lastFlags.getLsbD b.val = true) :
    flagCauses s p f = [] := by
  have none (n : Nat) (low : 1 ≤ n) (high : n < 5) : flagNews s p f n = false := by
    unfold flagNews
    rw [faulted]
    cases shown : f.getLsbD n with
    | false => rfl
    | true =>
      rw [known ⟨n, high⟩ low shown]
      rfl
  rw [flagCauses_eq, none 1 (by decide) (by decide), none 2 (by decide) (by decide), none 3 (by decide) (by decide),
    none 4 (by decide) (by decide)]
  rfl

/-- JAM newly shown by a FAULTED printer. -/
theorem flagCauses_newJam (fresh : s.printers[p].lastFlags.getLsbD 1 = false) : flagCauses s p 2#5 = [.jam] := by
  have news : flagNews s p 2#5 1 = true := by
    unfold flagNews
    rw [fresh]
    exact Bool.or_true _
  rw [flagCauses_eq, news]
  rfl

theorem flagCauses_replyTaken (p q : PrinterId) (f : BitVec 5) (s : State) :
    flagCauses (replyTaken p s) q f = flagCauses s q f := by
  unfold flagCauses stockOutContradicts
  rfl

theorem flagInfo_replyTaken (p q : PrinterId) (f : BitVec 5) (c : FaultCause) (s : State) :
    flagInfo (replyTaken p s) q f c = flagInfo s q f c := by
  unfold flagInfo oldestInFlight flightList serialOf tokenOf inFlight jobIs jobAt
  rfl

theorem forEach_flagFault_stands (h : StandsFaulted p g s t) (clears : ∀ c ∈ cs, c.requestsClear = true) :
    StandsFaulted p g s (forEach cs (flagFault order p f) t) := by
  induction cs generalizing t with
  | nil => exact h
  | cons c rest ih =>
    exact ih (h.raiseFault (clears c List.mem_cons_self)) fun d hd => clears d (List.mem_cons_of_mem c hd)

theorem judgeConditionFlags_stands (serving : s.printers[p].serving) (causes : flagCauses s p f = c :: cs) :
    StandsFaulted p (flagInfo s p f c) s (judgeConditionFlags order p f s) := by
  have clears : ∀ d ∈ c :: cs, d.requestsClear = true := causes ▸ flagCauses_clear
  have first : StandsFaulted p (flagInfo s p f c) s (flagFault order p f c s) :=
    raiseFault_stands serving (clears c List.mem_cons_self) rfl order
  unfold judgeConditionFlags
  rw [causes]
  exact (forEach_flagFault_stands first fun d hd => clears d (List.mem_cons_of_mem c hd)).flagsNoted f

theorem Steady.lastFlags (h : Steady s t) (q : PrinterId) : t.printers[q].lastFlags = s.printers[q].lastFlags :=
  show t.printers[q].standing.lastFlags = s.printers[q].standing.lastFlags from congrArg _ (h.printers q)

theorem judgeConditionFlags_replied (serving : s.printers[p].serving) (causes : flagCauses s p f = c :: cs) :
    StandsFaulted p (flagInfo s p f c) s (judgeConditionFlags order p f (replyTaken p s)) := by
  rw [← flagInfo_replyTaken p]
  exact (judgeConditionFlags_stands (s := replyTaken p s) serving ((flagCauses_replyTaken ..).trans causes)).before

theorem judgeConditionFlags_lastFlags (order : List JobIx) (p : PrinterId) (f : BitVec 5) (s : State) :
    (judgeConditionFlags order p f s).printers[p].lastFlags = f := by
  unfold judgeConditionFlags
  rw [modPrinter_printers, upd_get_self]

/-- Flags that raise a fault of a printer in service. -/
theorem exec_status_flags (h : awaiting s l x) (poll : x.command = .poll) (few : waiting.toNat ≤ 2)
    (serving : s.printers[x.printer].serving) (causes : flagCauses s x.printer (conditionFlags flags) = c :: cs) :
    ∃ t, exec (.status l (BitVec.ofNat 8 (x.printer.val % 8 + 1)) flags waiting []) s = .next t ∧
      StandsFaulted x.printer (flagInfo s x.printer (conditionFlags flags) c) s t ∧
      t.printers[x.printer].lastFlags = conditionFlags flags := by
  have stands := judgeConditionFlags_replied (order := s.printers[x.printer].outstanding) serving causes
  obtain ⟨next, after, cancels⟩ := exec_status_stands (u := replyTaken x.printer s) (flags := flags) (waiting := waiting)
    ⟨h, .inl poll, few, Nat.zero_le _, noEntry_inRange⟩ poll rfl (judgeNotReady_unmarked stands.unmarked) stands
  generalize impliedCancel s.printers[x.printer].outstanding x.printer waiting.toNat _ = w at *
  exact ⟨_, next, after.over, (cancels.steady.lastFlags x.printer).trans (judgeConditionFlags_lastFlags ..)⟩

/-! ### A further flag of a FAULTED printer (R121, R126) -/

theorem exec_status_newJam (h : awaiting s l x) (poll : x.command = .poll) (some_ : 1 ≤ waiting.toNat)
    (few : waiting.toNat ≤ 2) (faulted : s.printers[x.printer].state = .faulted)
    (opened : s.printers[x.printer].fault.state = .opened)
    (fresh : s.printers[x.printer].lastFlags.getLsbD 1 = false) :
    ∃ t, exec (.status l (BitVec.ofNat 8 (x.printer.val % 8 + 1)) 2#8 waiting []) s = .next t ∧
      t.printers[x.printer].fault = { s.printers[x.printer].fault with
        latest := some .jam, further := min 255 (s.printers[x.printer].fault.further + 1) } ∧
      t.lineRecords[x.printer].clearRequest = true ∧ t.port.printerMarks[x.printer] = .withCause := by
  let p := x.printer
  let order := s.printers[p].outstanding
  let g := flagInfo (replyTaken p s) p 2#5 .jam
  let v := raiseFault order p g (replyTaken p s)
  have raised : v = clearRequested p (markPrinter p true (modPrinter p (fun x => { x with
      fault := furtherFault g x.fault, notReady := none }) (replyTaken p s))) := raiseFault_further faulted rfl
  have printer : v.printers[p] =
      { s.printers[p] with fault := furtherFault g s.printers[p].fault, notReady := none } := by
    rw [raised]
    exact upd_get_self s.printers p fun x => { x with fault := furtherFault g x.fault, notReady := none }
  have causes : flagCauses (replyTaken p s) p 2#5 = [.jam] :=
    (flagCauses_replyTaken ..).trans (flagCauses_newJam fresh)
  have flags : judgeConditionFlags order p 2#5 (replyTaken p s) = flagsNoted p 2#5 v := by
    unfold judgeConditionFlags
    rw [causes]
    rfl
  have unmoved : Unmoved p waiting.toNat v := by
    refine ⟨?_, .inr (.inl (Nat.pos_iff_ne_zero.mp some_)), .inr ?_⟩
    · rw [printer]
    · rw [printer]
      rfl
  have effect : takeStatus p x.command 2#8 waiting.toNat [] (replyTaken p s) = flagsNoted p 2#5 v := by
    refine (congrArg (fun w => judgeRecovery order p 2#5 (answerClear p x.command (impliedCancel order p waiting.toNat
      (judgeNotReady order p 2#5 w)))) flags).trans ((unmoved.flagsNoted 2#5).judged ..) |>.trans ?_
    rw [poll]
    rfl
  have calm : (flagsNoted p 2#5 v).lines = s.lines := by
    rw [raised]
    rfl
  refine ⟨_, exec_status ⟨h, .inl poll, few, Nat.zero_le _, noEntry_inRange⟩ effect (by rw [calm]; exact h.2.2.2.2), ?_, ?_, ?_⟩
  · refine (congrArg Printer.fault (flagsNoted_printer p 2#5 v)).trans ((congrArg Printer.fault printer).trans ?_)
    unfold furtherFault satAdd
    rw [← opened]
    rfl
  · refine (congrArg (fun w : State => w.lineRecords[p].clearRequest) raised).trans ?_
    exact congrArg LineRecord.clearRequest (upd_get_self (replyTaken p s).lineRecords p fun r => { r with clearRequest := true })
  · refine (congrArg (fun w : State => w.port.printerMarks[p]) raised).trans ?_
    refine (markPrinter_marks p p true _).trans ((if_pos rfl).trans ?_)
    exact (markSet_spec _ _).2.mpr (.inr rfl)

/-! ### The not-ready mark (R122) -/

/-- The last flags do not count in a fault that names its own. -/
theorem StandsFaulted.unnoted (h : StandsFaulted p g (Machine.flagsNoted p f s) t) (own : g.flags.isSome = true) :
    StandsFaulted p g s t := by
  have printer := flagsNoted_printer p f s
  obtain ⟨latest, further, fault⟩ := h.fault
  refine ⟨h.state, ⟨latest, further, fault.trans ?_⟩, h.unmarked, fun ready => h.hold ?_, h.clears, h.mark, h.unselected,
    h.phases⟩
  · obtain ⟨flags, own⟩ := Option.isSome_iff_exists.mp own
    unfold firstFault
    rw [own]
    rfl
  · rw [printer]
    exact ready

theorem markInfo_flagsNoted (p q : PrinterId) (f : BitVec 5) (token : Byte) (s : State) :
    markInfo (flagsNoted q f (replyTaken p s)) f token = markInfo s f token := by
  unfold markInfo serialOf jobOfToken jobAt
  rfl

theorem judgeNotReady_marked (marked : s.printers[p].notReady = some token) : judgeNotReady order p f s =
    modPrinter p (fun x => { x with notReady := none }) (raiseFault order p (markInfo s f token) s) := by
  unfold judgeNotReady
  rw [marked] <;> rfl

theorem exec_status_mark (h : awaiting s l x) (poll : x.command = .poll) (few : waiting.toNat ≤ 2)
    (serving : s.printers[x.printer].serving) (marked : s.printers[x.printer].notReady = some token) :
    ∃ t, exec (.status l (BitVec.ofNat 8 (x.printer.val % 8 + 1)) 1#8 waiting []) s = .next t ∧
      StandsFaulted x.printer (markInfo s 1#5 token) s t ∧ t.printers[x.printer].lastFlags = 1#5 := by
  let p := x.printer
  let order := s.printers[p].outstanding
  let w := flagsNoted p 1#5 (replyTaken p s)
  have printer : w.printers[p] = { s.printers[p] with lastFlags := 1#5 } := flagsNoted_printer p 1#5 (replyTaken p s)
  have serves : w.printers[p].serving := by
    rw [printer]
    exact serving
  have flags : judgeConditionFlags order p 1#5 (replyTaken p s) = w := by
    unfold judgeConditionFlags
    rw [flagCauses_clean]
    rfl
  have info := markInfo_flagsNoted p p 1#5 token s
  have raised := raiseFault_raised (f := markInfo w 1#5 token) serves rfl order
  have stands := raiseFault_stands (f := markInfo w 1#5 token) serves rfl rfl order
  let v := modPrinter p (fun x => { x with notReady := none }) (raiseFault order p (markInfo w 1#5 token) w)
  have cleared : v.printers[p] =
      { (raiseFault order p (markInfo w 1#5 token) w).printers[p] with notReady := none } := upd_get_self ..
  have judged : judgeNotReady order p 1#5 (judgeConditionFlags order p 1#5 (replyTaken p s)) = v := by
    have marks : w.printers[p].notReady = some token := by
      rw [printer]
      exact marked
    rw [flags, judgeNotReady_marked marks]
  have after : StandsFaulted p (markInfo s 1#5 token) s v := by
    rw [← info]
    refine StandsFaulted.before (StandsFaulted.unnoted (f := 1#5) (stands.keeps ?_ ?_ ?_ ?_ rfl id fun _ => rfl) rfl) <;>
      rw [cleared]
    · exact stands.unmarked.symm
    · exact id
  obtain ⟨next, ended, cancels⟩ := exec_status_stands (u := replyTaken p s) (flags := 1#8) (waiting := waiting)
    ⟨h, .inl poll, few, Nat.zero_le _, noEntry_inRange⟩ poll rfl judged after
  have last : v.printers[p].lastFlags = 1#5 := by
    rw [cleared]
    exact (congrArg Printer.lastFlags raised.printer : _).trans (congrArg Printer.lastFlags printer)
  exact ⟨_, next, ended.over, (cancels.steady.lastFlags p).trans last⟩

/-! ### Recovery (R129) -/

theorem rollRequest_selects (p : PrinterId) (s : State) :
    isSelected (rollRequest (lineOfPrinter p) (addressBit (addressIx p)) s) p = true := by
  have one : (addressBit (addressIx p)).getLsbD (addressIx p).val = true := by
    rw [addressBit_getLsbD]
    exact decide_eq_true rfl
  have joined (m : BitVec 8) : (m ||| addressBit (addressIx p)).getLsbD (addressIx p).val = true := by
    rw [BitVec.getLsbD_or, one, Bool.or_true]
  have line : (rollRequest (lineOfPrinter p) (addressBit (addressIx p)) s).lines[lineOfPrinter p] = _ := upd_get_self ..
  unfold isSelected
  dsimp only
  rw [line]
  unfold inMask
  split
  · dsimp only
    rw [one]
    rfl
  · dsimp only
    rw [joined]
    rfl
  all_goals
    dsimp only
    rw [joined, Bool.or_true]
    rfl

theorem rollRequest_phase (l k : LineId) (mask : BitVec 8) (calm : s.lines[k].roll.phase ≠ .round) :
    (rollRequest l mask s).lines[k].roll.phase ≠ .round := by
  have line : (rollRequest l mask s).lines[k] = _ := upd_get ..
  rw [line]
  split
  · next e =>
    subst e
    split
    · nofun
    · next waiting => exact fun round => nomatch waiting.symm.trans round
    · next round => exact absurd round calm
    · next between => exact fun round => nomatch between.symm.trans round
  · exact calm

theorem judgeRecovery_recovers (faulted : s.printers[p].state = .faulted)
    (acknowledged : s.printers[p].fault.state = .acknowledged) (order : List JobIx) :
    judgeRecovery order p 1#5 s = rollRequest (lineOfPrinter p) (addressBit (addressIx p)) (enterState order p .recovering s) :=
  if_pos ⟨faulted, acknowledged, rfl, rfl, rfl⟩

/-- What a return to RECOVERING leaves of a FAULTED printer. -/
theorem enterState_recovering (faulted : s.printers[p].state = .faulted) (order : List JobIx) :
    let t := enterState order p .recovering s
    t.printers[p] = { s.printers[p] with state := .recovering } ∧ t.port.printerMarks[p] ≠ .clear ∧ t.lines = s.lines := by
  obtain ⟨kinds, marks, e⟩ := recomputeOf_eq p (stateWritten p .recovering s)
  intro t
  have entered : t = _ := (enterState_stays order (.inl (by rw [faulted]; nofun))).trans e
  rw [entered]
  refine ⟨upd_get_self s.printers p _, ?_, rfl⟩
  rw [show (stateWritten p .recovering s).port.printerMarks[p] = _ from markPrinter_marks p p false _, if_pos rfl]
  exact (markSet_spec _ _).1

/-- A printer that a STATUS has returned to RECOVERING. -/
structure Recovers (p : PrinterId) (s t : State) : Prop where
  state : t.printers[p].state = .recovering
  fault : t.printers[p].fault = s.printers[p].fault
  selected : isSelected t p = true
  lastFlags : t.printers[p].lastFlags = 1#5
  mark : t.port.printerMarks[p] ≠ .clear
  phases : ∀ l : LineId, s.lines[l].roll.phase ≠ .round → t.lines[l].roll.phase ≠ .round

theorem statusTail_recovers (faulted : s.printers[p].state = .faulted)
    (acknowledged : s.printers[p].fault.state = .acknowledged) (unmarked : s.printers[p].notReady = none)
    (order : List JobIx) (n : Nat) : Recovers p s (statusTail order p .poll 1#5 n s) := by
  have printer := flagsNoted_printer p 1#5 s
  have flags : judgeNotReady order p 1#5 (judgeConditionFlags order p 1#5 s) = flagsNoted p 1#5 s := by
    have judged : judgeConditionFlags order p 1#5 s = flagsNoted p 1#5 s := by
      unfold judgeConditionFlags
      rw [flagCauses_clean]
      rfl
    rw [judged, judgeNotReady_unmarked]
    rw [printer]
    exact unmarked
  have cancels := impliedCancel_cancels order p n (flagsNoted p 1#5 s)
  have lines : (flagsNoted p 1#5 s).lines = s.lines := rfl
  unfold statusTail
  rw [flags]
  generalize flagsNoted p 1#5 s = noted at *
  generalize impliedCancel order p n noted = w at *
  have state : w.printers[p].state = .faulted := (cancels.steady.state p).trans (by rw [printer]; exact faulted)
  have fault : w.printers[p].fault = s.printers[p].fault := (cancels.steady.fault p).trans (by rw [printer])
  have last : w.printers[p].lastFlags = 1#5 := (cancels.steady.lastFlags p).trans (by rw [printer])
  obtain ⟨entered, mark, same⟩ := enterState_recovering state order
  rw [show answerClear p .poll w = w from rfl, judgeRecovery_recovers state (by rw [fault]; exact acknowledged)]
  refine ⟨congrArg Printer.state entered, (congrArg Printer.fault entered).trans fault, rollRequest_selects ..,
    (congrArg Printer.lastFlags entered).trans last, mark, fun l calm => rollRequest_phase _ _ _ ?_⟩
  rw [same, cancels.steady.lines, lines]
  exact calm

theorem exec_status_recovery (h : awaiting s l x) (poll : x.command = .poll) (few : waiting.toNat ≤ 2)
    (faulted : s.printers[x.printer].state = .faulted) (acknowledged : s.printers[x.printer].fault.state = .acknowledged)
    (unmarked : s.printers[x.printer].notReady = none) :
    ∃ t, exec (.status l (BitVec.ofNat 8 (x.printer.val % 8 + 1)) 1#8 waiting []) s = .next t ∧
      t.printers[x.printer].state = .recovering ∧ t.printers[x.printer].fault = s.printers[x.printer].fault ∧
      isSelected t x.printer = true ∧ t.printers[x.printer].lastFlags = 1#5 ∧ t.port.printerMarks[x.printer] ≠ .clear := by
  have recovers := statusTail_recovers (s := replyTaken x.printer s) faulted acknowledged unmarked
    s.printers[x.printer].outstanding waiting.toNat
  have effect : takeStatus x.printer x.command 1#8 waiting.toNat [] (replyTaken x.printer s) =
      statusTail s.printers[x.printer].outstanding x.printer .poll 1#5 waiting.toNat (replyTaken x.printer s) := by
    rw [poll]
    rfl
  generalize statusTail s.printers[x.printer].outstanding x.printer .poll 1#5 waiting.toNat (replyTaken x.printer s) = t at *
  refine ⟨_, exec_status ⟨h, .inl poll, few, Nat.zero_le _, noEntry_inRange⟩ effect (recovers.phases l h.2.2.2.2),
    recovers.state, recovers.fault, ?_, recovers.lastFlags, recovers.mark⟩
  exact (isSelected_congr (statusOver_rolls ..)).trans recovers.selected

end

end Sys2Proof.Machine
end
section
/-! SUPPORT. The entry of a STATUS that is taken for a job (R106, R123): how its exchange ends, by what the outcome makes of the
printer. -/

namespace Sys2Proof.Machine

/-- An entry is acknowledged, and its line free (R105). -/
structure Acknowledges (l : LineId) (p : PrinterId) (token : Byte) (t : State) : Prop where
  ackToken : t.lineRecords[p].ackToken = token
  reported : t.lineRecords[p].reported = [token]
  free : t.lines[l].activity = .free

/-- The state a STATUS of one entry leaves, of a printer that its flags do not move. -/
def entryOver (l : LineId) (p : PrinterId) (token : Byte) (s v : State) : State :=
  statusOver l s (flagsNoted p 1#5 (acknowledged p token v))

section
variable {s t u v w : State} {l : LineId} {x : Exchange} {p : PrinterId} {g : FaultInfo} {order : List JobIx} {f : BitVec 5}
  {waiting token : Byte} {e : OutcomeEntry} {i : JobIx} {j : Job} {n : Nat}

/-! ### The line record and the line -/

theorem acknowledges_over (records : w.lineRecords[p].standing = (acknowledged p token v).lineRecords[p].standing) :
    Acknowledges l p token (statusOver l s w) := by
  rw [acknowledged_record] at records
  exact ⟨(congrArg LineRecord.ackToken records : _), (congrArg LineRecord.reported records : _),
    congrArg Line.activity (put_get_self w.lines l (lineFreed w.lines[l]))⟩

theorem entryOver_acknowledges (l : LineId) (p : PrinterId) (token : Byte) (s v : State) :
    Acknowledges l p token (entryOver l p token s v) := acknowledges_over (v := v) rfl

theorem entryOver_printer (l : LineId) (p : PrinterId) (token : Byte) (s v : State) :
    (entryOver l p token s v).printers[p] = { v.printers[p] with lastFlags := 1#5 } :=
  flagsNoted_printer p 1#5 (acknowledged p token v)

/-! ### The entry is read -/

theorem outcomeJob_inFlightAs (flight : inFlightAs s p token i j) : outcomeJob s p token = some i := by
  obtain ⟨-, -, named, listed, job, state, -⟩ := flight
  have flying : inFlight s i = true := by
    rw [inFlight_eq, job]
    exact j.flying_iff.mpr state
  unfold outcomeJob
  rw [named]
  exact if_pos (Bool.and_eq_true_iff.mpr ⟨List.contains_iff_mem.mpr listed, flying⟩)

/-- The entry of a job in flight does what its outcome says, and is acknowledged. -/
theorem entry_taken (flight : inFlightAs s p e.token i j)
    (effect : takeOutcome order p f e i j (replyTaken p s) = v) :
    noteReported p [e] (forEach [e] (handleEntry order p f s.lineRecords[p].reported) (replyTaken p s)) =
      acknowledged p e.token v := by
  have named := (outcomeJob_replyTaken p p e.token s).trans (outcomeJob_inFlightAs flight)
  obtain ⟨-, fresh, -, -, job, -, -⟩ := flight
  have job' : jobAt (replyTaken p s) i = some j := job
  have handled : handleEntry order p f s.lineRecords[p].reported e (replyTaken p s) =
      modLineRecord p (fun r => { r with ackToken := e.token }) v := by
    unfold handleEntry
    rw [if_neg (mt List.contains_iff_mem.mp fresh), named]
    dsimp only
    rw [job']
    dsimp only
    rw [effect]
  exact (congrArg (noteReported p [e]) handled).trans (noteReported_acknowledged ..)

theorem single_inRange (inRange : entryInRange e = true) : ∀ y ∈ [e], entryInRange y = true :=
  fun _ hy => List.mem_singleton.mp hy ▸ inRange

theorem Unmoved.acknowledged (h : Unmoved p n v) (token : Byte) : Unmoved p n (Machine.acknowledged p token v) :=
  ⟨h.unmarked, h.still, h.unacknowledged⟩

/-- An outcome that leaves the printer with no news in clean flags. -/
theorem exec_status_entry (h : awaiting s l x) (poll : x.command = .poll) (few : waiting.toNat ≤ 2)
    (flight : inFlightAs s x.printer e.token i j) (inRange : entryInRange e = true)
    (effect : takeOutcome s.printers[x.printer].outstanding x.printer 1#5 e i j (replyTaken x.printer s) = v)
    (unmoved : Unmoved x.printer waiting.toNat v) (lines : v.lines = s.lines) :
    exec (.status l (BitVec.ofNat 8 (x.printer.val % 8 + 1)) 1#8 waiting [e]) s =
      .next (entryOver l x.printer e.token s v) := by
  have entered := entry_taken flight effect
  refine (exec_status_unmoved (flags := 1#8) ⟨h, .inl poll, few, Nat.one_le_ofNat, single_inRange inRange⟩ entered
    (unmoved.acknowledged e.token) (flagCauses_clean ..) ?_).trans ?_
  · rw [show (acknowledged x.printer e.token v).lines = v.lines from rfl, lines]
  · rw [poll]
    rfl

/-- An outcome that faults the printer. -/
theorem exec_status_entry_stands (h : awaiting s l x) (poll : x.command = .poll) (few : waiting.toNat ≤ 2)
    (flight : inFlightAs s x.printer e.token i j) (inRange : entryInRange e = true)
    (effect : takeOutcome s.printers[x.printer].outstanding x.printer 1#5 e i j (replyTaken x.printer s) = v)
    (stands : StandsFaulted x.printer g s v) :
    ∃ w, exec (.status l (BitVec.ofNat 8 (x.printer.val % 8 + 1)) 1#8 waiting [e]) s = .next (statusOver l s w) ∧
      w = impliedCancel s.printers[x.printer].outstanding x.printer waiting.toNat
        (flagsNoted x.printer 1#5 (acknowledged x.printer e.token v)) ∧
      StandsFaulted x.printer g s (statusOver l s w) ∧ Acknowledges l x.printer e.token (statusOver l s w) := by
  have entered := entry_taken flight effect
  have noted := (stands.acknowledged (token := e.token)).flagsNoted 1#5
  have judged : judgeNotReady s.printers[x.printer].outstanding x.printer 1#5 (judgeConditionFlags
      s.printers[x.printer].outstanding x.printer 1#5 (acknowledged x.printer e.token v)) =
        flagsNoted x.printer 1#5 (acknowledged x.printer e.token v) := by
    have flags : judgeConditionFlags s.printers[x.printer].outstanding x.printer 1#5 (acknowledged x.printer e.token v) =
        flagsNoted x.printer 1#5 (acknowledged x.printer e.token v) := by
      unfold judgeConditionFlags
      rw [flagCauses_clean]
      rfl
    rw [flags, judgeNotReady_unmarked noted.unmarked]
  obtain ⟨next, after, cancels⟩ := exec_status_stands (flags := 1#8)
    ⟨h, .inl poll, few, Nat.one_le_ofNat, single_inRange inRange⟩ poll entered judged noted
  exact ⟨_, next, rfl, after.over, acknowledges_over (cancels.steady.records x.printer)⟩

end

end Sys2Proof.Machine
end
section
/-! SUPPORT. A printer's job that ends (R43) or comes back to its queue (R46), and the notes of a magazine around a cancelled one
(R135, R141). -/

namespace Sys2Proof.Machine

/-- A job of a printer's list come to a terminal result (R43). -/
structure JobEnded (p : PrinterId) (i : JobIx) (e : ReturnEntry) (s t : State) : Prop where
  gone : jobAt t i = none
  stack : i ∈ t.freeStack
  list : t.printers[p].outstanding = s.printers[p].outstanding.filter (· != i)
  entry : e ∈ t.port.returns
  steady : Steady s t
  hold : s.printers[p].hold = none → t.printers[p].hold = none

/-- The note that moves down when the first one is cancelled (R141). -/
def noteBehind (token : Byte) (m : Magazine) : Option Note :=
  if m.notes.head?.any fun n => n.token == token then (dropNote token m).notes.head? else none

/-- The provisional serial of a token's job written (R135). -/
def serialMoved (token : Byte) (serial : Nat) (s : State) : State :=
  match jobOfToken s token with
  | some k => modJob k (fun j => { j with serial := some serial }) s
  | none => s

/-- The notes of a magazine written (R135). -/
def notesWritten (p : PrinterId) (notes : List Note) (s : State) : State :=
  { s with magazines := put s.magazines p { s.magazines[p] with notes := notes } }

/-- A note one serial lower. -/
def Note.lowered (n : Note) : Note := { n with serial := n.serial - 1 }

/-- A cancelled job's note is removed, the one behind it moved (R141). -/
def cancelNoted (p : PrinterId) (i : JobIx) (s : State) : State :=
  let m := s.magazines[p]
  let wasFirst := m.notes.head?.any fun n => n.token == tokenOf s i
  let t := setMagazine p (dropNote (tokenOf s i) m) s
  let t := match wasFirst, t.magazines[p].notes with
    | true, n :: _ => moveNote p (n.serial - 1) t
    | _, _ => t
  recomputeOf p t

section
variable {s t u v w : State} {p : PrinterId} {order : List JobIx} {token : Byte} {i k : JobIx} {j : Job} {code : ResultCode}
  {reason serial : Nat} {wd : WindowId} {m : Magazine} {n : Note} {rest : List Note}

/-! ### Ends -/

theorem finishJob_ended (job : jobAt s i = some j) (own : j.printer = some p) (code : ResultCode) (reason : Nat) :
    JobEnded p i (entryNow s j.slip j.tag code (detailOf reason ||| clampedBit j.clamped) (jobResultBytes (tokenOf s i) j)) s
      (finishJob i code reason s) := by
  have view := jobView_finishJob i code reason s
  have place : (jobView s).place i = some j.place := by simp [jobView, job]
  have left : (jobView s).leave i j.place = (jobView s).setList p (((jobView s).lists p).filter (· != i)) := by
    unfold JobView.leave
    rw [show j.place.printer = some p from own]
  unfold JobView.finish at view
  rw [place] at view
  obtain ⟨gone, returned⟩ := finishJob_ends job code reason
  refine ⟨gone, ?_, ?_, returned.subset (List.mem_append_right _ List.mem_cons_self), (Steady.refl s).finishJob, finishJob_hold⟩
  · exact (congrArg (i ∈ JobView.freeStack ·) view).mpr List.mem_cons_self
  · refine (congrArg (JobView.lists · p) view).trans ?_
    dsimp only
    rw [left]
    exact Function.update_self ..

/-! ### Comings back -/

/-- A queue's new head is not aged (R47). -/
theorem setQueue_newHead (job : jobAt s i = some j) (fresh : i ∉ s.queues[wd]) : setQueue wd (i :: s.queues[wd]) s = { s with
    queues := put s.queues wd (i :: s.queues[wd])
    jobs := put s.jobs i { s.jobs[i] with job := some { j with aged := false } } } := by
  have other : s.queues[wd].head? ≠ some i := fun head => fresh (List.mem_of_head? head)
  have written : (s.jobs[i].job.map fun j => { j with aged := false }) = some { j with aged := false } := by
    rw [show s.jobs[i].job = some j from job]
    rfl
  refine (if_neg other).trans ?_
  exact congrArg (fun y => { s with
    queues := put s.queues wd (i :: s.queues[wd]), jobs := put s.jobs i { s.jobs[i] with job := y } }) written

theorem leavePrinter_eq (p : PrinterId) (i : JobIx) (s : State) : ∃ records marks, leavePrinter p i s = { s with
    printers := put s.printers p { s.printers[p] with outstanding := s.printers[p].outstanding.filter (· != i) }
    lineRecords := records
    port := { s.port with printerMarks := marks } } := ⟨_, _, rfl⟩

/-- The only job of a printer comes back to the head of its window's queue. -/
theorem requeue_alone (alone : s.printers[p].outstanding = [i]) (job : jobAt s i = some j) (fresh : i ∉ s.queues[wd]) :
    ∃ records marks, requeue [i] p wd i s = { s with
      queues := put s.queues wd (i :: s.queues[wd])
      jobs := put s.jobs i { s.jobs[i] with job := some (backInQueue j) }
      printers := put s.printers p { s.printers[p] with outstanding := [] }
      lineRecords := records
      port := { s.port with printerMarks := marks } } := by
  obtain ⟨records, marks, left⟩ := leavePrinter_eq p i s
  have none : s.printers[p].outstanding.filter (· != i) = [] := by
    rw [alone]
    simp
  rw [none] at left
  have written : (s.jobs[i].job.map fun j => { j with state := .queued, printer := .none, serial := .none, outcomeWait := false }) =
      some { j with state := .queued, printer := .none, serial := .none, outcomeWait := false } := by
    rw [show s.jobs[i].job = some j from job]
    rfl
  let v := modJob i (fun j => { j with state := .queued, printer := .none, serial := .none, outcomeWait := false })
    (leavePrinter p i s)
  have back : v = { s with
      jobs := put s.jobs i { s.jobs[i] with
        job := some { j with state := .queued, printer := .none, serial := .none, outcomeWait := false } }
      printers := put s.printers p { s.printers[p] with outstanding := [] }
      lineRecords := records
      port := { s.port with printerMarks := marks } } := by
    unfold v
    rw [left, ← written]
    rfl
  have record : v.jobs[i] = { s.jobs[i] with
      job := some { j with state := .queued, printer := .none, serial := .none, outcomeWait := false } } := by
    rw [back]
    exact put_get_self ..
  have queues : v.queues = s.queues := by rw [back]
  refine ⟨records, marks, ?_⟩
  have earlier : ([i].takeWhile (· != i)) = [] := by simp
  have front : requeue [i] p wd i s = setQueue wd (i :: v.queues[wd]) v := by
    unfold requeue joinFront
    rw [earlier]
    refine congrArg (fun q => setQueue wd q v) ?_
    cases v.queues[wd] <;> rfl
  rw [front, setQueue_newHead (congrArg JobRecord.job record) (queues ▸ fresh), record, queues, back]
  exact congrArg (fun y => { s with
    queues := put s.queues wd (i :: s.queues[wd])
    jobs := y
    printers := put s.printers p { s.printers[p] with outstanding := [] }
    lineRecords := records
    port := { s.port with printerMarks := marks } }) (put_put ..)

/-- In another printer's list no job is queued (R42). -/
theorem PlaceLaw.unqueued (place : PlaceLaw s) (listed : i ∈ s.printers[p].outstanding) (w : WindowId) : i ∉ s.queues[w] := by
  intro queued
  obtain ⟨-, -, -, places⟩ := place
  obtain ⟨queues, lists, -⟩ := places i
  obtain ⟨j, job, -, free⟩ := (queues w).mp queued
  obtain ⟨k, same, own⟩ := (lists p).mp listed
  rw [job] at same
  cases same
  exact nomatch free.symm.trans own

/-! ### Notes (R141) -/

theorem takeCancelled_eq (order : List JobIx) (p : PrinterId) (i : JobIx) (s : State) :
    takeCancelled order p i s = sendBack order p reasonCancelled i (cancelNoted p i s) := rfl

theorem dropNote_written (p : PrinterId) (token : Byte) (s : State) : setMagazine p (dropNote token s.magazines[p]) s =
    { s with magazines := put s.magazines p (dropNote token s.magazines[p]) } := setMagazine_notes ..

/-- A cancelled job's note with none to move behind it. -/
theorem cancelNoted_still (still : noteBehind (tokenOf s i) s.magazines[p] = none) : ∃ kinds marks,
    cancelNoted p i s = { s with
      magazines := put s.magazines p (dropNote (tokenOf s i) s.magazines[p])
      kinds := kinds
      port := { s.port with stockMarks := marks } } := by
  let t : State := { s with magazines := put s.magazines p (dropNote (tokenOf s i) s.magazines[p]) }
  obtain ⟨kinds, marks, recomputed⟩ := recomputeOf_eq p t
  refine ⟨kinds, marks, Eq.trans (congrArg (recomputeOf p) ?_) recomputed⟩
  rw [dropNote_written]
  split
  · next n rest first notes =>
    rw [put_get_self] at notes
    rw [noteBehind, first, notes] at still
    exact nomatch still
  · rfl

/-- The first note's job cancelled: the note behind it moves down, and its job's serial with it. -/
theorem cancelNoted_moves (behind : noteBehind (tokenOf s i) s.magazines[p] = some n)
    (left : (dropNote (tokenOf s i) s.magazines[p]).notes = n :: rest) : ∃ kinds marks,
    cancelNoted p i s = { serialMoved n.token n.lowered.serial (notesWritten p (n.lowered :: rest) s) with
      kinds := kinds
      port := { s.port with stockMarks := marks } } := by
  let m := s.magazines[p]
  let t : State := notesWritten p (n.lowered :: rest) s
  have first : (m.notes.head?.any fun n => n.token == tokenOf s i) = true := by
    by_contra out
    rw [noteBehind, if_neg out] at behind
    exact nomatch behind
  let d : State := { s with magazines := put s.magazines p (dropNote (tokenOf s i) m) }
  have own : d.magazines[p] = dropNote (tokenOf s i) m := put_get_self ..
  have moved : moveNote p (n.serial - 1) d = serialMoved n.token n.lowered.serial t := by
    have written : setMagazine p { d.magazines[p] with notes := n.lowered :: rest } d = t := by
      rw [setMagazine_notes, own]
      exact congrArg (fun y => { s with magazines := y }) (put_put ..)
    unfold moveNote
    dsimp only
    rw [show d.magazines[p].notes = n :: rest from (congrArg Magazine.notes own).trans left]
    dsimp only
    rw [show ({ n with serial := n.serial - 1 } : Note) = n.lowered from rfl, written]
    rfl
  obtain ⟨kinds, marks, recomputed⟩ := recomputeOf_eq p (serialMoved n.token n.lowered.serial t)
  have port : (serialMoved n.token n.lowered.serial t).port = s.port := by
    unfold serialMoved
    split <;> rfl
  rw [port] at recomputed
  refine ⟨kinds, marks, Eq.trans (congrArg (recomputeOf p) ?_) recomputed⟩
  rw [dropNote_written, ← moved]
  split
  · next n' rest' _ notes =>
    rw [show (put s.magazines p (dropNote (tokenOf s i) s.magazines[p]))[p] = _ from own, left] at notes
    cases notes
    rfl
  · next out => exact absurd ((congrArg Magazine.notes own).trans left) (out n rest first)

/-- A note's move leaves every job but its own. -/
theorem serialMoved_other (other : tokenOf s i ≠ token) : (serialMoved token serial s).jobs[i] = s.jobs[i] := by
  unfold serialMoved
  split
  · next k named =>
    refine upd_get_other _ _ _ _ fun same => other ?_
    exact same ▸ ((jobOfToken_eq_some s token k).mp named).2
  · rfl

theorem serialMoved_serial (named : jobOfToken s token = some k) :
    serialOf (serialMoved token serial s) k = some serial := by
  obtain ⟨job, -⟩ := (jobOfToken_eq_some s token k).mp named
  obtain ⟨j, job⟩ := Option.isSome_iff_exists.mp job
  have moved : jobAt (serialMoved token serial s) k = some { j with serial := some serial } := by
    unfold serialMoved
    rw [named]
    refine (congrArg JobRecord.job (upd_get_self ..)).trans ?_
    exact congrArg (Option.map fun j => { j with serial := some serial }) job
  unfold serialOf
  rw [moved]
  rfl

end

end Sys2Proof.Machine
end
section
/-! PROOF. CANCELLED outcomes and the implied cancel (R107, R123, R133, R141). -/

namespace Sys2Proof.Machine

/-- A window's job, its printer's only one, come back to the head of its queue (R46). -/
structure CameBack (p : PrinterId) (i : JobIx) (j : Job) (w : WindowId) (s t : State) : Prop where
  job : jobAt t i = some (backInQueue j)
  queue : t.queues[w] = i :: s.queues[w]
  list : t.printers[p].outstanding = []
  returns : t.port.returns = s.port.returns

/-- What the removal of a cancelled job's note leaves of the job. -/
structure NotesDropped (p : PrinterId) (i : JobIx) (s t : State) : Prop where
  queues : t.queues = s.queues
  printers : t.printers = s.printers
  returns : t.port.returns = s.port.returns
  settings : t.settings = s.settings
  job : t.jobs[i] = s.jobs[i]
  notes : ∀ n ∈ t.magazines[p].notes, n.token ≠ tokenOf s i

section
variable {s t u v : State} {l : LineId} {x : Exchange} {p : PrinterId} {order : List JobIx} {token waiting : Byte}
  {e : OutcomeEntry} {i k : JobIx} {j : Job} {w : WindowId} {n : Note}

/-! ### One job cancelled -/

theorem requeue_cameBack (alone : s.printers[p].outstanding = [i]) (job : jobAt s i = some j) (fresh : i ∉ s.queues[w]) :
    CameBack p i j w s (requeue [i] p w i s) := by
  obtain ⟨records, marks, back⟩ := requeue_alone alone job fresh
  rw [back]
  exact ⟨congrArg JobRecord.job (put_get_self s.jobs i _), put_get_self s.queues w _,
    congrArg Printer.outstanding (put_get_self s.printers p _), rfl⟩

theorem serialMoved_frame (token : Byte) (serial : Nat) (s : State) :
    ∃ jobs, serialMoved token serial s = { s with jobs := jobs } := by
  unfold serialMoved
  split
  · exact ⟨_, rfl⟩
  · exact ⟨s.jobs, rfl⟩

theorem cancelNoted_dropped (p : PrinterId) (i : JobIx) (s : State) : NotesDropped p i s (cancelNoted p i s) := by
  have others : ∀ n ∈ (dropNote (tokenOf s i) s.magazines[p]).notes, n.token ≠ tokenOf s i := fun n hn => by
    simpa using (List.mem_filter.mp hn).2
  cases behind : noteBehind (tokenOf s i) s.magazines[p] with
  | none =>
    obtain ⟨kinds, marks, noted⟩ := cancelNoted_still behind
    rw [noted]
    refine ⟨rfl, rfl, rfl, rfl, rfl, ?_⟩
    rw [put_get_self]
    exact others
  | some n =>
    have head : (dropNote (tokenOf s i) s.magazines[p]).notes.head? = some n := by
      unfold noteBehind at behind
      split at behind
      · exact behind
      · exact nomatch behind
    obtain ⟨rest, left⟩ := List.head?_eq_some_iff.mp head
    rw [left] at others
    obtain ⟨kinds, marks, noted⟩ := cancelNoted_moves behind left
    obtain ⟨other, others⟩ := List.forall_mem_cons.mp others
    have job := serialMoved_other (serial := n.lowered.serial) (s := notesWritten p (n.lowered :: rest) s) other.symm
    obtain ⟨jobs, frame⟩ := serialMoved_frame n.token n.lowered.serial (notesWritten p (n.lowered :: rest) s)
    rw [frame] at noted job
    rw [noted]
    refine ⟨rfl, rfl, rfl, rfl, job, fun y hy => ?_⟩
    replace hy : y ∈ (notesWritten p (n.lowered :: rest) s).magazines[p].notes := hy
    unfold notesWritten at hy
    rw [put_get_self] at hy
    exact (List.forall_mem_cons.mpr ⟨other, others⟩ : ∀ y ∈ n.lowered :: rest, _) y hy

theorem tokenOf_congr (h : t.jobs[i] = s.jobs[i]) : tokenOf t i = tokenOf s i := by
  unfold tokenOf
  rw [h]

theorem takeCancelled_magazines (order : List JobIx) (p : PrinterId) (i : JobIx) (s : State) :
    (takeCancelled order p i s).magazines = (cancelNoted p i s).magazines :=
  congrArg Books.magazines (books_sendBack order p reasonCancelled i (cancelNoted p i s))

theorem sendBack_window {reason : Nat} (job : jobAt s i = some j) (window : j.window = some w) :
    sendBack order p reason i s = requeue order p w i s := by
  unfold sendBack
  rw [job]
  dsimp only
  rw [window]

theorem sendBack_test {reason : Nat} (job : jobAt s i = some j) (window : j.window = none) :
    sendBack order p reason i s = finishJob i .withdrawn reason s := by
  unfold sendBack
  rw [job]
  dsimp only
  rw [window]

theorem takeCancelled_window (job : jobAt s i = some j) (window : j.window = some w) :
    takeCancelled order p i s = requeue order p w i (cancelNoted p i s) :=
  sendBack_window ((jobAt_congr (cancelNoted_dropped p i s).job).trans job) window

theorem takeCancelled_cameBack (alone : s.printers[p].outstanding = [i]) (job : jobAt s i = some j)
    (window : j.window = some w) (fresh : i ∉ s.queues[w]) : CameBack p i j w s (takeCancelled [i] p i s) := by
  have dropped := cancelNoted_dropped p i s
  have back := requeue_cameBack (w := w) (dropped.printers ▸ alone) ((jobAt_congr dropped.job).trans job)
    (dropped.queues ▸ fresh)
  rw [takeCancelled_window job window]
  exact ⟨back.job, back.queue.trans (by rw [dropped.queues]), back.list, back.returns.trans dropped.returns⟩

/-- The entry of a test print cancelled (R133). -/
def cancelledEntry (s : State) (i : JobIx) (j : Job) : ReturnEntry :=
  entryNow s j.slip j.tag .withdrawn (1#32 ||| clampedBit j.clamped) (jobResultBytes (tokenOf s i) j)

theorem takeCancelled_ended (job : jobAt s i = some j) (own : j.printer = some p) (test : j.window = none) :
    JobEnded p i (cancelledEntry s i j) s (takeCancelled order p i s) := by
  have dropped := cancelNoted_dropped p i s
  have cancels := cancels_takeCancelled (order := order) p p i s
  have job' := (jobAt_congr dropped.job).trans job
  have ended := finishJob_ended job' own .withdrawn reasonCancelled
  rw [← sendBack_test (order := order) (p := p) job' test, ← takeCancelled_eq, tokenOf_congr dropped.job,
    entryNow_congr dropped.settings] at ended
  exact ⟨ended.gone, ended.stack, ended.list.trans (by rw [dropped.printers]), ended.entry, cancels.steady, cancels.hold⟩

/-! ### The notes of CANCELLED -/

theorem cancelNoted_only (only : s.magazines[p].notes.map (·.token) = [tokenOf s i]) :
    (cancelNoted p i s).magazines = put s.magazines p { s.magazines[p] with notes := [] } := by
  obtain ⟨n, notes, token⟩ := List.map_eq_singleton_iff.mp only
  have none : (dropNote (tokenOf s i) s.magazines[p]).notes = [] := by
    unfold dropNote
    rw [notes, ← token]
    simp
  have still : noteBehind (tokenOf s i) s.magazines[p] = .none := by
    unfold noteBehind
    rw [none]
    exact ite_self _
  obtain ⟨kinds, marks, noted⟩ := cancelNoted_still still
  rw [noted]
  exact congrArg (fun y => put s.magazines p { s.magazines[p] with notes := y }) none

theorem requeue_jobs_other (other : k ≠ i) : (requeue order p w i s).jobs[k] = s.jobs[k] :=
  (joinFront_jobs_other other).trans (upd_get_other _ _ _ _ other.symm)

/-- The first of two notes cancelled: the other moves down with its job's serial. -/
theorem takeCancelled_pair {first second : Note} (job : jobAt s i = some j) (window : j.window = some w)
    (notes : s.magazines[p].notes = [first, second]) (own : first.token = tokenOf s i) (other : second.token ≠ tokenOf s i)
    (named : jobOfToken s second.token = some k) :
    (takeCancelled order p i s).magazines =
        put s.magazines p { s.magazines[p] with notes := [{ second with serial := second.serial - 1 }] } ∧
      serialOf (takeCancelled order p i s) k = some (second.serial - 1) := by
  have left : (dropNote (tokenOf s i) s.magazines[p]).notes = [second] := by
    unfold dropNote
    rw [notes]
    simp [own, other]
  have behind : noteBehind (tokenOf s i) s.magazines[p] = some second := by
    unfold noteBehind
    rw [left, notes]
    simp [own]
  obtain ⟨kinds, marks, noted⟩ := cancelNoted_moves behind left
  have apart : k ≠ i := fun same => other (same ▸ ((jobOfToken_eq_some s _ k).mp named).2).symm
  refine ⟨(takeCancelled_magazines ..).trans ?_, ?_⟩
  · obtain ⟨jobs, frame⟩ := serialMoved_frame second.token second.lowered.serial (notesWritten p [second.lowered] s)
    rw [noted, frame]
    rfl
  · have moved := serialMoved_serial (serial := second.lowered.serial) (s := notesWritten p [second.lowered] s) named
    have same := congrArg (fun v : State => serialOf v k) noted
    rw [takeCancelled_window job window]
    unfold serialOf at same moved ⊢
    rw [jobAt_congr (requeue_jobs_other apart)]
    exact same.trans moved

end

end Sys2Proof.Machine
end
section
/-! PROOF. A STATUS that cancels a job: its entry CANCELLED (R123, R141), or the implied cancel of a printer out of READY (R107). -/

namespace Sys2Proof.Machine

section
variable {s t u v : State} {l : LineId} {x : Exchange} {p : PrinterId} {order : List JobIx} {token waiting k cause : Byte}
  {e : OutcomeEntry} {i i' : JobIx} {j : Job} {w : WindowId} {n : Note}

theorem inFlightAs.token_eq (h : inFlightAs s p token i j) : tokenOf s i = token :=
  ((jobOfToken_eq_some s token i).mp h.2.2.1).2

theorem entryOver_ready (state : v.printers[p].state = s.printers[p].state) (ready : s.printers[p].state = .ready) :
    (entryOver l p token s v).printers[p].state = .ready := by
  rw [entryOver_printer]
  exact state.trans ready

/-! ### The entry CANCELLED -/

/-- A CANCELLED entry as the line brings it; its k and cause are not looked at. -/
def cancelledAs (token k cause : Byte) : OutcomeEntry := { token := token, outcome := 3#8, k := k, cause := cause }

theorem cancelledAs_inRange (known : token ≠ 0xFF#8) : entryInRange (cancelledAs token k cause) = true := by
  simp [entryInRange, cancelledAs, known]

theorem exec_status_cancelled (h : awaiting s l x) (poll : x.command = .poll) (few : waiting.toNat ≤ 2)
    (ready : s.printers[x.printer].state = .ready) (unmarked : s.printers[x.printer].notReady = none)
    (flight : inFlightAs s x.printer token i j) :
    ∃ v, takeCancelled s.printers[x.printer].outstanding x.printer i (replyTaken x.printer s) = v ∧
      exec (.status l (BitVec.ofNat 8 (x.printer.val % 8 + 1)) 1#8 waiting [cancelledAs token k cause]) s =
        .next (entryOver l x.printer token s v) ∧ Cancels x.printer (replyTaken x.printer s) v := by
  have cancels := cancels_takeCancelled (order := s.printers[x.printer].outstanding) x.printer x.printer i
    (replyTaken x.printer s)
  generalize effect : takeCancelled s.printers[x.printer].outstanding x.printer i (replyTaken x.printer s) = v at *
  have state : v.printers[x.printer].state = .ready := (cancels.steady.state x.printer).trans ready
  have mark : v.printers[x.printer].notReady = none :=
    (congrArg Printer.notReady (cancels.steady.printers x.printer) : _).trans unmarked
  exact ⟨v, rfl, exec_status_entry h poll few flight (cancelledAs_inRange flight.1) effect
    (unmoved_of_clean state mark _) cancels.steady.lines, cancels⟩

theorem status_cancelled_window (h : awaiting s l x) (poll : x.command = .poll) (few : waiting.toNat ≤ 2)
    (ready : s.printers[x.printer].state = .ready) (unmarked : s.printers[x.printer].notReady = none)
    (flight : inFlightAs s x.printer token i j) (window : j.window = some w) (place : PlaceLaw s)
    (alone : s.printers[x.printer].outstanding = [i]) (only : s.magazines[x.printer].notes.map (·.token) = [token]) :
    ∃ t, exec (.status l (BitVec.ofNat 8 (x.printer.val % 8 + 1)) 1#8 waiting [cancelledAs token k cause]) s = .next t ∧
      Acknowledges l x.printer token t ∧
      t.magazines = put s.magazines x.printer { s.magazines[x.printer] with notes := [] } ∧
      jobAt t i = some (backInQueue j) ∧ t.queues[w] = i :: s.queues[w] ∧ t.printers[x.printer].outstanding = [] ∧
      t.printers[x.printer].state = .ready ∧ t.printers[x.printer].spoilRun = s.printers[x.printer].spoilRun ∧
      t.register = s.register ∧ t.current = s.current ∧ t.port.returns = s.port.returns := by
  obtain ⟨v, effect, next, cancels⟩ := exec_status_cancelled (k := k) (cause := cause) h poll few ready unmarked flight
  have fresh := place.unqueued (p := x.printer) (by rw [alone]; exact List.mem_singleton_self i) w
  have token_eq := flight.token_eq
  obtain ⟨-, -, -, -, job, -, -⟩ := flight
  have back := takeCancelled_cameBack (s := replyTaken x.printer s) (p := x.printer) alone job window fresh
  have magazines := (takeCancelled_magazines s.printers[x.printer].outstanding x.printer i (replyTaken x.printer s)).trans
    (cancelNoted_only (s := replyTaken x.printer s) (only.trans (congrArg (fun y => [y]) token_eq.symm)))
  rw [effect] at magazines
  rw [alone] at effect
  rw [effect] at back
  have printer := entryOver_printer l x.printer token s v
  have register := congrArg Books.register cancels.books
  have current := congrArg Books.current cancels.books
  exact ⟨_, next, entryOver_acknowledges .., magazines, back.job, back.queue,
    (congrArg Printer.outstanding printer).trans back.list,
    entryOver_ready (cancels.steady.state x.printer) ready,
    (congrArg Printer.spoilRun printer).trans (congrArg Printer.spoilRun (cancels.steady.printers x.printer) : _),
    register, current, back.returns⟩

theorem status_cancelled_pair {first second : Note} (h : awaiting s l x) (poll : x.command = .poll) (few : waiting.toNat ≤ 2)
    (ready : s.printers[x.printer].state = .ready) (unmarked : s.printers[x.printer].notReady = none)
    (flight : inFlightAs s x.printer token i j) (window : j.window = some w)
    (notes : s.magazines[x.printer].notes = [first, second]) (own : first.token = token) (other : second.token ≠ token)
    (named : jobOfToken s second.token = some i') :
    ∃ t, exec (.status l (BitVec.ofNat 8 (x.printer.val % 8 + 1)) 1#8 waiting [cancelledAs token k cause]) s = .next t ∧
      t.magazines = put s.magazines x.printer { s.magazines[x.printer] with notes := [{ second with
        serial := second.serial - 1 }] } ∧ serialOf t i' = some (second.serial - 1) := by
  obtain ⟨v, effect, next, -⟩ := exec_status_cancelled (k := k) (cause := cause) h poll few ready unmarked flight
  have token_eq := flight.token_eq
  obtain ⟨-, -, -, -, job, -, -⟩ := flight
  have pair := takeCancelled_pair (s := replyTaken x.printer s) (p := x.printer) (order := s.printers[x.printer].outstanding)
    job window notes (own.trans token_eq.symm) (fun same => other (same.trans token_eq)) named
  rw [effect] at pair
  exact ⟨_, next, pair.1, pair.2⟩

theorem status_cancelled_test (h : awaiting s l x) (poll : x.command = .poll) (few : waiting.toNat ≤ 2)
    (ready : s.printers[x.printer].state = .ready) (unmarked : s.printers[x.printer].notReady = none)
    (flight : inFlightAs s x.printer token i j) (test : j.window = none)
    (only : s.magazines[x.printer].notes.map (·.token) = [token]) :
    ∃ v t, exec (.status l (BitVec.ofNat 8 (x.printer.val % 8 + 1)) 1#8 waiting [cancelledAs token k cause]) s = .next t ∧
      t = entryOver l x.printer token s v ∧ JobEnded x.printer i (cancelledEntry s i j) (replyTaken x.printer s) v ∧
      Cancels x.printer (replyTaken x.printer s) v ∧
      v.magazines = put s.magazines x.printer { s.magazines[x.printer] with notes := [] } := by
  obtain ⟨v, effect, next, cancels⟩ := exec_status_cancelled (k := k) (cause := cause) h poll few ready unmarked flight
  have token_eq := flight.token_eq
  obtain ⟨-, -, -, -, job, -, own⟩ := flight
  have ended := takeCancelled_ended (s := replyTaken x.printer s) (p := x.printer)
    (order := s.printers[x.printer].outstanding) job own test
  have magazines := (takeCancelled_magazines s.printers[x.printer].outstanding x.printer i (replyTaken x.printer s)).trans
    (cancelNoted_only (s := replyTaken x.printer s) (only.trans (congrArg (fun y => [y]) token_eq.symm)))
  rw [effect] at ended magazines
  exact ⟨v, _, next, rfl, ended, cancels, magazines⟩

/-! ### The implied cancel -/

theorem impliedCancel_alone (away : s.printers[p].state ≠ .ready) (alone : s.printers[p].outstanding = [i])
    (job : jobAt s i = some j) (sending : j.state = .sending) (order : List JobIx) :
    impliedCancel order p 0 s = takeCancelled order p i s := by
  have isSending : jobIs s i (fun j => j.state == .sending) = true := by
    unfold jobIs
    rw [job]
    exact beq_iff_eq.mpr sending
  have only : (s.printers[p].outstanding.filter fun i => jobIs s i fun j => j.state == .sending) = [i] := by
    rw [alone, List.filter_singleton, isSending]
    rfl
  unfold impliedCancel
  rw [if_pos ⟨away, rfl⟩, only]
  rfl

/-- Clean flags from a FAULTED printer whose only job is SENDING. -/
theorem statusTail_implied (faulted : s.printers[p].state = .faulted) (opened : s.printers[p].fault.state = .opened)
    (unmarked : s.printers[p].notReady = none) (alone : s.printers[p].outstanding = [i])
    (job : jobAt s i = some j) (sending : j.state = .sending) (order : List JobIx) :
    statusTail order p .poll 1#5 0 s = takeCancelled order p i (flagsNoted p 1#5 s) := by
  have printer := flagsNoted_printer p 1#5 s
  have flags : judgeConditionFlags order p 1#5 s = flagsNoted p 1#5 s := by
    unfold judgeConditionFlags
    rw [flagCauses_clean]
    rfl
  have job' : jobAt (flagsNoted p 1#5 s) i = some j := job
  unfold statusTail
  rw [flags]
  generalize flagsNoted p 1#5 s = noted at *
  have away : noted.printers[p].state ≠ .ready := by
    rw [printer]
    exact fun ready => nomatch faulted.symm.trans ready
  have listed : noted.printers[p].outstanding = [i] := by
    rw [printer]
    exact alone
  rw [judgeNotReady_unmarked (by rw [printer]; exact unmarked), impliedCancel_alone away listed job' sending order]
  refine judgeRecovery_unacknowledged (.inr ?_)
  refine (congrArg FaultRecord.state ((cancels_takeCancelled p p i noted).steady.fault p)).trans ?_
  rw [printer]
  exact opened

theorem exec_status_implied (h : awaiting s l x) (poll : x.command = .poll)
    (faulted : s.printers[x.printer].state = .faulted) (opened : s.printers[x.printer].fault.state = .opened)
    (unmarked : s.printers[x.printer].notReady = none) (alone : s.printers[x.printer].outstanding = [i])
    (job : jobAt s i = some j) (sending : j.state = .sending) :
    ∃ v, takeCancelled [i] x.printer i (flagsNoted x.printer 1#5 (replyTaken x.printer s)) = v ∧
      exec (.status l (BitVec.ofNat 8 (x.printer.val % 8 + 1)) 1#8 0#8 []) s = .next (statusOver l s v) ∧
      Cancels x.printer (flagsNoted x.printer 1#5 (replyTaken x.printer s)) v := by
  have cancels := cancels_takeCancelled (order := [i]) x.printer x.printer i
    (flagsNoted x.printer 1#5 (replyTaken x.printer s))
  have tail := statusTail_implied (s := replyTaken x.printer s) faulted opened unmarked alone job sending [i]
  generalize takeCancelled [i] x.printer i (flagsNoted x.printer 1#5 (replyTaken x.printer s)) = v at *
  refine ⟨v, rfl, exec_status ⟨h, .inl poll, by decide, Nat.zero_le _, noEntry_inRange⟩ ?_ ?_, cancels⟩
  · rw [takeStatus_eq, show (replyTaken x.printer s).printers = s.printers from rfl, alone, poll]
    exact tail
  · rw [cancels.steady.lines]
    exact h.2.2.2.2

/-- What the implied cancel of a printer's only job leaves (R107). -/
theorem status_implied (h : awaiting s l x) (poll : x.command = .poll) (place : PlaceLaw s)
    (faulted : s.printers[x.printer].state = .faulted) (opened : s.printers[x.printer].fault.state = .opened)
    (unmarked : s.printers[x.printer].notReady = none) (alone : s.printers[x.printer].outstanding = [i])
    (job : jobAt s i = some j) (sending : j.state = .sending) :
    ∃ t, exec (.status l (BitVec.ofNat 8 (x.printer.val % 8 + 1)) 1#8 0#8 []) s = .next t ∧
      t.printers[x.printer].outstanding = [] ∧ t.printers[x.printer].state = .faulted ∧
      (∀ note ∈ t.magazines[x.printer].notes, note.token ≠ tokenOf s i) ∧
      t.lineRecords[x.printer].ackToken = s.lineRecords[x.printer].ackToken ∧
      t.lineRecords[x.printer].strays = s.lineRecords[x.printer].strays ∧
      (∀ w : WindowId, j.window = some w → jobAt t i = some (backInQueue j) ∧ t.queues[w] = i :: s.queues[w]) ∧
      (j.window = none → jobAt t i = none ∧ cancelledEntry s i j ∈ t.port.returns) := by
  have listed : i ∈ s.printers[x.printer].outstanding := by
    rw [alone]
    exact List.mem_singleton_self i
  obtain ⟨k, same, own⟩ := ((place.2.2.2 i).2.1 x.printer).mp listed
  cases same.symm.trans job
  obtain ⟨v, effect, next, cancels⟩ := exec_status_implied h poll faulted opened unmarked alone job sending
  let noted := flagsNoted x.printer 1#5 (replyTaken x.printer s)
  have printer : noted.printers[x.printer] = { s.printers[x.printer] with lastFlags := 1#5 } :=
    flagsNoted_printer x.printer 1#5 (replyTaken x.printer s)
  have listed' : noted.printers[x.printer].outstanding = [i] := by
    rw [printer]
    exact alone
  have back (w : WindowId) (window : j.window = some w) : CameBack x.printer i j w noted v :=
    effect ▸ takeCancelled_cameBack (s := noted) listed' job window (place.unqueued listed w)
  have ended (test : j.window = none) : JobEnded x.printer i (cancelledEntry noted i j) noted v :=
    effect ▸ takeCancelled_ended (s := noted) (order := [i]) job own test
  have record : v.lineRecords[x.printer].standing = { s.lineRecords[x.printer].standing with failures := 0 } :=
    (cancels.steady.records x.printer).trans (congrArg LineRecord.standing (replyTaken_record x.printer s))
  refine ⟨_, next, ?_, ?_, ?_, ?_, ?_, fun w window => ⟨(back w window).job, (back w window).queue⟩, fun test =>
    ⟨(ended test).gone, (ended test).entry⟩⟩
  · show v.printers[x.printer].outstanding = []
    cases window : j.window with
    | some w => exact (back w window).list
    | none =>
      rw [(ended window).list, listed']
      simp
  · exact (cancels.steady.state x.printer).trans (by rw [printer]; exact faulted)
  · have dropped := (cancelNoted_dropped x.printer i noted).notes
    rw [← takeCancelled_magazines [i], effect] at dropped
    exact dropped
  · exact (congrArg LineRecord.ackToken record : _)
  · exact (congrArg LineRecord.strays record : _)

end

end Sys2Proof.Machine
end
section
/-! PROOF. A magazine's change as its printer takes it (R117, R137, R144), and an outcome that is not consistent (R138). -/

namespace Sys2Proof.Machine

/-- What a READY printer makes of a magazine's change (R144): EMPTY at remaining 0, and GRANTED jobs sent back. -/
structure MagazineMoved (p : PrinterId) (s t : State) : Prop where
  standing : t.printers[p].standing = { s.printers[p].standing with
    state := if remaining s.magazines[p] = 0 then .empty else .ready }
  emptied : remaining s.magazines[p] = 0 → t.printers[p].hold = none
  lines : t.lines = s.lines
  record : t.lineRecords[p].standing = s.lineRecords[p].standing
  sent : SentOff s t
  settings : t.settings = s.settings

/-- The fault of an outcome that is not consistent (R138). -/
def mismatchedInfo (token : Byte) (serial : Option Nat) : FaultInfo :=
  { cause := .stockMismatch, flags := some 1#5, token := some token, serial := serial, own := false }

section
variable {s t u v : State} {l : LineId} {x : Exchange} {p : PrinterId} {order : List JobIx} {token waiting : Byte}
  {e : OutcomeEntry} {i k : JobIx} {j : Job} {reason : Nat} {y : JobPlace}

/-! ### GRANTED jobs leave (R117) -/

theorem isGranted_place (s : State) (k : JobIx) : isGranted s k = ((jobView s).place k).any fun y => y.state == .granted := by
  refine Eq.trans ?_ (Option.any_map ..).symm
  rfl

theorem isGranted_of_place (h : (jobView t).place k = (jobView s).place k) : isGranted t k = isGranted s k := by
  rw [isGranted_place, isGranted_place, h]

theorem sendBack_leaves (place : (jobView s).place i = some y) (own : y.printer = some p) :
    i ∉ (sendBack order p reason i s).printers[p].outstanding := by
  have gone : i ∉ ((jobView s).lists p).filter (· != i) := by simp
  have left : ((jobView s).leave i y).lists p = ((jobView s).lists p).filter (· != i) := by
    unfold JobView.leave
    rw [own]
    exact Function.update_self ..
  refine (congrArg (i ∈ JobView.lists · p) (jobView_sendBack order p reason i s)).mp.mt ?_
  unfold JobView.sendBack
  rw [place]
  dsimp only
  split
  · rw [show ((jobView s).comeBack order p _ i).lists p = ((jobView s).lists p).filter (· != i) from Function.update_self ..]
    exact gone
  · unfold JobView.finish
    rw [place]
    exact (congrArg (i ∈ ·) left).mp.mt gone

theorem forEach_sendBack_leaves {l : List JobIx} (nodup : l.Nodup)
    (own : ∀ k ∈ l, isGranted s k = true ∧ ∃ y, (jobView s).place k = some y ∧ y.printer = some p) :
    ∀ k ∈ l, k ∉ (forEach l (sendBack order p reason) s).printers[p].outstanding := by
  induction l generalizing s with
  | nil => exact fun _ hk => absurd hk List.not_mem_nil
  | cons i rest ih =>
    obtain ⟨fresh, nodup⟩ := List.nodup_cons.mp nodup
    obtain ⟨granted, y, place, printer⟩ := own i List.mem_cons_self
    have off : SentOff s (sendBack order p reason i s) := (SentOff.refl s).sendBack granted
    have same (k : JobIx) (hk : k ∈ rest) : (jobView (sendBack order p reason i s)).place k = (jobView s).place k := by
      rw [jobView_sendBack]
      exact (JobView.samePlace_sendBack order p (ne_of_mem_of_not_mem hk fresh) _).place
    have later : ∀ k ∈ rest, isGranted (sendBack order p reason i s) k = true ∧
        ∃ y, (jobView (sendBack order p reason i s)).place k = some y ∧ y.printer = some p := fun k hk => by
      obtain ⟨granted, y, place, printer⟩ := own k (List.mem_cons_of_mem i hk)
      exact ⟨(isGranted_of_place (same k hk)).trans granted, y, (same k hk).trans place, printer⟩
    intro k hk
    obtain rfl | hk := List.mem_cons.mp hk
    · have rest_off : SentOff (sendBack order p reason k s) (forEach rest (sendBack order p reason) (sendBack order p reason k s)) :=
        (SentOff.refl _).forEach_sendBack fun a ha => (later a ha).1
      exact fun listed => sendBack_leaves place printer ((rest_off.sub p).subset listed)
    · exact ih nodup later k hk

theorem sendBackGranted_leaves (place : PlaceLaw s) (listed : k ∈ s.printers[p].outstanding) (granted : isGranted s k = true) :
    k ∉ (sendBackGranted order p s).printers[p].outstanding := by
  obtain ⟨-, -, lists, places⟩ := place
  refine forEach_sendBack_leaves ((lists p).filter _) (fun a ha => ?_) k (List.mem_filter.mpr ⟨listed, granted⟩)
  obtain ⟨listed, granted⟩ := List.mem_filter.mp ha
  obtain ⟨j, job, own⟩ := ((places a).2.1 p).mp listed
  exact ⟨granted, j.place, by simp [jobView, job], own⟩

/-! ### The printer takes the change (R144) -/

protected theorem Steady.breakReservation {l : List JobIx} (h : Steady s t) : Steady s (breakReservation order p l t) := by
  induction l generalizing t with
  | nil => exact h
  | cons i rest ih => exact h.ite (ih h.sendBack)

theorem recomputeOf_printer (p : PrinterId) (s : State) : (recomputeOf p s).printers = s.printers ∧
    (recomputeOf p s).magazines = s.magazines := by
  obtain ⟨kinds, marks, e⟩ := recomputeOf_eq p s
  rw [e]
  exact ⟨rfl, rfl⟩

theorem magazineChanged_empties (ready : s.printers[p].state = .ready) (out : remaining s.magazines[p] = 0) :
    magazineChanged order p s = enterState order p .empty (recomputeOf p s) := by
  obtain ⟨printers, magazines⟩ := recomputeOf_printer p s
  unfold magazineChanged
  dsimp only
  rw [if_pos (by rw [printers]; exact ready), if_pos (by rw [magazines]; exact out)]

theorem magazineChanged_stays (ready : s.printers[p].state = .ready) (left : remaining s.magazines[p] ≠ 0) :
    magazineChanged order p s = breakReservation order p
      ((recomputeOf p s).printers[p].outstanding.filter (isGranted (recomputeOf p s))).reverse (recomputeOf p s) := by
  obtain ⟨printers, magazines⟩ := recomputeOf_printer p s
  unfold magazineChanged
  dsimp only
  rw [if_pos (by rw [printers]; exact ready), if_neg (by rw [magazines]; exact left)]

theorem magazineChanged_moved (ready : s.printers[p].state = .ready) (order : List JobIx) :
    MagazineMoved p s (magazineChanged order p s) := by
  have sent : SentOff s (magazineChanged order p s) := (SentOff.refl s).magazineChanged
  have settings : (magazineChanged order p s).settings = s.settings :=
    congrArg Still.settings (magazineChanged_still order p s)
  have printers := (recomputeOf_printer p s).1
  have steady : Steady s (recomputeOf p s) := (Steady.refl s).recomputeOf
  by_cases out : remaining s.magazines[p] = 0
  · rw [magazineChanged_empties ready out] at *
    have state : (recomputeOf p s).printers[p].state = .ready := by
      rw [printers]
      exact ready
    have entered := enterState_steady order p .empty (recomputeOf p s)
    have written : (stateWritten p .empty (recomputeOf p s)).printers[p] =
        { (recomputeOf p s).printers[p] with state := .empty } := upd_get_self ..
    refine ⟨(entered.printers p).trans ?_, fun _ => enterState_hold state (by decide), entered.lines.trans steady.lines,
      (entered.records p).trans (steady.records p), sent, settings⟩
    rw [written, printers, if_pos out]
    rfl
  · rw [magazineChanged_stays ready out] at *
    have broken : Steady s (breakReservation order p ((recomputeOf p s).printers[p].outstanding.filter
      (isGranted (recomputeOf p s))).reverse (recomputeOf p s)) := steady.breakReservation
    refine ⟨(broken.printers p).trans ?_, fun h => absurd h out, broken.lines, broken.records p, sent, settings⟩
    rw [if_neg out, ← ready]
    rfl

/-- A printer that goes EMPTY has no GRANTED job left (R117). -/
theorem magazineChanged_leaves (ready : s.printers[p].state = .ready) (out : remaining s.magazines[p] = 0) (place : PlaceLaw s)
    (listed : k ∈ s.printers[p].outstanding) (granted : isGranted s k = true) (order : List JobIx) :
    k ∉ (magazineChanged order p s).printers[p].outstanding := by
  let written := modPrinter p (fun x => { x with
    state := .empty, spoilRun := if PrinterState.empty = .ready then 0 else x.spoilRun }) (recomputeOf p s)
  let released := releaseHold p (markPrinter p false written)
  have state : (recomputeOf p s).printers[p].state = .ready := by
    rw [(recomputeOf_printer p s).1]
    exact ready
  have changed : magazineChanged order p s = recomputeOf p (sendBackGranted order p released) := by
    rw [magazineChanged_empties ready out]
    exact congrArg (recomputeOf p) (if_pos ⟨state, by decide⟩)
  have view : jobView released = jobView s := by
    have entered : jobView written = jobView (recomputeOf p s) := jobView_modPrinter fun _ => rfl
    exact (jobView_releaseHold ..).trans (entered.trans (jobView_recomputeOf p s))
  have placed : PlaceLaw released := (placeLaw_iff released).mpr (view ▸ (placeLaw_iff s).mp place)
  have lists : released.printers[p].outstanding = s.printers[p].outstanding := congrArg (JobView.lists · p) view
  have left := sendBackGranted_leaves (order := order) placed (lists ▸ listed)
    ((isGranted_of_place (congrArg (JobView.place · k) view)).trans granted)
  rw [changed, (recomputeOf_printer p _).1]
  exact left

/-! ### An outcome that is not consistent (R138) -/

theorem takeOutcome_inconsistent (outcome : e.outcome ≠ 3#8)
    (wrong : ¬(s.magazines[p].loaded = true ∧ j.serial = some s.magazines[p].next)) :
    takeOutcome order p 1#5 e i j s = raiseFault order p (mismatchedInfo (tokenOf s i) j.serial) s := by
  have inconsistent : consistent s p j = false := by
    rw [Bool.eq_false_iff]
    refine fun right => wrong ?_
    obtain ⟨loaded, serial⟩ := Bool.and_eq_true_iff.mp right
    exact ⟨loaded, beq_iff_eq.mp serial⟩
  unfold takeOutcome
  rw [if_neg outcome, inconsistent]
  rfl

theorem status_inconsistent (h : awaiting s l x) (poll : x.command = .poll) (few : waiting.toNat ≤ 2)
    (ready : s.printers[x.printer].state = .ready) (flight : inFlightAs s x.printer e.token i j)
    (inRange : entryInRange e = true) (outcome : e.outcome ≠ 3#8) (sent : j.state = .sent)
    (wrong : ¬(s.magazines[x.printer].loaded = true ∧ j.serial = some s.magazines[x.printer].next)) :
    ∃ t, exec (.status l (BitVec.ofNat 8 (x.printer.val % 8 + 1)) 1#8 waiting [e]) s = .next t ∧
      Acknowledges l x.printer e.token t ∧ StandsFaulted x.printer (mismatchedInfo e.token j.serial) s t ∧
      t.current = s.current ∧ t.register = s.register ∧
      (1 ≤ waiting.toNat ∨ s.printers[x.printer].outstanding = [i] → jobAt t i = some j) := by
  let r := replyTaken x.printer s
  have token_eq : tokenOf r i = e.token := flight.token_eq
  have effect := takeOutcome_inconsistent (s := r) (order := s.printers[x.printer].outstanding) (i := i) outcome wrong
  have serving : r.printers[x.printer].serving := .inl ready
  rw [token_eq] at effect
  have raised := raiseFault_raised (f := mismatchedInfo e.token j.serial) serving rfl s.printers[x.printer].outstanding
  have stands := (raiseFault_stands (f := mismatchedInfo e.token j.serial) serving rfl rfl
    s.printers[x.printer].outstanding).before
  generalize raiseFault s.printers[x.printer].outstanding x.printer (mismatchedInfo e.token j.serial) r = v at *
  obtain ⟨w, next, cancelled, after, acknowledges⟩ := exec_status_entry_stands h poll few flight inRange effect stands
  obtain ⟨-, -, -, listed, job, -, -⟩ := flight
  let noted := flagsNoted x.printer 1#5 (acknowledged x.printer e.token v)
  have cancels : Cancels x.printer noted w := cancelled ▸ impliedCancel_cancels ..
  have books_eq : books w = { books s with magazines := w.magazines } := cancels.books.trans (by
    rw [show books noted = books s from raised.sent.books])
  have job' : jobAt v i = some j :=
    (jobAt_congr (raised.sent.jobs i (by simp [isGranted, jobIs, show jobAt r i = some j from job, sent]))).trans job
  refine ⟨_, next, acknowledges, after, congrArg Books.current books_eq, congrArg Books.register books_eq, fun quiet => ?_⟩
  have idle : w = noted := by
    refine cancelled.trans (impliedCancel_idle (.inr (quiet.imp (fun some_ none => ?_) fun alone k hk => ?_)))
    · omega
    · have printer : noted.printers[x.printer] = { v.printers[x.printer] with lastFlags := 1#5 } :=
        flagsNoted_printer x.printer 1#5 (acknowledged x.printer e.token v)
      rw [printer] at hk
      have inList := (raised.sent.sub x.printer).subset hk
      rw [show r.printers[x.printer].outstanding = [i] from alone] at inList
      rw [List.mem_singleton.mp inList]
      unfold isSending jobIs
      rw [show jobAt noted i = some j from job']
      simp [sent]
  rw [idle]
  exact job'

end

end Sys2Proof.Machine
end
section
/-! SUPPORT. The tally of a job's shift through an outcome (R60, R63, R65, R43), and the blanks an outcome uses (R139, R140, R144). -/

namespace Sys2Proof.Machine

/-- A magazine, the register and the Day Totals written: blanks used, before their printer takes the change. -/
def StockWritten (p : PrinterId) (m : Magazine) (g : SpoilRegister) (d : DayTotals) (s t : State) : Prop :=
  ∃ marks, t = { s with
    magazines := put s.magazines p m, register := g, dayTotals := d, port := { s.port with printerMarks := marks } }

/-- Blanks used by a READY printer, which has taken the change (R144). -/
structure BlanksUsed (p : PrinterId) (m : Magazine) (g : SpoilRegister) (d : DayTotals) (s t : State) : Prop where
  standing : t.printers[p].standing = { s.printers[p].standing with
    state := if remaining m = 0 then .empty else .ready }
  emptied : remaining m = 0 → t.printers[p].hold = none
  lines : t.lines = s.lines
  record : t.lineRecords[p].standing = s.lineRecords[p].standing
  settings : t.settings = s.settings
  books : books t = { books s with magazines := put s.magazines p m, register := g, dayTotals := d }
  jobs : ∀ k : JobIx, isGranted s k = false → t.jobs[k] = s.jobs[k]
  sub : t.printers[p].outstanding.Sublist s.printers[p].outstanding
  leaves : remaining m = 0 → PlaceLaw s → ∀ k ∈ s.printers[p].outstanding, isGranted s k = true →
    k ∉ t.printers[p].outstanding
  quiet : (∀ k ∈ s.printers[p].outstanding, isGranted s k = false) → jobView t = jobView s ∧ t.port.returns = s.port.returns

section
variable {s t u v : State} {p : PrinterId} {order : List JobIx} {i k : JobIx} {j : Job} {w : WindowId} {c : Tally}
  {f : Tally → Tally} {m : Magazine} {g : SpoilRegister} {d : DayTotals} {code : ResultCode} {reason shift : Nat}

/-! ### Tallies (R60) -/

theorem tallyOf_cases (h : tallyOf s w shift = some c) :
    (s.current[w].shift = shift ∧ c = s.current[w]) ∨
      (s.current[w].shift ≠ shift ∧ s.closing[w] = some c ∧ c.shift = shift) := by
  unfold tallyOf at h
  split at h
  · next same => exact .inl ⟨same, (Option.some.inj h).symm⟩
  · next other =>
    obtain ⟨closing, same⟩ := Option.filter_eq_some_iff.mp h
    exact .inr ⟨other, closing, beq_iff_eq.mp same⟩

theorem tallyOf_current (h : s.current[w].shift = shift) : tallyOf s w shift = some s.current[w] := if_pos h

theorem tallyOf_closing (other : s.current[w].shift ≠ shift) (closing : s.closing[w] = some c) (same : c.shift = shift) :
    tallyOf s w shift = some c := by
  unfold tallyOf
  rw [if_neg other, closing]
  simp [same]

/-- The tally of a shift changed: no shift moves, and no other CURRENT tally changes. -/
structure TallyChanged (w : WindowId) (shift : Nat) (c : Tally) (s t : State) : Prop where
  tally : tallyOf t w shift = some c
  shift : t.current[w].shift = s.current[w].shift
  others : ∀ v : WindowId, v ≠ w → t.current[v] = s.current[v]

theorem TallyChanged.trans {c' : Tally} (h : TallyChanged w shift c s t) (k : TallyChanged w shift c' t u) :
    TallyChanged w shift c' s u :=
  ⟨k.tally, k.shift.trans h.shift, fun v hv => (k.others v hv).trans (h.others v hv)⟩

theorem modTally_changed (h : tallyOf s w shift = some c) (keeps : (f c).shift = c.shift) :
    TallyChanged w shift (f c) s (modTally w shift f s) := by
  have current (v : WindowId) := modTally_current w v shift f s
  obtain ⟨same, rfl⟩ | ⟨other, closing, same⟩ := tallyOf_cases h
  · have own : (modTally w shift f s).current[w] = f s.current[w] := (current w).trans (if_pos ⟨rfl, same⟩)
    refine ⟨?_, by rw [own, keeps], fun v hv => (current v).trans (if_neg fun e => hv e.1.symm)⟩
    rw [tallyOf_current (by rw [own, keeps, same]), own]
  · have own : (modTally w shift f s).current[w] = s.current[w] := (current w).trans (if_neg fun e => other e.2)
    have closed := modTally_closing (f := f) (w := w) (shift := shift) closing (fun e => other (e.symm.trans same))
    rw [if_pos ⟨rfl, same⟩] at closed
    exact ⟨tallyOf_closing (by rw [own]; exact other) closed (keeps.trans same), by rw [own],
      fun v hv => (current v).trans (if_neg fun e => hv e.1.symm)⟩

/-- A job's end lowers the open-job count of its shift's tally (R43); a statement comes only at the last one (R159). -/
theorem finishJob_tally (job : jobAt s i = some j) (window : j.window = some w) (h : tallyOf s w j.shift = some c)
    (more : j.shift = s.current[w].shift ∨ 1 < c.openJobs) (code : ResultCode) (reason : Nat) :
    TallyChanged w j.shift { c with openJobs := c.openJobs - 1 } s (finishJob i code reason s) := by
  obtain ⟨-, -, -, current, closings⟩ := finishJob_books job code reason
  have others (v : WindowId) (hv : v ≠ w) : (finishJob i code reason s).current[v] = s.current[v] :=
    (current v).trans (if_neg fun e => hv (Option.some.inj (e.1.symm.trans window)))
  obtain ⟨same, rfl⟩ | ⟨other, closing, same⟩ := tallyOf_cases h
  · have own := (current w).trans (if_pos ⟨window, same.symm⟩)
    refine ⟨?_, by rw [own], others⟩
    rw [tallyOf_current (by rw [own]; exact same), own]
  · have own : (finishJob i code reason s).current[w] = s.current[w] := (current w).trans (if_neg fun e => other e.2.symm)
    have closed := closings w c closing fun e => other (e.symm.trans same)
    dsimp only at closed
    rw [if_pos ⟨window, same.symm⟩] at closed
    have left : c.openJobs - 1 ≠ 0 := by
      have := more.resolve_left fun e => other e.symm
      omega
    exact ⟨tallyOf_closing (by rw [own]; exact other) (closed left) same, by rw [own], others⟩

theorem finishJob_test_books (job : jobAt s i = some j) (test : j.window = none) (code : ResultCode) (reason : Nat) :
    books (finishJob i code reason s) = books s := by
  rw [finishJob_test job test]
  exact books_leaveLists i j (returnJob i j code reason s)

theorem addPrinted_keeps (x : Tender) (amount quantity : Nat) (clock : Word) (c : Tally) :
    (addPrinted x amount quantity clock c).shift = c.shift ∧
      (addPrinted x amount quantity clock c).openJobs = c.openJobs := by
  cases x <;> exact ⟨rfl, rfl⟩

/-! ### Blanks used (R144) -/

theorem sendBackGranted_none (none : ∀ k ∈ s.printers[p].outstanding, isGranted s k = false) : sendBackGranted order p s = s := by
  have empty : s.printers[p].outstanding.filter (isGranted s) = [] := List.filter_eq_nil_iff.mpr fun k hk => by
    rw [none k hk]
    exact Bool.false_ne_true
  unfold sendBackGranted
  rw [empty]
  rfl

theorem releaseHold_returns (p : PrinterId) (s : State) : (releaseHold p s).port.returns = s.port.returns := by
  unfold releaseHold
  split <;> rfl

theorem recomputeOf_returns (p : PrinterId) (s : State) : (recomputeOf p s).port.returns = s.port.returns := by
  obtain ⟨kinds, marks, e⟩ := recomputeOf_eq p s
  rw [e]

theorem none_granted_of_view (same : jobView t = jobView s) (none : ∀ k ∈ s.printers[p].outstanding, isGranted s k = false) :
    ∀ k ∈ t.printers[p].outstanding, isGranted t k = false := fun k hk =>
  (isGranted_of_place (congrArg (JobView.place · k) same)).trans (none k ((congrArg (k ∈ JobView.lists · p) same).mp hk))

/-- Without GRANTED jobs a change of state moves no job (R117). -/
theorem enterState_quiet (none : ∀ k ∈ s.printers[p].outstanding, isGranted s k = false) (order : List JobIx)
    (new : PrinterState) : jobView (enterState order p new s) = jobView s ∧
      (enterState order p new s).port.returns = s.port.returns := by
  let written := markPrinter p false (modPrinter p (fun x => { x with
    state := new, spoilRun := if new = .ready then 0 else x.spoilRun }) s)
  have entered : jobView written = jobView s :=
    (jobView_modPrinter (by exact fun _ => rfl) : jobView (modPrinter p (fun x => { x with
      state := new, spoilRun := if new = .ready then 0 else x.spoilRun }) s) = jobView s)
  have released : jobView (releaseHold p written) = jobView s := (jobView_releaseHold ..).trans entered
  unfold enterState
  dsimp only
  rw [sendBackGranted_none (none_granted_of_view released none), jobView_recomputeOf, recomputeOf_returns]
  split
  · exact ⟨released, releaseHold_returns p written⟩
  · exact ⟨entered, rfl⟩

/-- Without GRANTED jobs a magazine's change moves no job (R117, R137). -/
theorem magazineChanged_quiet (ready : s.printers[p].state = .ready)
    (none : ∀ k ∈ s.printers[p].outstanding, isGranted s k = false) (order : List JobIx) :
    jobView (magazineChanged order p s) = jobView s ∧ (magazineChanged order p s).port.returns = s.port.returns := by
  have view := jobView_recomputeOf p s
  have returns := recomputeOf_returns p s
  have still := none_granted_of_view view none
  by_cases out : remaining s.magazines[p] = 0
  · obtain ⟨jobs, port⟩ := enterState_quiet still order .empty
    rw [magazineChanged_empties ready out]
    exact ⟨jobs.trans view, port.trans returns⟩
  · have empty : (recomputeOf p s).printers[p].outstanding.filter (isGranted (recomputeOf p s)) = [] :=
      List.filter_eq_nil_iff.mpr fun k hk => by
        rw [still k hk]
        exact Bool.false_ne_true
    rw [magazineChanged_stays ready out, empty]
    exact ⟨view, returns⟩

/-- Without GRANTED jobs a fault that requests a CLEAR moves no job (R117, R128). -/
theorem raiseFault_quiet {f : FaultInfo} (serving : s.printers[p].serving) (clears : f.cause.requestsClear = true)
    (none : ∀ k ∈ s.printers[p].outstanding, isGranted s k = false) (order : List JobIx) :
    jobView (raiseFault order p f s) = jobView s ∧ (raiseFault order p f s).port.returns = s.port.returns := by
  let noted := faultNoted p (fun x => firstFault f x s.settings.clock) s
  have written : jobView noted = jobView s :=
    (jobView_modPrinter (by exact fun _ => rfl) : jobView (modPrinter p (fun x => { x with
      fault := firstFault f x s.settings.clock, notReady := .none }) s) = jobView s)
  obtain ⟨entered, returns⟩ := enterState_quiet (none_granted_of_view written none) order .faulted
  have sent : faultSent order p f s = enterState order p .faulted noted :=
    sendBackGranted_none (none_granted_of_view (entered.trans written) none)
  obtain ⟨lines, started⟩ := faultStarted_lines order p f s
  rw [raiseFault_clear serving clears, started, sent]
  exact ⟨entered.trans written, returns⟩

theorem StockWritten.used (h : StockWritten p m g d s t) (ready : s.printers[p].state = .ready) (order : List JobIx) :
    BlanksUsed p m g d s (magazineChanged order p t) := by
  obtain ⟨marks, rfl⟩ := h
  let t : State := { s with
    magazines := put s.magazines p m, register := g, dayTotals := d, port := { s.port with printerMarks := marks } }
  have moved := magazineChanged_moved (s := t) ready order
  have magazine : t.magazines[p] = m := put_get_self ..
  obtain ⟨standing, emptied, lines, record, sent, settings⟩ := moved
  rw [magazine] at standing emptied
  exact ⟨standing, emptied, lines, record, settings, sent.books, sent.jobs, sent.sub p,
    fun out place k listed granted => magazineChanged_leaves (s := t) ready (magazine ▸ out) place listed granted order,
    fun none => magazineChanged_quiet (s := t) ready none order⟩

theorem stockWritten_setMagazine (p : PrinterId) (m : Magazine) (s : State) :
    StockWritten p m s.register s.dayTotals s (setMagazine p m s) := by
  obtain ⟨marks, e⟩ := setMagazine_eq p m s
  exact ⟨marks, e⟩

end

end Sys2Proof.Machine
end
section
/-! PROOF. PRINTED outcomes (R63, R123, R139, R143). -/

namespace Sys2Proof.Machine

/-- Blanks used and their job ended, on a printer that was READY. -/
structure OutcomeEnded (p : PrinterId) (i : JobIx) (e : ReturnEntry) (m : Magazine) (g : SpoilRegister) (d : DayTotals)
    (s t : State) : Prop where
  gone : jobAt t i = none
  stack : i ∈ t.freeStack
  entry : e ∈ t.port.returns
  list : t.printers[p].outstanding.Sublist (s.printers[p].outstanding.filter (· != i))
  standing : t.printers[p].standing = { s.printers[p].standing with
    state := if remaining m = 0 then .empty else .ready }
  emptied : remaining m = 0 → t.printers[p].hold = none
  lines : t.lines = s.lines
  settings : t.settings = s.settings
  magazines : t.magazines = put s.magazines p m
  register : t.register = g
  spoils : ∀ cause, spoilsCount t.dayTotals cause = spoilsCount d cause
  leaves : remaining m = 0 → PlaceLaw s → ∀ k ∈ s.printers[p].outstanding, isGranted s k = true →
    k ∉ t.printers[p].outstanding

/-- A magazine's next blank printed (R139). -/
def printedMagazine (token : Byte) (m : Magazine) : Magazine :=
  { dropNote token m with next := m.next + 1, issued := m.issued + 1 }

/-- A magazine's next blank used by a test print (R143). -/
def testedMagazine (token : Byte) (m : Magazine) : Magazine :=
  { dropNote token m with next := m.next + 1, spoiled := m.spoiled + 1 }

/-- The register entry of a spoiled blank (R152). -/
def spoiledEntry (s : State) (p : PrinterId) (serial : Nat) (window : Option WindowId) (shift : Nat) (cause : SpoilCause) :
    SpoilEntry :=
  { serial := serial, kind := s.magazines[p].kind, printer := p, window := window, shift := shift, cause := cause,
    disposition := .spoiled, clock := s.settings.clock }

/-- The return entry of an outcome (R43). -/
def outcomeEntry (s : State) (i : JobIx) (j : Job) (code : ResultCode) (reason : Nat) : ReturnEntry :=
  entryNow s j.slip j.tag code (detailOf reason ||| clampedBit j.clamped) (jobResultBytes (tokenOf s i) j)

section
variable {s t u v c : State} {l : LineId} {x : Exchange} {p : PrinterId} {order : List JobIx} {token waiting : Byte}
  {i k : JobIx} {j : Job} {w : WindowId} {y : Tender} {m : Magazine} {g : SpoilRegister} {d : DayTotals} {code : ResultCode}
  {reason : Nat} {e : ReturnEntry} {tally : Tally}

/-! ### The job ends after its blanks -/

theorem addStatement_spoils (t : Tally) (c : StatementClass) (variance : Int) (d : DayTotals) (cause : SpoilCause) :
    spoilsCount (addStatement t c variance d) cause = spoilsCount d cause := by
  cases c <;> cases cause <;> rfl

theorem statementAfter_spoils (j : Job) (s : State) (cause : SpoilCause) :
    spoilsCount (statementAfter j s).dayTotals cause = spoilsCount s.dayTotals cause := by
  unfold statementAfter statementIfDue produceStatement
  split
  · split
    · split
      · split
        · rfl
        · exact addStatement_spoils ..
      · rfl
    · rfl
  · rfl

theorem finishJob_spoils (job : jobAt s i = some j) (code : ResultCode) (reason : Nat) (cause : SpoilCause) :
    spoilsCount (finishJob i code reason s).dayTotals cause = spoilsCount s.dayTotals cause := by
  have same : books (releaseSaleEnd j (leaveLists i j (returnJob i j code reason s))) = books s := by
    rw [books_releaseSaleEnd, books_leaveLists]
    rfl
  unfold finishJob
  rw [job]
  dsimp only
  generalize releaseSaleEnd j (leaveLists i j (returnJob i j code reason s)) = u at same
  have totals : u.dayTotals = s.dayTotals := congrArg Books.dayTotals same
  obtain ⟨current, closing, e⟩ := modTallyOf_eq j (fun t => { t with openJobs := t.openJobs - 1 }) u
  refine (statementAfter_spoils j (lowerOpenJobs j u) cause).trans ?_
  rw [lowerOpenJobs_eq, e]
  exact congrArg (spoilsCount · cause) totals

theorem BlanksUsed.ended {current : Vector Tally 24} {closing : Vector (Option Tally) 24} (h : BlanksUsed p m g d s c)
    (job : jobAt s i = some j) (own : j.printer = some p) (state : j.state = .sending ∨ j.state = .sent)
    (code : ResultCode) (reason : Nat) :
    OutcomeEnded p i (outcomeEntry s i j code reason) m g d s
      (finishJob i code reason { c with current := current, closing := closing }) := by
  have flying : isGranted s i = false := by
    obtain state | state := state <;> simp [isGranted, jobIs, job, state]
  let b : State := { c with current := current, closing := closing }
  have record : b.jobs[i] = s.jobs[i] := h.jobs i flying
  have job' : jobAt b i = some j := (jobAt_congr record).trans job
  have ended := finishJob_ended job' own code reason
  obtain ⟨magazines, register, -⟩ := finishJob_books job' code reason
  have spoils := finishJob_spoils job' code reason
  rw [tokenOf_congr record, entryNow_congr (t := b) (s := s) h.settings] at ended
  have settings : (finishJob i code reason b).settings = b.settings :=
    congrArg Still.settings (finishJob_still i code reason b)
  generalize finishJob i code reason b = t at *
  refine ⟨ended.gone, ended.stack, ended.entry, ended.list ▸ h.sub.filter _, (ended.steady.printers p).trans h.standing,
    fun out => ended.hold (h.emptied out), ended.steady.lines.trans h.lines, settings.trans h.settings,
    magazines.trans (congrArg Books.magazines h.books), register.trans (congrArg Books.register h.books), fun cause =>
    (spoils cause).trans (congrArg (fun x => spoilsCount (Books.dayTotals x) cause) h.books), fun out place k listed granted => ?_⟩
  rw [ended.list]
  exact fun left => h.leaves out place k listed granted (List.mem_filter.mp left).1

/-! ### PRINTED -/

/-- A PRINTED outcome has come to its end: the spoil run is 0 (R124). -/
def runCleared (p : PrinterId) (s : State) : State := modPrinter p (fun x => { x with spoilRun := 0 }) s

theorem runCleared_printer (p : PrinterId) (s : State) :
    (runCleared p s).printers[p] = { s.printers[p] with spoilRun := 0 } := upd_get_self ..

theorem takePrinted_window (window : j.window = some w) (tender : j.tender = some y) :
    let c := magazineChanged order p (setMagazine p (printedMagazine (tokenOf s i) s.magazines[p]) s)
    takePrinted order p i j s = runCleared p (finishJob i .printed 0
      (modTally w j.shift (addPrinted y j.amount j.quantity c.settings.clock) c)) := by
  unfold takePrinted
  rw [window, tender]
  rfl

theorem takePrinted_test (test : j.window = none) :
    takePrinted order p i j s = runCleared p (finishJob i .printed 0 (magazineChanged order p
      (setMagazine p (testedMagazine (tokenOf s i) s.magazines[p])
        (disposeBlank p s.magazines[p].next none 0 .test .spoiled s)))) := by
  unfold takePrinted
  rw [test]
  rfl

theorem takeOutcome_printed (right : s.magazines[p].loaded = true ∧ j.serial = some s.magazines[p].next) {e : OutcomeEntry}
    (outcome : e.outcome = 1#8) (f : BitVec 5) : takeOutcome order p f e i j s = takePrinted order p i j s := by
  have consistent : consistent s p j = true := by
    unfold Machine.consistent
    rw [right.1, right.2]
    exact beq_self_eq_true _
  unfold takeOutcome
  rw [if_neg (by rw [outcome]; decide), consistent, outcome]
  rfl

/-- An outcome of a READY printer leaves no news for clean flags. -/
theorem OutcomeEnded.unmoved {n : Nat} (h : OutcomeEnded p i e m g d s t) (unmarked : s.printers[p].notReady = none)
    (quiet : remaining m ≠ 0 ∨ n ≠ 0 ∨ s.printers[p].outstanding = [i]) : Unmoved p n t := by
  have state : t.printers[p].state = if remaining m = 0 then .empty else .ready := (congrArg Printer.state h.standing : _)
  refine ⟨(congrArg Printer.notReady h.standing : _).trans unmarked, quiet.imp (fun left => ?_) (Or.imp_right fun alone => ?_),
    .inl ?_⟩
  · rw [state, if_neg left]
  · have none : s.printers[p].outstanding.filter (· != i) = [] := by
      rw [alone]
      simp
    have empty := List.sublist_nil.mp (none ▸ h.list)
    rw [empty]
    exact fun _ hk => absurd hk List.not_mem_nil
  · rw [state]
    split <;> nofun

theorem Unmoved.runCleared {n : Nat} (h : Unmoved p n t) : Unmoved p n (Machine.runCleared p t) := by
  have printer := runCleared_printer p t
  refine ⟨?_, ?_, ?_⟩ <;> rw [printer]
  · exact h.unmarked
  · exact h.still
  · exact h.unacknowledged

/-- A PRINTED entry as the line brings it. -/
def printedAs (token : Byte) : OutcomeEntry := { token := token, outcome := 1#8, k := 0#8, cause := 0#8 }

theorem printedAs_inRange (known : token ≠ 0xFF#8) : entryInRange (printedAs token) = true := by
  simp [entryInRange, printedAs, known]

theorem remaining_used (loaded : m.loaded = true) (used : Nat) (left : m.next + used ≤ m.last + 1) {m' : Magazine}
    (same : m'.loaded = m.loaded ∧ m'.last = m.last ∧ m'.next = m.next + used) :
    remaining m' = 0 ↔ m.next + used = m.last + 1 := by
  obtain ⟨load, last, next⟩ := same
  unfold remaining
  rw [load, loaded, last, next, if_pos rfl]
  omega

theorem remaining_printed (loaded : m.loaded = true) (left : m.next ≤ m.last) (token : Byte) :
    remaining (printedMagazine token m) = 0 ↔ m.next = m.last := by
  rw [remaining_used (m' := printedMagazine token m) loaded 1 (by omega) ⟨rfl, rfl, rfl⟩]
  omega

theorem remaining_tested (loaded : m.loaded = true) (left : m.next ≤ m.last) (token : Byte) :
    remaining (testedMagazine token m) = 0 ↔ m.next = m.last := by
  rw [remaining_used (m' := testedMagazine token m) loaded 1 (by omega) ⟨rfl, rfl, rfl⟩]
  omega

/-- What a PRINTED outcome of a window's job leaves (R63, R139). -/
structure PrintedForWindow (p : PrinterId) (i : JobIx) (j : Job) (w : WindowId) (y : Tender) (c : Tally) (s t : State) :
    Prop where
  ended : OutcomeEnded p i (outcomeEntry s i j .printed 0) (printedMagazine (tokenOf s i) s.magazines[p]) s.register
    s.dayTotals s t
  tally : TallyChanged w j.shift
    { addPrinted y j.amount j.quantity s.settings.clock c with openJobs := c.openJobs - 1 } s t

theorem takePrinted_forWindow (ready : s.printers[p].state = .ready) (job : jobAt s i = some j) (own : j.printer = some p)
    (state : j.state = .sending ∨ j.state = .sent) (window : j.window = some w) (tender : j.tender = some y)
    (before : tallyOf s w j.shift = some tally) (more : j.shift = s.current[w].shift ∨ 1 < tally.openJobs)
    (order : List JobIx) : ∃ t, takePrinted order p i j s = runCleared p t ∧ PrintedForWindow p i j w y tally s t := by
  have used := (stockWritten_setMagazine p (printedMagazine (tokenOf s i) s.magazines[p]) s).used ready order
  refine ⟨_, takePrinted_window window tender, ?_⟩
  generalize magazineChanged order p (setMagazine p (printedMagazine (tokenOf s i) s.magazines[p]) s) = c at *
  rw [used.settings]
  have tallies : tallyOf c w j.shift = some tally := by
    rw [← before]
    unfold tallyOf
    rw [show c.current = s.current from congrArg Books.current used.books,
      show c.closing = s.closing from congrArg Books.closing used.books]
  obtain ⟨keepsShift, keepsOpen⟩ := addPrinted_keeps y j.amount j.quantity s.settings.clock tally
  have changed := modTally_changed (f := addPrinted y j.amount j.quantity s.settings.clock) tallies keepsShift
  have currents : c.current = s.current := congrArg Books.current used.books
  obtain ⟨current, closing, e⟩ := modTally_eq w j.shift (addPrinted y j.amount j.quantity s.settings.clock) c
  have ended := used.ended (current := current) (closing := closing) job own state .printed 0
  rw [← e] at ended
  have flying : isGranted s i = false := by
    obtain state | state := state <;> simp [isGranted, jobIs, job, state]
  have job' : jobAt (modTally w j.shift (addPrinted y j.amount j.quantity s.settings.clock) c) i = some j := by
    rw [e]
    exact (jobAt_congr (used.jobs i flying)).trans job
  have lowered := finishJob_tally job' window changed.tally
    (by rw [changed.shift, keepsOpen, currents]; exact more) .printed 0
  have both := changed.trans lowered
  rw [keepsOpen] at both
  exact ⟨ended, both.tally, both.shift.trans (by rw [currents]), fun v hv => (both.others v hv).trans (by rw [currents])⟩

/-! ### The exchange -/

theorem tallyOf_replyTaken (p : PrinterId) (s : State) (w : WindowId) (shift : Nat) :
    tallyOf (replyTaken p s) w shift = tallyOf s w shift := by
  unfold tallyOf
  rfl

theorem placeLaw_replyTaken (place : PlaceLaw s) (p : PrinterId) : PlaceLaw (replyTaken p s) := by
  refine (placeLaw_iff _).mpr (Eq.mp (congrArg JobView.Placed ?_) ((placeLaw_iff s).mp place))
  unfold jobView jobAt
  rfl

theorem isGranted_replyTaken (p : PrinterId) (s : State) (k : JobIx) : isGranted (replyTaken p s) k = isGranted s k := by
  unfold isGranted jobIs jobAt
  rfl

/-- A printer after a PRINTED outcome and clean flags. -/
theorem entryOver_runCleared (l : LineId) (p : PrinterId) (token : Byte) (s t : State) :
    (entryOver l p token s (runCleared p t)).printers[p] = { t.printers[p] with spoilRun := 0, lastFlags := 1#5 } := by
  rw [entryOver_printer, runCleared_printer]

/-- A job taken PRINTED is out of its printer's list, and the printer READY or EMPTY. -/
theorem OutcomeEnded.printed (h : OutcomeEnded p i e m g d s t) (l : LineId) (token : Byte) (r : State) :
    let v := entryOver l p token r (runCleared p t)
    i ∉ v.printers[p].outstanding ∧ v.printers[p].spoilRun = 0 ∧
      v.printers[p].state = (if remaining m = 0 then .empty else .ready) ∧
      (remaining m = 0 → v.printers[p].hold = none ∧
        (PlaceLaw s → ∀ k ∈ s.printers[p].outstanding, isGranted s k = true → k ∉ v.printers[p].outstanding)) := by
  dsimp only
  rw [entryOver_runCleared]
  refine ⟨fun listed => ?_, rfl, (congrArg Printer.state h.standing : _), fun out => ⟨h.emptied out, h.leaves out⟩⟩
  have left := h.list.subset listed
  simp at left

theorem status_printed_window (h : awaiting s l x) (poll : x.command = .poll) (few : waiting.toNat ≤ 2)
    (ready : s.printers[x.printer].state = .ready) (unmarked : s.printers[x.printer].notReady = none)
    (flight : inFlightAs s x.printer token i j) (window : j.window = some w) (tender : j.tender = some y)
    (before : tallyOf s w j.shift = some tally) (more : j.shift = s.current[w].shift ∨ 1 < tally.openJobs)
    (loaded : s.magazines[x.printer].loaded = true) (serial : j.serial = some s.magazines[x.printer].next)
    (blanks : s.magazines[x.printer].next ≤ s.magazines[x.printer].last)
    (quiet : s.magazines[x.printer].next < s.magazines[x.printer].last ∨ 1 ≤ waiting.toNat ∨
      s.printers[x.printer].outstanding = [i]) :
    ∃ t, exec (.status l (BitVec.ofNat 8 (x.printer.val % 8 + 1)) 1#8 waiting [printedAs token]) s =
        .next (entryOver l x.printer token s (runCleared x.printer t)) ∧
      PrintedForWindow x.printer i j w y tally (replyTaken x.printer s) t := by
  let r := replyTaken x.printer s
  have right : r.magazines[x.printer].loaded = true ∧ j.serial = some r.magazines[x.printer].next := ⟨loaded, serial⟩
  have flying := flight
  obtain ⟨known, -, -, -, job, state, own⟩ := flight
  obtain ⟨t, taken, printed⟩ := takePrinted_forWindow (s := r) ready job own state window tender
    ((tallyOf_replyTaken ..).trans before) more s.printers[x.printer].outstanding
  refine ⟨t, exec_status_entry h poll few flying (printedAs_inRange known)
    ((takeOutcome_printed right rfl 1#5).trans taken) (printed.ended.unmoved unmarked ?_).runCleared printed.ended.lines, printed⟩
  refine quiet.imp (fun early => ?_) (Or.imp_left fun some_ => ?_)
  · exact fun out => Nat.ne_of_lt early ((remaining_printed (m := r.magazines[x.printer]) loaded blanks _).mp out)
  · omega

/-! ### Test prints (R143) -/

theorem stockWritten_tested (p : PrinterId) (token : Byte) (s : State) :
    StockWritten p (testedMagazine token s.magazines[p]) (addEntry (spoiledEntry s p s.magazines[p].next none 0 .test) s.register)
      (countSpoils .test 1 s.dayTotals) s (setMagazine p (testedMagazine token s.magazines[p])
        (disposeBlank p s.magazines[p].next none 0 .test .spoiled s)) := by
  obtain ⟨marks, e⟩ := setMagazine_eq p (testedMagazine token s.magazines[p])
    (disposeBlank p s.magazines[p].next none 0 .test .spoiled s)
  exact ⟨marks, e⟩

/-- What a PRINTED outcome of a test print leaves (R143). -/
structure PrintedForTest (p : PrinterId) (i : JobIx) (j : Job) (s t : State) : Prop where
  ended : OutcomeEnded p i (outcomeEntry s i j .printed 0) (testedMagazine (tokenOf s i) s.magazines[p])
    (addEntry (spoiledEntry s p s.magazines[p].next none 0 .test) s.register) (countSpoils .test 1 s.dayTotals) s t
  current : t.current = s.current
  closing : t.closing = s.closing

theorem takePrinted_forTest (ready : s.printers[p].state = .ready) (job : jobAt s i = some j) (own : j.printer = some p)
    (state : j.state = .sending ∨ j.state = .sent) (test : j.window = none) (order : List JobIx) :
    ∃ t, takePrinted order p i j s = runCleared p t ∧ PrintedForTest p i j s t := by
  have used := (stockWritten_tested p (tokenOf s i) s).used ready order
  refine ⟨_, takePrinted_test test, ?_⟩
  generalize magazineChanged order p _ = c at *
  have ended := used.ended (current := c.current) (closing := c.closing) job own state .printed 0
  have flying : isGranted s i = false := by
    obtain state | state := state <;> simp [isGranted, jobIs, job, state]
  have same := (finishJob_test_books ((jobAt_congr (used.jobs i flying)).trans job) test .printed 0).trans used.books
  exact ⟨ended, congrArg Books.current same, congrArg Books.closing same⟩

theorem status_printed_test (h : awaiting s l x) (poll : x.command = .poll) (few : waiting.toNat ≤ 2)
    (ready : s.printers[x.printer].state = .ready) (unmarked : s.printers[x.printer].notReady = none)
    (flight : inFlightAs s x.printer token i j) (test : j.window = none)
    (loaded : s.magazines[x.printer].loaded = true) (serial : j.serial = some s.magazines[x.printer].next)
    (blanks : s.magazines[x.printer].next < s.magazines[x.printer].last) :
    ∃ t, exec (.status l (BitVec.ofNat 8 (x.printer.val % 8 + 1)) 1#8 waiting [printedAs token]) s =
        .next (entryOver l x.printer token s (runCleared x.printer t)) ∧
      PrintedForTest x.printer i j (replyTaken x.printer s) t ∧
      remaining (testedMagazine token s.magazines[x.printer]) ≠ 0 := by
  let r := replyTaken x.printer s
  have right : r.magazines[x.printer].loaded = true ∧ j.serial = some r.magazines[x.printer].next := ⟨loaded, serial⟩
  have flying := flight
  obtain ⟨known, -, -, -, job, state, own⟩ := flight
  obtain ⟨t, taken, printed⟩ := takePrinted_forTest (s := r) ready job own state test s.printers[x.printer].outstanding
  have left (other : Byte) : remaining (testedMagazine other s.magazines[x.printer]) ≠ 0 :=
    fun out => Nat.ne_of_lt blanks ((remaining_tested loaded (Nat.le_of_lt blanks) other).mp out)
  exact ⟨t, exec_status_entry h poll few flying (printedAs_inRange known) ((takeOutcome_printed right rfl 1#5).trans taken)
    (printed.ended.unmoved unmarked (.inl (left _))).runCleared printed.ended.lines, printed, left token⟩

end

end Sys2Proof.Machine
end
section
/-! PROOF. SPOILED outcomes: blanks and job (R65, R123, R140, R143). -/

namespace Sys2Proof.Machine

/-- A magazine with blanks of its only note's job spoiled (R140). -/
def spoiledMagazine (used : Nat) (m : Magazine) : Magazine :=
  { m with next := m.next + used, spoiled := m.spoiled + used, notes := [] }

/-- The register with a run of spoiled blanks (R152). -/
def spoiledRegister (s : State) (p : PrinterId) (used : Nat) (window : Option WindowId) (shift : Nat) (cause : SpoilCause) :
    SpoilRegister :=
  (List.range used).foldl (fun g d => addEntry (spoiledEntry s p (s.magazines[p].next + d) window shift cause) g) s.register

/-- The Day Totals with a run of spoiled blanks counted (R165). -/
def spoiledTotals (used : Nat) (cause : SpoilCause) (d : DayTotals) : DayTotals :=
  (List.range used).foldl (fun d _ => countSpoils cause 1 d) d

/-- The only job of a READY printer whose blanks are spoiled. -/
structure SpoiledAlone (s : State) (p : PrinterId) (i : JobIx) (j : Job) (asked used : Nat) : Prop where
  ready : s.printers[p].state = .ready
  place : PlaceLaw s
  alone : s.printers[p].outstanding = [i]
  job : jobAt s i = some j
  own : j.printer = some p
  state : j.state = .sending ∨ j.state = .sent
  loaded : s.magazines[p].loaded = true
  noted : ∃ n : Note, s.magazines[p].notes = [n] ∧ n.token = tokenOf s i
  used : used = min asked (s.magazines[p].last + 1 - s.magazines[p].next)

/-- What a SPOILED outcome has made of its printer before the spoil run is judged (R124). -/
structure SpoilTaken (p : PrinterId) (m : Magazine) (g : SpoilRegister) (d : DayTotals) (s t : State) : Prop where
  list : t.printers[p].outstanding = []
  standing : t.printers[p].standing = { s.printers[p].standing with
    state := if remaining m = 0 then .empty else .ready }
  emptied : remaining m = 0 → t.printers[p].hold = none
  lines : t.lines = s.lines
  settings : t.settings = s.settings
  magazines : t.magazines = put s.magazines p m
  register : t.register = g
  spoils : ∀ cause, spoilsCount t.dayTotals cause = spoilsCount d cause

section
variable {s t u v c : State} {p : PrinterId} {order : List JobIx} {i k : JobIx} {j : Job} {w : WindowId} {m : Magazine}
  {g : SpoilRegister} {d : DayTotals} {cause : SpoilCause} {asked used shift : Nat} {window : Option WindowId}
  {e : ReturnEntry} {tally : Tally} {f : BitVec 5}

/-! ### Blanks -/

theorem forEach_disposeBlank (next : Nat) (l : List Nat) : forEach l (fun n => disposeBlank p (next + n) window shift cause .spoiled) s =
    { s with
      register := l.foldl (fun g d => addEntry (spoiledEntry s p (next + d) window shift cause) g) s.register
      dayTotals := l.foldl (fun d _ => countSpoils cause 1 d) s.dayTotals } := by
  induction l generalizing s with
  | nil => rfl
  | cons n rest ih => exact ih

theorem countSpoils_one (cause : SpoilCause) (d : DayTotals) :
    spoilsCount (countSpoils cause 1 d) cause = min 65535 (spoilsCount d cause + 1) := by
  cases cause <;> rfl

theorem spoiledTotals_count (some_ : 1 ≤ used) (cause : SpoilCause) (d : DayTotals) :
    spoilsCount (spoiledTotals used cause d) cause = min 65535 (spoilsCount d cause + used) := by
  have counted (l : List Nat) (n : Nat) (d : DayTotals) :
      spoilsCount ((n :: l).foldl (fun d _ => countSpoils cause 1 d) d) cause =
        min 65535 (spoilsCount d cause + (l.length + 1)) := by
    induction l generalizing n d with
    | nil => exact countSpoils_one cause d
    | cons a rest ih =>
      refine (ih a (countSpoils cause 1 d)).trans ?_
      rw [countSpoils_one, List.length_cons]
      omega
  obtain ⟨n, rfl⟩ := Nat.exists_eq_add_of_le' some_
  unfold spoiledTotals
  rw [List.range_succ_eq_map, counted, List.length_map, List.length_range]

theorem SpoiledAlone.clamped (h : SpoiledAlone s p i j asked used) : clampedK s.magazines[p] asked = used := by
  obtain ⟨n, notes, -⟩ := h.noted
  unfold clampedK remaining transmitted
  rw [h.loaded, notes, h.used]
  rfl

theorem SpoiledAlone.spoilBlanks (h : SpoiledAlone s p i j asked used) (cause : SpoilCause) (order : List JobIx) :
    ∃ b, Machine.spoilBlanks order p i j used cause s = magazineChanged order p b ∧
      StockWritten p (spoiledMagazine used s.magazines[p]) (spoiledRegister s p used j.window j.shift cause)
        (spoiledTotals used cause s.dayTotals) s b := by
  obtain ⟨n, notes, token⟩ := h.noted
  have dropped : dropNote (tokenOf s i) s.magazines[p] = { s.magazines[p] with notes := [] } := by
    unfold dropNote
    rw [notes, ← token]
    simp
  let b := setMagazine p (spoiledMagazine used s.magazines[p]) (forEach (List.range used)
    (fun n => disposeBlank p (s.magazines[p].next + n) j.window j.shift cause .spoiled) s)
  obtain ⟨marks, written⟩ := setMagazine_eq p (spoiledMagazine used s.magazines[p]) (forEach (List.range used)
    (fun n => disposeBlank p (s.magazines[p].next + n) j.window j.shift cause .spoiled) s)
  have still : moveNote p (s.magazines[p].next + used) b = b := by
    have none : b.magazines[p].notes = [] := by
      unfold b
      rw [written]
      exact congrArg Magazine.notes (put_get_self ..)
    unfold moveNote
    dsimp only
    rw [none]
  refine ⟨b, ?_, marks, ?_⟩
  · unfold Machine.spoilBlanks
    dsimp only
    refine congrArg (magazineChanged order p) ?_
    have token' : tokenOf (forEach (List.range used)
        (fun n => disposeBlank p (s.magazines[p].next + n) j.window j.shift cause .spoiled) s) i = tokenOf s i := by
      rw [forEach_disposeBlank]
      rfl
    rw [token', dropped]
    exact still
  · unfold b
    rw [written, forEach_disposeBlank]
    rfl

theorem SpoiledAlone.granted (h : SpoiledAlone s p i j asked used) : isGranted s i = false := by
  obtain state | state := h.state <;> simp [isGranted, jobIs, h.job, state]

theorem SpoiledAlone.blanks (h : SpoiledAlone s p i j asked used) (cause : SpoilCause) (order : List JobIx) :
    let c := Machine.spoilBlanks order p i j used cause s
    BlanksUsed p (spoiledMagazine used s.magazines[p]) (spoiledRegister s p used j.window j.shift cause)
      (spoiledTotals used cause s.dayTotals) s c ∧ jobView c = jobView s ∧ c.port.returns = s.port.returns := by
  obtain ⟨b, changed, written⟩ := h.spoilBlanks cause order
  have used := written.used h.ready order
  have quiet := used.quiet fun k hk => by
    rw [h.alone] at hk
    rw [List.mem_singleton.mp hk]
    exact h.granted
  rw [changed]
  exact ⟨used, quiet⟩

/-! ### The job -/

theorem OutcomeEnded.spoilTaken (h : OutcomeEnded p i e m g d s t) (alone : s.printers[p].outstanding = [i]) :
    SpoilTaken p m g d s t := by
  have none : s.printers[p].outstanding.filter (· != i) = [] := by
    rw [alone]
    simp
  exact ⟨List.sublist_nil.mp (none ▸ h.list), h.standing, h.emptied, h.lines, h.settings, h.magazines, h.register, h.spoils⟩

/-- A job with one reprint more (R140). -/
def Job.reprinted (j : Job) : Job := { j with reprints := j.reprints + 1 }

/-- What a SPOILED outcome makes of blanks, charge and job (R65, R140). -/
def spoilDealt (order : List JobIx) (p : PrinterId) (i : JobIx) (j : Job) (used : Nat) (cause : SpoilCause) (s : State) : State :=
  let ended := finishJob i .spoiled (spoilCauseCode cause + 256 * used)
  let c := Machine.spoilBlanks order p i j used cause s
  match j.window with
  | some w =>
    let t := modTally w j.shift (addSpoils used) c
    if j.reprints < t.settings.reprintLimit then requeue order p w i (modJob i Job.reprinted t) else ended t
  | none => ended c

/-- What a SPOILED outcome leaves of a window's job: its place, and the charge to its shift's tally (R65, R140). -/
structure SpoiledForWindow (p : PrinterId) (i : JobIx) (j : Job) (w : WindowId) (used : Nat) (cause : SpoilCause) (tally : Tally)
    (s t : State) : Prop where
  taken : SpoilTaken p (spoiledMagazine used s.magazines[p]) (spoiledRegister s p used (some w) j.shift cause)
    (spoiledTotals used cause s.dayTotals) s t
  reprint : j.reprints < s.settings.reprintLimit →
    CameBack p i j.reprinted w s t ∧ TallyChanged w j.shift (addSpoils used tally) s t
  ended : s.settings.reprintLimit ≤ j.reprints →
    jobAt t i = none ∧ i ∈ t.freeStack ∧ outcomeEntry s i j .spoiled (spoilCauseCode cause + 256 * used) ∈ t.port.returns ∧
      TallyChanged w j.shift { addSpoils used tally with openJobs := (addSpoils used tally).openJobs - 1 } s t

/-- The charge of spoiled blanks to the tally of their job's shift (R65). -/
theorem SpoiledAlone.charged (h : SpoiledAlone s p i j asked used) (before : tallyOf s w j.shift = some tally)
    (cause : SpoilCause) (order : List JobIx) :
    TallyChanged w j.shift (addSpoils used tally) s
      (modTally w j.shift (addSpoils used) (Machine.spoilBlanks order p i j used cause s)) := by
  let c := Machine.spoilBlanks order p i j used cause s
  obtain ⟨blanks, -, -⟩ := h.blanks cause order
  have currents : c.current = s.current := congrArg Books.current blanks.books
  have tallies : tallyOf c w j.shift = some tally := by
    rw [← before]
    unfold tallyOf
    rw [currents, show c.closing = s.closing from congrArg Books.closing blanks.books]
  have changed := modTally_changed (f := addSpoils used) tallies rfl
  exact ⟨changed.tally, changed.shift.trans (by rw [currents]), fun v hv => (changed.others v hv).trans (by rw [currents])⟩

theorem SpoiledAlone.reprint (h : SpoiledAlone s p i j asked used) (window : j.window = some w)
    (before : tallyOf s w j.shift = some tally) (cause : SpoilCause) :
    let t := requeue [i] p w i (modJob i Job.reprinted (modTally w j.shift (addSpoils used)
      (Machine.spoilBlanks [i] p i j used cause s)))
    SpoilTaken p (spoiledMagazine used s.magazines[p]) (spoiledRegister s p used (some w) j.shift cause)
      (spoiledTotals used cause s.dayTotals) s t ∧
    CameBack p i j.reprinted w s t ∧ TallyChanged w j.shift (addSpoils used tally) s t := by
  have charged := h.charged before cause [i]
  obtain ⟨blanks, view, returns⟩ := h.blanks cause [i]
  rw [window] at blanks
  generalize Machine.spoilBlanks [i] p i j used cause s = c at *
  obtain ⟨current, closing, e⟩ := modTally_eq w j.shift (addSpoils used) c
  dsimp only
  rw [e] at charged ⊢
  let u : State := modJob i Job.reprinted { c with current := current, closing := closing }
  have alone : u.printers[p].outstanding = [i] := (congrArg (JobView.lists · p) view).trans h.alone
  have queues : u.queues[w] = s.queues[w] := congrArg (JobView.queues · w) view
  have record : c.jobs[i].job = some j := (congrArg JobRecord.job (blanks.jobs i h.granted)).trans h.job
  have job : jobAt u i = some j.reprinted := by
    refine (congrArg JobRecord.job (upd_get_self c.jobs i fun r => { r with job := r.job.map Job.reprinted })).trans ?_
    exact congrArg (Option.map Job.reprinted) record
  have fresh : i ∉ u.queues[w] := by
    rw [queues]
    exact h.place.unqueued (p := p) (by rw [h.alone]; exact List.mem_singleton_self i) w
  have back := requeue_cameBack alone job fresh
  obtain ⟨records, marks, requeued⟩ := requeue_alone alone job fresh
  have printer : (requeue [i] p w i u).printers[p] = { c.printers[p] with outstanding := [] } := by
    rw [requeued]
    exact put_get_self ..
  have charged' : TallyChanged w j.shift (addSpoils used tally) s (requeue [i] p w i u) := by
    rw [requeued]
    exact ⟨charged.tally, charged.shift, charged.others⟩
  refine ⟨⟨back.list, ?_, fun out => ?_, ?_, ?_, ?_, ?_, fun cause' => ?_⟩,
    ⟨back.job, back.queue.trans (by rw [queues]), back.list, back.returns.trans returns⟩, charged'⟩
  · rw [printer]
    exact blanks.standing
  · rw [printer]
    exact blanks.emptied out
  · rw [requeued]
    exact blanks.lines
  · rw [requeued]
    exact blanks.settings
  · rw [requeued]
    exact congrArg Books.magazines blanks.books
  · rw [requeued]
    exact congrArg Books.register blanks.books
  · rw [requeued]
    exact congrArg (fun x => spoilsCount (Books.dayTotals x) cause') blanks.books

theorem SpoiledAlone.dealt_window (h : SpoiledAlone s p i j asked used) (window : j.window = some w)
    (before : tallyOf s w j.shift = some tally) (more : j.shift = s.current[w].shift ∨ 1 < tally.openJobs)
    (cause : SpoilCause) : SpoiledForWindow p i j w used cause tally s (spoilDealt [i] p i j used cause s) := by
  obtain ⟨blanks, -, -⟩ := h.blanks cause [i]
  have charged := h.charged before cause [i]
  have reprint := h.reprint window before cause
  unfold spoilDealt
  dsimp only
  rw [window] at blanks ⊢
  dsimp only
  generalize Machine.spoilBlanks [i] p i j used cause s = c at *
  obtain ⟨current, closing, e⟩ := modTally_eq w j.shift (addSpoils used) c
  have settings : (modTally w j.shift (addSpoils used) c).settings = s.settings := by
    rw [e]
    exact blanks.settings
  rw [settings]
  by_cases again : j.reprints < s.settings.reprintLimit
  · rw [if_pos again]
    exact ⟨reprint.1, fun _ => reprint.2, fun full => absurd again (Nat.not_lt.mpr full)⟩
  · rw [if_neg again]
    have ended := blanks.ended (current := current) (closing := closing) h.job h.own h.state .spoiled
      (spoilCauseCode cause + 256 * used)
    have job : jobAt (modTally w j.shift (addSpoils used) c) i = some j := by
      rw [e]
      exact (jobAt_congr (blanks.jobs i h.granted)).trans h.job
    have lowered := finishJob_tally job window charged.tally (by rw [charged.shift]; exact more) .spoiled
      (spoilCauseCode cause + 256 * used)
    rw [← e] at ended
    exact ⟨ended.spoilTaken h.alone, fun few => absurd few again, fun _ =>
      ⟨ended.gone, ended.stack, ended.entry, charged.trans lowered⟩⟩

/-- What a SPOILED outcome leaves of a test print (R143). -/
structure SpoiledForTest (p : PrinterId) (i : JobIx) (j : Job) (used : Nat) (cause : SpoilCause) (s t : State) : Prop where
  taken : SpoilTaken p (spoiledMagazine used s.magazines[p]) (spoiledRegister s p used none j.shift cause)
    (spoiledTotals used cause s.dayTotals) s t
  gone : jobAt t i = none
  stack : i ∈ t.freeStack
  entry : outcomeEntry s i j .spoiled (spoilCauseCode cause + 256 * used) ∈ t.port.returns
  current : t.current = s.current
  closing : t.closing = s.closing

theorem SpoiledAlone.dealt_test (h : SpoiledAlone s p i j asked used) (test : j.window = none) (cause : SpoilCause) :
    SpoiledForTest p i j used cause s (spoilDealt [i] p i j used cause s) := by
  obtain ⟨blanks, -, -⟩ := h.blanks cause [i]
  unfold spoilDealt
  dsimp only
  rw [test] at blanks ⊢
  dsimp only
  generalize Machine.spoilBlanks [i] p i j used cause s = c at *
  have ended := blanks.ended (current := c.current) (closing := c.closing) h.job h.own h.state .spoiled
    (spoilCauseCode cause + 256 * used)
  have same := (finishJob_test_books ((jobAt_congr (blanks.jobs i h.granted)).trans h.job) test .spoiled
    (spoilCauseCode cause + 256 * used)).trans blanks.books
  exact ⟨ended.spoilTaken h.alone, ended.gone, ended.stack, ended.entry, congrArg Books.current same,
    congrArg Books.closing same⟩

end

end Sys2Proof.Machine
end
section
/-! PROOF. SPOILED outcomes: the spoil run and its fault (R124), and the exchange's end. -/

namespace Sys2Proof.Machine

/-- A fault's work, or none, after a job has been dealt with: jobs, entries and books stand. -/
structure RunJudged (s t : State) : Prop where
  view : jobView t = jobView s
  returns : t.port.returns = s.port.returns
  books : books t = books s
  jobs : ∀ k : JobIx, isGranted s k = false → t.jobs[k] = s.jobs[k]

/-- The fault of a spoil run (R124; the serial is the one the job had, log 44). -/
def spoilRunInfo (f : BitVec 5) (token : Byte) (serial : Option Nat) : FaultInfo :=
  { cause := .spoilRun, flags := some f, token := some token, serial := serial, own := false }

/-- The spoil run one longer (R124). -/
def runRaised (p : PrinterId) (s : State) : State := modPrinter p (fun x => { x with spoilRun := x.spoilRun + 1 }) s

/-- The spoil run is judged against its limit (R124). -/
def spoilJudged (order : List JobIx) (p : PrinterId) (f : FaultInfo) (s : State) : State :=
  let u := runRaised p s
  if u.settings.spoilRunLimit ≤ u.printers[p].spoilRun then runCleared p (raiseFault order p f u) else u

section
variable {s t u v r : State} {l : LineId} {x : Exchange} {p : PrinterId} {order : List JobIx} {token waiting : Byte}
  {i k : JobIx} {j : Job} {m : Magazine} {g : SpoilRegister} {d : DayTotals} {cause : SpoilCause} {asked used : Nat}
  {e : OutcomeEntry} {f : BitVec 5} {info : FaultInfo}

/-! ### The outcome -/

theorem takeSpoiled_eq : takeSpoiled order p i j f asked cause s =
    spoilJudged order p (spoilRunInfo f (tokenOf s i) j.serial)
      (spoilDealt order p i j (clampedK s.magazines[p] asked) cause s) := by
  unfold takeSpoiled spoilDealt spoilJudged runRaised runCleared spoilRunInfo Job.reprinted
  cases window : j.window <;> simp only

theorem takeOutcome_spoiled (right : s.magazines[p].loaded = true ∧ j.serial = some s.magazines[p].next)
    (outcome : e.outcome = 2#8) (known : spoilCauseOf e.cause = some cause) :
    takeOutcome order p f e i j s = takeSpoiled order p i j f e.k.toNat cause s := by
  have consistent : consistent s p j = true := by
    unfold Machine.consistent
    rw [right.1, right.2]
    exact beq_self_eq_true _
  unfold takeOutcome
  rw [if_neg (by rw [outcome]; decide), if_pos consistent, if_neg (by rw [outcome]; decide), known, Option.getD_some]

/-! ### The spoil run -/

theorem runRaised_printer (p : PrinterId) (s : State) :
    (runRaised p s).printers[p] = { s.printers[p] with spoilRun := s.printers[p].spoilRun + 1 } := upd_get_self ..

theorem runJudged_modPrinter {f : Printer → Printer} (lists : ∀ x, (f x).outstanding = x.outstanding) (s : State) :
    RunJudged s (modPrinter p f s) := ⟨jobView_modPrinter lists, rfl, rfl, fun _ _ => rfl⟩

theorem RunJudged.trans (h : RunJudged s t) (k : RunJudged t u) : RunJudged s u :=
  ⟨k.view.trans h.view, k.returns.trans h.returns, k.books.trans h.books, fun i hi =>
    (k.jobs i ((isGranted_congr (h.jobs i hi)).trans hi)).trans (h.jobs i hi)⟩

theorem runJudged_raiseFault (serving : s.printers[p].serving) (clears : info.cause.requestsClear = true)
    (none : s.printers[p].outstanding = []) (order : List JobIx) : RunJudged s (raiseFault order p info s) := by
  have sent := (raiseFault_raised (f := info) serving clears order).sent
  obtain ⟨view, returns⟩ := raiseFault_quiet (f := info) serving clears
    (fun k hk => absurd (none ▸ hk) List.not_mem_nil) order
  exact ⟨view, returns, sent.books, sent.jobs⟩

/-- A spoil run below its limit. -/
theorem spoilJudged_below (few : s.printers[p].spoilRun + 1 < s.settings.spoilRunLimit) :
    spoilJudged order p info s = runRaised p s := by
  have printer := runRaised_printer p s
  unfold spoilJudged
  dsimp only
  rw [printer]
  exact if_neg (Nat.not_le.mpr few)

theorem spoilJudged_limit (full : s.settings.spoilRunLimit ≤ s.printers[p].spoilRun + 1) :
    spoilJudged order p info s = runCleared p (raiseFault order p info (runRaised p s)) := by
  have printer := runRaised_printer p s
  unfold spoilJudged
  dsimp only
  rw [printer]
  exact if_pos full

theorem SpoilTaken.serving (h : SpoilTaken p m g d s t) : t.printers[p].state = .ready ∨ t.printers[p].state = .empty := by
  have state : t.printers[p].state = if remaining m = 0 then .empty else .ready := (congrArg Printer.state h.standing : _)
  rw [state]
  split
  · exact .inr rfl
  · exact .inl rfl

/-- A fault that names its flags shows the same from any standing of its printer. -/
theorem firstFault_flags (flags : info.flags.isSome = true) (a b : Printer) (clock : Word) :
    firstFault info a clock = firstFault info b clock := by
  obtain ⟨shown, flags⟩ := Option.isSome_iff_exists.mp flags
  unfold firstFault
  rw [flags]
  rfl

/-- A spoil run at its limit faults the printer, READY or just EMPTY. -/
theorem SpoilTaken.stands (h : SpoilTaken p m g d s t) (clears : info.cause.requestsClear = true) (own : info.own = false)
    (flags : info.flags.isSome = true) (order : List JobIx) :
    StandsFaulted p info s (runCleared p (raiseFault order p info (runRaised p t))) ∧
      RunJudged t (runCleared p (raiseFault order p info (runRaised p t))) := by
  let u := runRaised p t
  have printer : u.printers[p] = { t.printers[p] with spoilRun := t.printers[p].spoilRun + 1 } := runRaised_printer p t
  have serving : u.printers[p].serving := by
    rw [printer]
    exact h.serving.imp_right .inl
  have lists : u.printers[p].outstanding = [] := by
    rw [printer]
    exact h.list
  have raised := raiseFault_raised (f := info) serving clears order
  have stands := raiseFault_stands (f := info) serving clears own order
  have carried := runJudged_raiseFault (info := info) serving clears lists order
  have lines : u.lines = s.lines := h.lines
  have settings : u.settings = s.settings := h.settings
  have state : t.printers[p].state = if remaining m = 0 then .empty else .ready := (congrArg Printer.state h.standing : _)
  have empty : t.printers[p].hold = none → u.printers[p].hold = none := by
    rw [printer]
    exact id
  have moved : RunJudged t u := runJudged_modPrinter (f := fun x => { x with spoilRun := x.spoilRun + 1 }) (fun _ => rfl) t
  change StandsFaulted p info s (runCleared p (raiseFault order p info u)) ∧
    RunJudged t (runCleared p (raiseFault order p info u))
  generalize raiseFault order p info u = y at *
  have cleared := runCleared_printer p y
  obtain ⟨latest, further, fault⟩ := stands.fault
  have since : StandsFaulted p info s y := by
    refine ⟨stands.state, ⟨latest, further, ?_⟩, stands.unmarked, fun _ => ?_, stands.clears, stands.mark, stands.unselected,
      fun k => (stands.phases k).trans (by rw [lines])⟩
    · rw [fault, settings, firstFault_flags flags u.printers[p] s.printers[p]]
    · by_cases out : remaining m = 0
      · exact raised.sent.holds p (empty (h.emptied out))
      · refine stands.hold ?_
        rw [printer]
        exact state.trans (if_neg out)
  refine ⟨since.keeps ?_ ?_ ?_ ?_ rfl id fun _ => rfl, (moved.trans carried).trans
    (runJudged_modPrinter (f := fun x => { x with spoilRun := 0 }) (fun _ => rfl) y)⟩
  · rw [cleared]
  · rw [cleared]
  · rw [cleared]
  · rw [cleared]
    exact id

/-! ### The exchange -/

/-- A SPOILED outcome at the end of its exchange: the spoil run is one longer, or at its limit 0 again behind a fault. -/
structure SpoilOver (l : LineId) (p : PrinterId) (token : Byte) (m : Magazine) (info : FaultInfo) (s t v : State) : Prop where
  carried : RunJudged t v
  below : s.printers[p].spoilRun + 1 < s.settings.spoilRunLimit →
    v.printers[p].spoilRun = s.printers[p].spoilRun + 1 ∧
      v.printers[p].state = if remaining m = 0 then .empty else .ready
  limit : s.settings.spoilRunLimit ≤ s.printers[p].spoilRun + 1 →
    StandsFaulted p info s (entryOver l p token s v) ∧ v.printers[p].spoilRun = 0

theorem status_spoiled (h : awaiting s l x) (poll : x.command = .poll) (few : waiting.toNat ≤ 2)
    (unmarked : s.printers[x.printer].notReady = none) (flight : inFlightAs s x.printer e.token i j)
    (inRange : entryInRange e = true)
    (effect : takeOutcome s.printers[x.printer].outstanding x.printer 1#5 e i j (replyTaken x.printer s) =
      spoilJudged s.printers[x.printer].outstanding x.printer info t)
    (taken : SpoilTaken x.printer m g d (replyTaken x.printer s) t) (clears : info.cause.requestsClear = true)
    (own : info.own = false) (flags : info.flags.isSome = true) :
    ∃ v, exec (.status l (BitVec.ofNat 8 (x.printer.val % 8 + 1)) 1#8 waiting [e]) s =
        .next (entryOver l x.printer e.token s v) ∧ SpoilOver l x.printer e.token m info s t v := by
  have run : t.printers[x.printer].spoilRun = s.printers[x.printer].spoilRun := (congrArg Printer.spoilRun taken.standing : _)
  have state : t.printers[x.printer].state = if remaining m = 0 then .empty else .ready :=
    (congrArg Printer.state taken.standing : _)
  have settings : t.settings = s.settings := taken.settings
  by_cases full : s.settings.spoilRunLimit ≤ s.printers[x.printer].spoilRun + 1
  · rw [spoilJudged_limit (by rw [settings, run]; exact full)] at effect
    obtain ⟨stands, carried⟩ := taken.stands clears own flags s.printers[x.printer].outstanding
    have printer := runCleared_printer x.printer
      (raiseFault s.printers[x.printer].outstanding x.printer info (runRaised x.printer t))
    generalize runCleared x.printer (raiseFault s.printers[x.printer].outstanding x.printer info (runRaised x.printer t)) = v at *
    obtain ⟨w, next, cancelled, after, -⟩ := exec_status_entry_stands h poll few flight inRange effect stands.before
    have lists : v.printers[x.printer].outstanding = [] := (congrArg (JobView.lists · x.printer) carried.view).trans taken.list
    have idle : w = flagsNoted x.printer 1#5 (acknowledged x.printer e.token v) := by
      refine cancelled.trans (impliedCancel_idle (.inr (.inr fun k hk => ?_)))
      rw [flagsNoted_printer, show (acknowledged x.printer e.token v).printers = v.printers from rfl, lists] at hk
      exact absurd hk List.not_mem_nil
    rw [idle] at next after
    exact ⟨v, next, carried, fun low => absurd full (Nat.not_le.mpr low), fun _ =>
      ⟨after, (congrArg Printer.spoilRun printer).trans rfl⟩⟩
  · have low := Nat.not_le.mp full
    rw [spoilJudged_below (by rw [settings, run]; exact low)] at effect
    have printer := runRaised_printer x.printer t
    have carried : RunJudged t (runRaised x.printer t) :=
      runJudged_modPrinter (f := fun x => { x with spoilRun := x.spoilRun + 1 }) (fun _ => rfl) t
    have lines : (runRaised x.printer t).lines = s.lines := taken.lines
    generalize runRaised x.printer t = v at *
    have unmoved : Unmoved x.printer waiting.toNat v := by
      have lists : v.printers[x.printer].outstanding = [] := by
        rw [printer]
        exact taken.list
      refine ⟨?_, .inr (.inr ?_), .inl ?_⟩
      · rw [printer]
        exact (congrArg Printer.notReady taken.standing : _).trans unmarked
      · rw [lists]
        exact fun _ hk => absurd hk List.not_mem_nil
      · rw [printer]
        exact fun faulted => taken.serving.elim (fun e => nomatch e.symm.trans faulted) fun e => nomatch e.symm.trans faulted
    refine ⟨v, exec_status_entry h poll few flight inRange effect unmoved lines, carried, fun _ => ⟨?_, ?_⟩,
      fun high => absurd high full⟩
    · rw [printer, ← run]
    · rw [printer]
      exact state

end

end Sys2Proof.Machine
end
section
/-! PROOF. A good STATUS, clause by clause (R105). -/

namespace Sys2Proof.Machine

section
variable {s t u v : State} {l : LineId} {x : Exchange} {p : PrinterId} {token waiting : Byte} {i : JobIx} {j : Job} {w : WindowId}
  {y : Tender} {tally : Tally} {m : Magazine} {cause : SpoilCause} {used asked : Nat} {e : OutcomeEntry} {info : FaultInfo}

theorem detail_none (b : Word) : detailOf 0 ||| b = b := by simp [detailOf]

theorem outcomeEntry_replied (token_eq : tokenOf s i = token) (code : ResultCode) (reason : Nat) :
    outcomeEntry (replyTaken p s) i j code reason =
      entryNow s j.slip j.tag code (detailOf reason ||| clampedBit j.clamped) (jobResultBytes token j) := by
  subst token_eq
  rfl

theorem Acknowledges.all (h : Acknowledges l p token t) :
    t.lineRecords[p].ackToken = token ∧ t.lineRecords[p].reported = [token] ∧ t.lines[l].activity = .free :=
  ⟨h.ackToken, h.reported, h.free⟩

/-- A window's PRINTED outcome as its exchange ends (R63, R139, R144). -/
theorem PrintedForWindow.over (h : PrintedForWindow p i j w y tally (replyTaken p s) t) (token_eq : tokenOf s i = token)
    (loaded : s.magazines[p].loaded = true) (blanks : s.magazines[p].next ≤ s.magazines[p].last) :
    let v := entryOver l p token s (runCleared p t)
    let m := s.magazines[p]
    v.magazines = put s.magazines p
      { m with next := m.next + 1, issued := m.issued + 1, notes := m.notes.filter (·.token != token) } ∧
    tallyOf v w j.shift = some { addPrinted y j.amount j.quantity s.settings.clock tally with openJobs := tally.openJobs - 1 } ∧
    v.current[w].shift = s.current[w].shift ∧ (∀ u : WindowId, u ≠ w → v.current[u] = s.current[u]) ∧
    jobAt v i = none ∧ i ∉ v.printers[p].outstanding ∧ i ∈ v.freeStack ∧ v.printers[p].spoilRun = 0 ∧
    v.register = s.register ∧
    entryNow s j.slip j.tag .printed (clampedBit j.clamped) (jobResultBytes token j) ∈ v.port.returns ∧
    (m.next < m.last → v.printers[p].state = .ready) ∧
    (m.next = m.last → v.printers[p].state = .empty ∧ v.printers[p].hold = none ∧
      (PlaceLaw s → ∀ k ∈ s.printers[p].outstanding, isGranted s k = true → k ∉ v.printers[p].outstanding)) := by
  obtain ⟨ended, tallies⟩ := h
  have entry := ended.entry
  have magazines := ended.magazines
  rw [outcomeEntry_replied token_eq, detail_none] at entry
  rw [show tokenOf (replyTaken p s) i = token from token_eq] at magazines
  obtain ⟨gone, run, state, empty⟩ := ended.printed l token s
  have out := remaining_printed (m := s.magazines[p]) loaded blanks (tokenOf (replyTaken p s) i)
  refine ⟨magazines, tallies.tally, tallies.shift, tallies.others, ended.gone, gone, ended.stack, run, ended.register, entry,
    fun early => state.trans (if_neg fun none => ?_), fun last => ?_⟩
  · exact Nat.ne_of_lt early (out.mp none)
  · obtain ⟨hold, leaves⟩ := empty (out.mpr last)
    refine ⟨state.trans (if_pos (out.mpr last)), hold, fun place k listed granted => ?_⟩
    exact leaves (placeLaw_replyTaken place p) k listed ((isGranted_replyTaken p s k).trans granted)

/-- A test print's PRINTED outcome as its exchange ends (R143). -/
theorem PrintedForTest.over (h : PrintedForTest p i j (replyTaken p s) t) (token_eq : tokenOf s i = token) :
    let v := entryOver l p token s (runCleared p t)
    let m := s.magazines[p]
    (jobAt v i = none ∧ i ∈ v.freeStack ∧ i ∉ v.printers[p].outstanding ∧ v.current = s.current ∧ v.closing = s.closing ∧
      entryNow s j.slip j.tag .printed (0#32 ||| clampedBit j.clamped) (jobResultBytes token j) ∈ v.port.returns) ∧
    v.magazines = put s.magazines p
      { m with next := m.next + 1, spoiled := m.spoiled + 1, notes := m.notes.filter (·.token != token) } ∧
    v.register = addEntry (spoiledEntry s p m.next none 0 .test) s.register ∧
    spoilsCount v.dayTotals .test = min 65535 (spoilsCount s.dayTotals .test + 1) ∧ v.printers[p].spoilRun = 0 ∧
    (remaining (testedMagazine token m) ≠ 0 → v.printers[p].state = .ready) := by
  obtain ⟨ended, current, closing⟩ := h
  have entry := ended.entry
  have magazines := ended.magazines
  rw [outcomeEntry_replied token_eq] at entry
  rw [show tokenOf (replyTaken p s) i = token from token_eq] at magazines ended
  obtain ⟨gone, run, state, -⟩ := ended.printed l token s
  exact ⟨⟨ended.gone, ended.stack, gone, current, closing, entry⟩, magazines, ended.register,
    (ended.spoils .test).trans (countSpoils_one .test s.dayTotals), run, fun left => state.trans (if_neg left)⟩

end

end Sys2Proof.Machine
end
section
/-! PROOF. The entry SPOILED, of a window's job and of a test print (R65, R124, R140, R143). -/

namespace Sys2Proof.Machine

/-- A SPOILED entry as the line brings it. -/
def spoiledAs (token k causeByte : Byte) : OutcomeEntry := { token := token, outcome := 2#8, k := k, cause := causeByte }

/-- The blanks a SPOILED outcome takes of a magazine: its k, clamped to what is left (R140). -/
def blanksTaken (k : Byte) (m : Magazine) : Nat := min k.toNat (m.last + 1 - m.next)

/-- A SPOILED outcome of the next serial, of its printer's only job. -/
structure SpoiledNews (s : State) (p : PrinterId) (token k causeByte : Byte) (cause : SpoilCause) (i : JobIx) (j : Job) : Prop
    where
  place : PlaceLaw s
  alone : s.printers[p].outstanding = [i]
  flight : inFlightAs s p token i j
  one : 1 ≤ k.toNat
  four : k.toNat ≤ 4
  known : spoilCauseOf causeByte = some cause
  loaded : s.magazines[p].loaded = true
  serial : j.serial = some s.magazines[p].next
  blanks : s.magazines[p].next ≤ s.magazines[p].last
  noted : ∃ n : Note, s.magazines[p].notes = [n] ∧ n.token = token

section
variable {s t v : State} {l : LineId} {x : Exchange} {p : PrinterId} {token waiting k causeByte : Byte} {i : JobIx} {j : Job}
  {w : WindowId} {tally : Tally} {m : Magazine} {cause : SpoilCause} {g : SpoilRegister} {d : DayTotals} {info : FaultInfo}
  {used : Nat}

/-! ### The news -/

theorem SpoiledNews.inRange (h : SpoiledNews s p token k causeByte cause i j) :
    entryInRange (spoiledAs token k causeByte) = true := by
  obtain ⟨known, -⟩ := h.flight
  simp [entryInRange, spoiledAs, known, h.one, h.four, h.known]

theorem SpoiledNews.some (h : SpoiledNews s p token k causeByte cause i j) : 1 ≤ blanksTaken k s.magazines[p] := by
  have one := h.one
  have blanks := h.blanks
  unfold blanksTaken
  omega

theorem SpoiledNews.spoils (h : SpoiledNews s p token k causeByte cause i j) (ready : s.printers[p].state = .ready) :
    SpoiledAlone (replyTaken p s) p i j k.toNat (blanksTaken k s.magazines[p]) := by
  obtain ⟨note, notes, named⟩ := h.noted
  have token_eq := h.flight.token_eq
  obtain ⟨-, -, -, -, job, state, own⟩ := h.flight
  exact ⟨ready, placeLaw_replyTaken h.place p, h.alone, job, own, state, h.loaded,
    ⟨note, notes, named.trans token_eq.symm⟩, rfl⟩

/-- The outcome charges blanks and job, and the spoil run is judged. -/
theorem SpoiledNews.effect (h : SpoiledNews s p token k causeByte cause i j) (ready : s.printers[p].state = .ready) :
    takeOutcome s.printers[p].outstanding p 1#5 (spoiledAs token k causeByte) i j (replyTaken p s) =
      spoilJudged s.printers[p].outstanding p (spoilRunInfo 1#5 token j.serial)
        (spoilDealt [i] p i j (blanksTaken k s.magazines[p]) cause (replyTaken p s)) := by
  have clamped := (h.spoils ready).clamped
  have token_eq : tokenOf (replyTaken p s) i = token := h.flight.token_eq
  rw [takeOutcome_spoiled (s := replyTaken p s) ⟨h.loaded, h.serial⟩ rfl h.known, takeSpoiled_eq, token_eq, h.alone]
  rw [show (spoiledAs token k causeByte).k = k from rfl, clamped]

theorem status_spoiledNews (h : awaiting s l x) (poll : x.command = .poll) (few : waiting.toNat ≤ 2)
    (ready : s.printers[x.printer].state = .ready) (unmarked : s.printers[x.printer].notReady = none)
    (news : SpoiledNews s x.printer token k causeByte cause i j)
    (taken : SpoilTaken x.printer m g d (replyTaken x.printer s)
      (spoilDealt [i] x.printer i j (blanksTaken k s.magazines[x.printer]) cause (replyTaken x.printer s))) :
    ∃ v, exec (.status l (BitVec.ofNat 8 (x.printer.val % 8 + 1)) 1#8 waiting [spoiledAs token k causeByte]) s =
        .next (entryOver l x.printer token s v) ∧
      SpoilOver l x.printer token m (spoilRunInfo 1#5 token j.serial) s
        (spoilDealt [i] x.printer i j (blanksTaken k s.magazines[x.printer]) cause (replyTaken x.printer s)) v :=
  status_spoiled h poll few unmarked (e := spoiledAs token k causeByte) news.flight news.inRange (news.effect ready) taken
    rfl rfl rfl

/-! ### The exchange's end -/

theorem RunJudged.jobAt (h : RunJudged t v) (idle : isGranted t i = false) : jobAt v i = jobAt t i :=
  jobAt_congr (h.jobs i idle)

theorem RunJudged.gone (h : RunJudged t v) (gone : Machine.jobAt t i = none) : Machine.jobAt v i = none :=
  (h.jobAt (by simp [isGranted, jobIs, gone])).trans gone

theorem RunJudged.cameBack (h : RunJudged t v) (back : Machine.jobAt t i = some (backInQueue j)) :
    Machine.jobAt v i = some (backInQueue j) :=
  (h.jobAt (by simp [isGranted, jobIs, back, backInQueue])).trans back

theorem RunJudged.tallyOf (h : RunJudged t v) (w : WindowId) (shift : Nat) :
    Machine.tallyOf v w shift = Machine.tallyOf t w shift := by
  unfold Machine.tallyOf
  rw [show v.current = t.current from congrArg Books.current h.books,
    show v.closing = t.closing from congrArg Books.closing h.books]

/-- The books of the blanks at the end of the exchange. -/
theorem SpoilTaken.over (h : SpoilTaken p m g d (replyTaken p s) t) (carried : RunJudged t v) (l : LineId) (token : Byte) :
    let o := entryOver l p token s v
    o.magazines = put s.magazines p m ∧ o.register = g ∧ spoilsCount o.dayTotals cause = spoilsCount d cause ∧
      o.printers[p].outstanding = [] := by
  have magazines : v.magazines = t.magazines := congrArg Books.magazines carried.books
  have register : v.register = t.register := congrArg Books.register carried.books
  have totals : v.dayTotals = t.dayTotals := congrArg Books.dayTotals carried.books
  have lists : v.printers[p].outstanding = t.printers[p].outstanding := congrArg (JobView.lists · p) carried.view
  refine ⟨magazines.trans h.magazines, register.trans h.register, ?_, ?_⟩
  · exact (congrArg (spoilsCount · cause) totals).trans (h.spoils cause)
  · rw [entryOver_printer]
    exact lists.trans h.list

theorem remaining_spoiled (loaded : m.loaded = true) (blanks : m.next ≤ m.last) (k : Byte) :
    remaining (spoiledMagazine (blanksTaken k m) m) = 0 ↔ ¬ m.next + blanksTaken k m ≤ m.last := by
  have clamped : blanksTaken k m ≤ m.last + 1 - m.next := Nat.min_le_right ..
  rw [remaining_used (m' := spoiledMagazine (blanksTaken k m) m) loaded (blanksTaken k m) (by omega) ⟨rfl, rfl, rfl⟩]
  omega

/-- A printer is EMPTY where the spoiled blanks were the last (R140). -/
theorem standing_spoiled (loaded : m.loaded = true) (blanks : m.next ≤ m.last) (k : Byte) :
    (if remaining (spoiledMagazine (blanksTaken k m) m) = 0 then PrinterState.empty else .ready) =
      if m.next + blanksTaken k m ≤ m.last then .ready else .empty := by
  by_cases left : m.next + blanksTaken k m ≤ m.last
  · rw [if_pos left, if_neg fun out => (remaining_spoiled loaded blanks k).mp out left]
  · rw [if_neg left, if_pos ((remaining_spoiled loaded blanks k).mpr left)]

/-- The spoil run below its limit at the end of the exchange (R124). -/
theorem SpoilOver.short (h : SpoilOver l p token m info s t v)
    (few : s.printers[p].spoilRun + 1 < s.settings.spoilRunLimit) :
    (entryOver l p token s v).printers[p].spoilRun = s.printers[p].spoilRun + 1 ∧
      (entryOver l p token s v).printers[p].state = if remaining m = 0 then .empty else .ready := by
  rw [entryOver_printer]
  exact h.below few

/-- The spoil run at its limit: a fault, and the run counts anew (R124). -/
theorem SpoilOver.full (h : SpoilOver l p token m info s t v)
    (full : s.settings.spoilRunLimit ≤ s.printers[p].spoilRun + 1) :
    StandsFaulted p info s (entryOver l p token s v) ∧ (entryOver l p token s v).printers[p].spoilRun = 0 := by
  rw [entryOver_printer]
  exact h.limit full

/-! ### A window's job -/

/-- What a SPOILED outcome of a window's job leaves at the end of its exchange. -/
theorem SpoiledForWindow.over (h : SpoiledForWindow p i j w used cause tally (replyTaken p s) t) (carried : RunJudged t v)
    (token_eq : tokenOf s i = token) (one : 1 ≤ used) :
    let o := entryOver l p token s v
    let m := s.magazines[p]
    let charged := addSpoils used tally
    o.magazines = put s.magazines p (spoiledMagazine used m) ∧ o.register = spoiledRegister s p used (some w) j.shift cause ∧
    spoilsCount o.dayTotals cause = min 65535 (spoilsCount s.dayTotals cause + used) ∧ o.printers[p].outstanding = [] ∧
    o.current[w].shift = s.current[w].shift ∧ (∀ u : WindowId, u ≠ w → o.current[u] = s.current[u]) ∧
    (j.reprints < s.settings.reprintLimit →
      jobAt o i = some (backInQueue j.reprinted) ∧ o.queues[w] = i :: s.queues[w] ∧ tallyOf o w j.shift = some charged ∧
        o.port.returns = s.port.returns) ∧
    (s.settings.reprintLimit ≤ j.reprints → jobAt o i = none ∧ i ∈ o.freeStack ∧
      tallyOf o w j.shift = some { charged with openJobs := charged.openJobs - 1 } ∧
      entryNow s j.slip j.tag .spoiled (detailOf (spoilCauseCode cause + 256 * used) ||| clampedBit j.clamped)
        (jobResultBytes token j) ∈ o.port.returns) := by
  obtain ⟨magazines, register, totals, lists⟩ := h.taken.over (cause := cause) carried l token
  have current : v.current = t.current := congrArg Books.current carried.books
  have queues : v.queues[w] = t.queues[w] := congrArg (JobView.queues · w) carried.view
  have stack : v.freeStack = t.freeStack := congrArg JobView.freeStack carried.view
  have currents : v.current[w].shift = s.current[w].shift ∧ ∀ u : WindowId, u ≠ w → v.current[u] = s.current[u] := by
    rw [current]
    by_cases again : j.reprints < s.settings.reprintLimit
    · obtain ⟨-, changed⟩ := h.reprint again
      exact ⟨changed.shift, changed.others⟩
    · obtain ⟨-, -, -, changed⟩ := h.ended (Nat.not_lt.mp again)
      exact ⟨changed.shift, changed.others⟩
  refine ⟨magazines, register, totals.trans (spoiledTotals_count one cause s.dayTotals), lists, currents.1, currents.2,
    fun again => ?_, fun last => ?_⟩
  · obtain ⟨back, changed⟩ := h.reprint again
    exact ⟨carried.cameBack back.job, queues.trans back.queue, (carried.tallyOf w j.shift).trans changed.tally,
      carried.returns.trans back.returns⟩
  · obtain ⟨gone, freed, entry, changed⟩ := h.ended last
    rw [outcomeEntry_replied token_eq, ← carried.returns] at entry
    rw [← stack] at freed
    exact ⟨carried.gone gone, freed, (carried.tallyOf w j.shift).trans changed.tally, entry⟩

/-! ### A test print -/

/-- What a SPOILED outcome of a test print leaves at the end of its exchange. -/
theorem SpoiledForTest.over (h : SpoiledForTest p i j used cause (replyTaken p s) t) (carried : RunJudged t v)
    (token_eq : tokenOf s i = token) (one : 1 ≤ used) :
    let o := entryOver l p token s v
    (jobAt o i = none ∧ i ∈ o.freeStack ∧ i ∉ o.printers[p].outstanding ∧ o.current = s.current ∧ o.closing = s.closing ∧
      entryNow s j.slip j.tag .spoiled (detailOf (spoilCauseCode cause + 256 * used) ||| clampedBit j.clamped)
        (jobResultBytes token j) ∈ o.port.returns) ∧
    o.magazines = put s.magazines p (spoiledMagazine used s.magazines[p]) ∧
    o.register = spoiledRegister s p used none j.shift cause ∧
    spoilsCount o.dayTotals cause = min 65535 (spoilsCount s.dayTotals cause + used) := by
  obtain ⟨magazines, register, totals, lists⟩ := h.taken.over (cause := cause) carried l token
  have current : v.current = t.current := congrArg Books.current carried.books
  have closing : v.closing = t.closing := congrArg Books.closing carried.books
  have freed := h.stack
  have entry := h.entry
  rw [← show v.freeStack = t.freeStack from congrArg JobView.freeStack carried.view] at freed
  rw [outcomeEntry_replied token_eq, ← carried.returns] at entry
  refine ⟨⟨carried.gone h.gone, freed, ?_, current.trans h.current, closing.trans h.closing, entry⟩, magazines, register,
    totals.trans (spoiledTotals_count one cause s.dayTotals)⟩
  rw [lists]
  exact List.not_mem_nil

end

end Sys2Proof.Machine
end
section
/-! PROOF. The obligation on a good STATUS (R105). -/

namespace Sys2Proof.Machine

section
variable {s t : State} {l : LineId} {x : Exchange} {p : PrinterId} {flags waiting : Byte} {i : JobIx} {j : Job}

theorem oldestInFlight_eq (s : State) (p : PrinterId) : oldestInFlight s p =
    ((flightList s p).head?.map (tokenOf s), (flightList s p).head?.bind (serialOf s)) := by
  unfold oldestInFlight
  cases flightList s p <;> rfl

/-- The fault of the first error flag shown (R121). -/
def errorCause (flags : Byte) : FaultCause :=
  if flags.getLsbD 1 then .jam else if flags.getLsbD 2 then .coverOpen else .overheat

theorem errorCause_mismatch (flags : Byte) : errorCause flags ≠ .stockMismatch := by
  unfold errorCause
  split
  · nofun
  · split <;> nofun

theorem anyErrorFlag_iff (flags : Byte) : anyErrorFlag (conditionFlags flags) = true ↔
    flags.getLsbD 1 = true ∨ flags.getLsbD 2 = true ∨ flags.getLsbD 3 = true := by
  unfold anyErrorFlag flagJam flagCoverOpen flagOverheat
  rw [conditionFlags_bit flags (by decide), conditionFlags_bit flags (by decide), conditionFlags_bit flags (by decide),
    Bool.or_eq_true, Bool.or_eq_true, or_assoc]

/-- An error flag shown in service. -/
theorem status_error (h : awaiting s l x) (poll : x.command = .poll) (few : waiting.toNat ≤ 2)
    (serving : s.printers[x.printer].serving)
    (error : flags.getLsbD 1 = true ∨ flags.getLsbD 2 = true ∨ flags.getLsbD 3 = true) :
    ∃ t g, exec (.status l (BitVec.ofNat 8 (x.printer.val % 8 + 1)) flags waiting []) s = .next t ∧
      t.printers[x.printer].lastFlags = conditionFlags flags ∧ StandsFaulted x.printer g s t ∧
      g.cause = errorCause flags ∧ g.flags = some (conditionFlags flags) ∧
      g.token = (flightList s x.printer).head?.map (tokenOf s) ∧
      g.serial = (flightList s x.printer).head?.bind (serialOf s) := by
  obtain ⟨rest, causes⟩ := flagCauses_error (s := s) (p := x.printer) serving ((anyErrorFlag_iff flags).mpr error)
  have first : (if flagJam (conditionFlags flags) then FaultCause.jam else if flagCoverOpen (conditionFlags flags) then
      .coverOpen else .overheat) = errorCause flags := by
    unfold flagJam flagCoverOpen errorCause
    rw [conditionFlags_bit flags (by decide), conditionFlags_bit flags (by decide)]
  rw [first] at causes
  obtain ⟨t, next, stands, last⟩ := exec_status_flags (flags := flags) h poll few serving causes
  refine ⟨t, _, next, last, stands, rfl, rfl, ?_, ?_⟩
  all_goals
    unfold flagInfo
    dsimp only
    rw [if_neg (errorCause_mismatch flags), oldestInFlight_eq]

/-- STOCK_OUT shown in service by a printer whose magazine has blanks. -/
theorem status_stockOut (h : awaiting s l x) (poll : x.command = .poll) (few : waiting.toNat ≤ 2)
    (serving : s.printers[x.printer].serving)
    (calm : ¬(flags.getLsbD 1 = true ∨ flags.getLsbD 2 = true ∨ flags.getLsbD 3 = true)) (out : flags.getLsbD 4 = true)
    (loaded : s.magazines[x.printer].loaded = true) (left : s.magazines[x.printer].next ≤ s.magazines[x.printer].last) :
    ∃ t, exec (.status l (BitVec.ofNat 8 (x.printer.val % 8 + 1)) flags waiting []) s = .next t ∧
      StandsFaulted x.printer (flagInfo s x.printer (conditionFlags flags) .stockMismatch) s t ∧
      t.printers[x.printer].lastFlags = conditionFlags flags := by
  have quiet : anyErrorFlag (conditionFlags flags) = false := Bool.eq_false_iff.mpr (mt (anyErrorFlag_iff flags).mp calm)
  have shown : flagStockOut (conditionFlags flags) = true := (conditionFlags_bit flags (by decide)).trans out
  exact exec_status_flags (flags := flags) h poll few serving (flagCauses_stock serving quiet shown loaded left)

/-- Flags that a FAULTED printer has shown before. -/
theorem status_knownFlags (h : awaiting s l x) (poll : x.command = .poll) (some_ : 1 ≤ waiting.toNat)
    (few : waiting.toNat ≤ 2) (faulted : s.printers[x.printer].state = .faulted)
    (opened : s.printers[x.printer].fault.state = .opened) (unmarked : s.printers[x.printer].notReady = none)
    (known : ∀ b : Fin 5, 1 ≤ b.val → flags.getLsbD b.val = true → s.printers[x.printer].lastFlags.getLsbD b.val = true) :
    exec (.status l (BitVec.ofNat 8 (x.printer.val % 8 + 1)) flags waiting []) s =
      .next (statusIdle s l x.printer (conditionFlags flags) s.lineRecords[x.printer]) := by
  refine exec_status_noEntry (flags := flags) h poll few ⟨unmarked, .inr (.inl (Nat.pos_iff_ne_zero.mp some_)), .inr opened⟩ ?_
  exact flagCauses_known faulted fun b low shown => known b low ((conditionFlags_bit flags b.isLt).symm.trans shown)

/-- No implied cancel of a job that is SENT (R107). -/
theorem status_implied_sent (h : awaiting s l x) (poll : x.command = .poll)
    (opened : s.printers[x.printer].fault.state = .opened) (unmarked : s.printers[x.printer].notReady = none)
    (alone : s.printers[x.printer].outstanding = [i]) (job : jobAt s i = some j) (sent : j.state = .sent) :
    exec (.status l (BitVec.ofNat 8 (x.printer.val % 8 + 1)) 1#8 0#8 []) s =
      .next (statusIdle s l x.printer 1#5 s.lineRecords[x.printer]) := by
  refine exec_status_noEntry (flags := 1#8) h poll (by decide) ⟨unmarked, .inr (.inr fun k hk => ?_), .inr opened⟩
    (flagCauses_clean s x.printer)
  rw [alone] at hk
  rw [List.mem_singleton.mp hk]
  simp [isSending, jobIs, job, sent]

/-- What a test print CANCELLED leaves at the end of its exchange (R141). -/
theorem cancelledTest_over {v : State} {token : Byte} (ended : JobEnded p i (cancelledEntry s i j) (replyTaken p s) v)
    (cancels : Cancels p (replyTaken p s) v) (ready : s.printers[p].state = .ready) (token_eq : tokenOf s i = token) :
    let o := entryOver l p token s v
    (jobAt o i = none ∧ i ∈ o.freeStack ∧ i ∉ o.printers[p].outstanding ∧ o.current = s.current ∧ o.closing = s.closing ∧
      entryNow s j.slip j.tag .withdrawn (1#32 ||| clampedBit j.clamped) (jobResultBytes token j) ∈ o.port.returns) ∧
    o.register = s.register ∧ o.dayTotals = s.dayTotals ∧ o.printers[p].state = .ready := by
  have entry := ended.entry
  unfold cancelledEntry at entry
  rw [token_eq] at entry
  refine ⟨⟨ended.gone, ended.stack, ?_, congrArg Books.current cancels.books, congrArg Books.closing cancels.books, entry⟩,
    congrArg Books.register cancels.books, congrArg Books.dayTotals cancels.books,
    entryOver_ready (cancels.steady.state p) ready⟩
  rw [entryOver_printer]
  dsimp only
  rw [ended.list]
  simp

end

/-- Settles O59, clause by clause: each from the lemma on how such a STATUS ends its exchange. -/
theorem statusTakesPrintedOutcome : Obligations.StatusTakesPrintedOutcome := by
  unfold Obligations.StatusTakesPrintedOutcome
  intro s l x h
  dsimp only
  refine ⟨fun clear ⟨ready, unmarked⟩ waiting few => ?_, fun poll => ⟨fun waiting few ⟨ready, unmarked⟩ => ?_,
    fun token waiting i j w y c ⟨ready, unmarked⟩ few flight window tender before more => ⟨?_, ?_, ?_, ?_, ?_⟩,
    fun token waiting i j ⟨ready, unmarked⟩ few flight test => ⟨?_, ?_, ?_⟩,
    fun e waiting ⟨ready, unmarked⟩ few inRange => ⟨fun told => ?_, fun fresh none => ?_⟩,
    fun i j place faulted opened unmarked alone job => ⟨fun sending => ?_, fun sent => ?_⟩,
    fun flags waiting few serving => ⟨fun error => ?_, fun calm out loaded left => ?_⟩,
    fun flags waiting some_ few faulted opened unmarked => ⟨fun known => ?_, fun jam fresh => ?_⟩,
    fun token waiting few serving marked => ?_, fun waiting few faulted acknowledged unmarked => ?_⟩⟩
  · exact exec_status_clear h clear few (unmoved_of_clean ready unmarked _)
  · exact exec_status_noEntry (flags := 1#8) h poll few (unmoved_of_clean ready unmarked _) (flagCauses_clean s x.printer)
  -- entries of a window's job
  · intro loaded serial blanks quiet
    obtain ⟨t, next, printed⟩ := status_printed_window h poll few ready unmarked flight window tender before more loaded
      serial blanks quiet
    exact ⟨_, next, (entryOver_acknowledges ..).all, printed.over flight.token_eq loaded blanks⟩
  · intro k causeByte cause note place alone one four known loaded serial blanks notes named
    have news : SpoiledNews s x.printer token k causeByte cause i j :=
      ⟨place, alone, flight, one, four, known, loaded, serial, blanks, note, notes, named⟩
    have dealt := (news.spoils ready).dealt_window window ((tallyOf_replyTaken ..).trans before) more cause
    obtain ⟨v, next, judged⟩ := status_spoiledNews h poll few ready unmarked news dealt.taken
    obtain ⟨magazines, register, totals, lists, shift, others, again, last⟩ :=
      dealt.over (l := l) judged.carried flight.token_eq news.some
    refine ⟨_, next, (entryOver_acknowledges ..).all, magazines, register, totals, lists, shift, others, again, last,
      fun run => ?_, fun run => ?_⟩
    · obtain ⟨count, state⟩ := judged.short run
      exact ⟨count, state.trans (standing_spoiled loaded blanks k)⟩
    · obtain ⟨stands, count⟩ := judged.full run
      exact ⟨stands.shown rfl, count⟩
  · intro k causeByte place alone only
    obtain ⟨t, next, acknowledges, rest⟩ := status_cancelled_window h poll few ready unmarked flight window place alone only
    exact ⟨t, next, acknowledges.all, rest⟩
  · intro k causeByte first second i' notes own other named
    exact status_cancelled_pair h poll few ready unmarked flight window notes own other named
  · intro outcome k causeByte code inRange sent wrong
    obtain ⟨t, next, acknowledges, stands, rest⟩ := status_inconsistent h poll few ready flight inRange code sent wrong
    exact ⟨t, next, acknowledges.all, stands.shown rfl, rest⟩
  -- entries of a test print
  · intro loaded serial blanks
    obtain ⟨t, next, printed, left⟩ := status_printed_test h poll few ready unmarked flight test loaded serial blanks
    obtain ⟨ended, magazines, register, totals, run, state⟩ := printed.over (l := l) flight.token_eq
    exact ⟨_, next, ⟨(entryOver_acknowledges ..).all, ended⟩, magazines, register, totals, run, state left⟩
  · intro k causeByte cause note place alone one four known loaded serial blanks notes named
    have news : SpoiledNews s x.printer token k causeByte cause i j :=
      ⟨place, alone, flight, one, four, known, loaded, serial, blanks, note, notes, named⟩
    have dealt := (news.spoils ready).dealt_test test cause
    obtain ⟨v, next, judged⟩ := status_spoiledNews h poll few ready unmarked news dealt.taken
    obtain ⟨ended, magazines, register, totals⟩ := dealt.over (l := l) judged.carried flight.token_eq news.some
    exact ⟨_, next, ⟨(entryOver_acknowledges ..).all, ended⟩, magazines, register, totals, fun run => (judged.short run).1⟩
  · intro k causeByte place alone only
    obtain ⟨v, t, next, rfl, ended, cancels, magazines⟩ := status_cancelled_test h poll few ready unmarked flight test only
    obtain ⟨job, register, totals, state⟩ := cancelledTest_over (l := l) ended cancels ready flight.token_eq
    exact ⟨_, next, ⟨(entryOver_acknowledges ..).all, job⟩, magazines, register, totals, state⟩
  -- entries of no job
  · exact exec_status_repeat h poll few (unmoved_of_clean ready unmarked _) inRange told
  · obtain ⟨marks, next, mark, others⟩ :=
      exec_status_stray h poll few (unmoved_of_clean ready unmarked _) inRange fresh none
    exact ⟨_, next, rfl, mark, others⟩
  -- no entry
  · exact status_implied h poll place faulted opened unmarked alone job sending
  · exact status_implied_sent h poll opened unmarked alone job sent
  · obtain ⟨t, g, next, last, stands, cause, shown, token, serial⟩ := status_error h poll few serving error
    have faulted := stands.shown shown
    rw [cause, token, serial] at faulted
    exact ⟨t, next, last, faulted⟩
  · obtain ⟨t, next, stands, last⟩ := status_stockOut h poll few serving calm out loaded left
    exact ⟨t, next, last, stands.shown rfl⟩
  · exact status_knownFlags h poll some_ few faulted opened unmarked known
  · subst jam
    exact exec_status_newJam h poll some_ few faulted opened fresh
  · obtain ⟨t, next, stands, last⟩ := exec_status_mark h poll few serving marked
    exact ⟨t, next, last, stands.shown rfl⟩
  · exact exec_status_recovery h poll few faulted acknowledged unmarked

end Sys2Proof.Machine
end
